-- ==== Sys2Proof/Word.lean ====
section
/-!
DEFINITION. The plain words of the Gromal 410 model: the values the manual treats as bits or as small numbers.
-/
namespace Sys2Proof

/-- A byte of chart memory, of a link frame or of a chart port message. -/
abbrev Byte := BitVec 8

/-- A gray pixel value, 0 (white) to 15 (black): four bits, two grays to a byte (00_scope.md, Terms). -/
abbrev Gray := BitVec 4

/-- The grays of one line, in pixel order. -/
abbrev Pixels := List Gray

/-- A 16-bit line fingerprint (R6). -/
abbrev Fingerprint := BitVec 16

/-- A station number, 0 to 7, compared as a plain integer (00_scope.md, Conventions). -/
abbrev Station := Fin 8

/-- A width code or a line-rate code of a legal kind: 0, 1 or 2 (R51). -/
abbrev Code := Fin 3

/-- A chart key: the origin station and that station's origin sequence (R51, R79). -/
structure Key where
  origin : Station
  sequence : Byte
deriving DecidableEq, Repr

/-- What the host clocks into the chart port in a transfer that brings no request: its first byte, 02 for a READ, and how
many bytes follow it (R177). -/
structure Clocking where
  first : Byte
  clocks : Nat
deriving DecidableEq, Repr

end Sys2Proof
end

