-- ==== Sys2Proof/Config.lean ====
section
/-!
DEFINITION. The figures the manual fixes for every Gromal 410, and the values it leaves open.

Station time is counted in microseconds, the bit time of the station link (R46).
The free values are constants without a body: nothing in Lean can evaluate them, so a claim holds whatever they are.
-/
namespace Sys2Proof

/-- One millisecond of station time, in bit times of 1 µs (R46). -/
abbrev Config.millisecond : Nat := 1000

/-- The loss time, 6 s (R68; 04_roster_and_joining.md section 4.1). -/
abbrev Config.lossTime : Nat := 6000 * Config.millisecond

/-- The listening period, 6 s (R70). -/
abbrev Config.listenTime : Nat := 6000 * Config.millisecond

/-- The HAIL period, 2 s (R72). -/
abbrev Config.hailPeriod : Nat := 2000 * Config.millisecond

/-- How long a heard OPEN makes a record adoptable, 10 s (05_chart_directory.md section 5.2). -/
abbrev Config.adoptionWindow : Nat := 10000 * Config.millisecond

/-- The response window of an ASK and the wait of a fallback, 150 ms (R120, R121, R128). -/
abbrev Config.responseWindow : Nat := 150 * Config.millisecond

/-- The body time of a fetch in RECEIVING, 400 ms (R121). -/
abbrev Config.bodyTime : Nat := 400 * Config.millisecond

/-- The deferral of a line after a heard ASK or a BUSY, 550 ms (R123, R125). -/
abbrev Config.deferralTime : Nat := 550 * Config.millisecond

/-- Lines of a slot's line table (R23). -/
abbrev Config.linesPerSlot : Nat := 2048

/-- The highest chart line (R23). -/
abbrev Config.lastLine : Nat := 2047

/-- Writes the write queue holds (R28). -/
abbrev Config.writeQueuePlaces : Nat := 4

/-- Entries of the line pool (R139). -/
abbrev Config.poolEntries : Nat := 512

/-- PROVISIONAL entries taken at most, and own lines handed at most (R99, R140). -/
abbrev Config.provisionalEntries : Nat := 64

/-- FREE VALUE (log entry 6). Whether byte `index` of a write cut short, the `occurrence`-th such write, holds the
new content already: R41 and R165 say only "whatever the interrupted write had reached". -/
opaque Config.interruptedByteIsNew (occurrence index : Nat) : Bool

/-- FREE VALUE (log entry 7). The pixel tone of a pixel that got no sample, in the search period that was in progress
when a reception ended (R17 with R3): the manual states no mean of no samples. The first argument is the sample count. -/
opaque Config.unsampledTone (sampleCount pixel : Nat) : Nat

/-- FREE VALUE (log entry 8). The instantaneous frequency of the sample numbered by the argument when its analytic
sample, or the one before it, is zero and so has no phase (R1). The model clamps it to 6000 as R1 does. -/
opaque Config.phaselessFrequency (sampleCount : Nat) : Nat

/-- FREE VALUE (log entry 16). The source station that goes with content which has none, for a chart line: a shadow entry or a
snapshot of no content at all, which R127 and R141 say does not come about. -/
opaque Config.absentSource (line : Nat) : Station

end Sys2Proof
end

