-- ==== Sys2Proof/Syntax.lean ====
section
/-!
DEFINITION. The commands of the Gromal 410: one constructor for each row of spec/opcode_table.json.

The part has no instructions.
Its steps are events at its pins, events inside it that the manual calls steps (95_what_each_step_holds.md), timers that
run out, frames that arrive on the station link and requests that the host writes to the chart port.
A frame operand is the whole frame as the receive checker took it: byte 0, the length byte, the payload and the two CRC
bytes (R46).
A host request's operands are its parameter bytes (section 11.2).
-/
namespace Sys2Proof

inductive Instr where
  /-- POWER_GOOD_RISING (R156). -/
  | powerGoodRising
  /-- POWER_GOOD_FALLING (R156). -/
  | powerGoodFalling
  /-- STRAP_STREAM_READ (R157): the 64 strap bits, stream bit 0 the most significant bit of `stream` (R184). -/
  | strapStreamRead (stream : BitVec 64)
  /-- RESET_ASSERTED (R158). -/
  | resetAsserted
  /-- RESET_DEASSERTED (R158). -/
  | resetDeasserted
  /-- AUDIO_SAMPLE (R1): the 16-bit signed sample, and the imaginary part of its analytic sample in 1/65536 of an input
  sample unit, which the manual does not make computable (log entry 5). -/
  | audioSample (audio : BitVec 16) (quadrature : Int)
  /-- START_TONE_CONFIRMED (R9). -/
  | startToneConfirmed
  /-- STOP_TONE_CONFIRMED (R16). -/
  | stopToneConfirmed
  /-- END_OF_START_TONE (R10). -/
  | endOfStartTone
  /-- SEARCH_PERIOD_END (R8). -/
  | searchPeriodEnd
  /-- PHASING_PERIOD_END (R11). -/
  | phasingPeriodEnd
  /-- IMAGE_LINE_END (R14). -/
  | imageLineEnd
  /-- SPLIT_CLEAR (R108): the waiting split clear is carried out. -/
  | splitClear
  /-- FREEZE_CARRIED_OUT (R143): the waiting freeze of `slot` is carried out. -/
  | freezeCarriedOut (slot : Nat)
  /-- COMPOSITE_WRITE_COMPLETE (R29). -/
  | compositeWriteComplete
  /-- POOL_WRITE_COMPLETE (R30). -/
  | poolWriteComplete
  /-- CANDIDATE_TAKEN (R31). -/
  | candidateTaken
  /-- READ_LINES_READ (R33). -/
  | readLinesRead
  /-- BODY_SNAPSHOT (R127): the body in place `place` of the body send queue, 0 the head. -/
  | bodySnapshot (place : Nat)
  /-- TALLY_REQUEUE (R113). -/
  | tallyRequeue
  /-- TRANSMIT_START (R49). -/
  | transmitStart
  /-- ARBITRATION_LOST (R50): at bit `bit` of byte 0, 7 the first sent. -/
  | arbitrationLost (bit : Fin 8)
  /-- COLLISION_FAULT (R62). -/
  | collisionFault
  /-- FRAME_SENT (R62). -/
  | frameSent
  /-- RECEIVE_FRAME_DISCARDED (R52): the bytes taken, and whether a resync bit read dominant (R47). -/
  | receiveFrameDiscarded (frame : List Byte) (resyncDominant : Bool)
  /-- OWN_NUMBER_FRAME (R74). -/
  | ownNumberFrame (frame : List Byte)
  /-- HAIL_RECEIVED (R67). -/
  | hailReceived (frame : List Byte)
  /-- OPEN_RECEIVED (R84). -/
  | openReceived (frame : List Byte)
  /-- CLOSE_RECEIVED (R86). -/
  | closeReceived (frame : List Byte)
  /-- TALLY_RECEIVED (R87). -/
  | tallyReceived (frame : List Byte)
  /-- ASK_RECEIVED (R126). -/
  | askReceived (frame : List Byte)
  /-- DECLINE_RECEIVED (R123). -/
  | declineReceived (frame : List Byte)
  /-- BODY_SEGMENT_RECEIVED (R130). -/
  | bodySegmentReceived (frame : List Byte)
  /-- LOSS_TIMER_EXPIRY (R68), of the roster entry of `peer`. -/
  | lossTimerExpiry (peer : Station)
  /-- LISTEN_TIMER_EXPIRY (R71). -/
  | listenTimerExpiry
  /-- HAIL_TIMER_EXPIRY (R72). -/
  | hailTimerExpiry
  /-- QUIET_TIMER_EXPIRY (R93), of the record in `slot`. -/
  | quietTimerExpiry (slot : Nat)
  /-- BATCH_TIMER_EXPIRY (R113). -/
  | batchTimerExpiry
  /-- FETCH_FIRST_DEADLINE (R121), of the fetch that targets `target`. -/
  | fetchFirstDeadline (target : Station)
  /-- FETCH_TIMEOUT (R124), of the fetch that targets `target`. -/
  | fetchTimeout (target : Station)
  /-- DEFERRAL_EXPIRY (R125), of row `line` of `slot`. -/
  | deferralExpiry (slot line : Nat)
  /-- FALLBACK_TIMER_EXPIRY (R128), of the timer for `key` and `line`. -/
  | fallbackTimerExpiry (key : Key) (line : Nat)
  /-- READ_LINES (R180). -/
  | readLines (slot : Byte) (first : BitVec 16) (count : Byte)
  /-- READ_DIRECTORY (R97). -/
  | readDirectory
  /-- FREEZE (R142). -/
  | freeze (slot : Byte)
  /-- THAW (R146). -/
  | thaw (slot : Byte)
  /-- DISCARD (R94). -/
  | discard (slot : Byte)
  /-- TAKE (R172). -/
  | take (level : Byte)
  /-- POLL (R173). -/
  | poll
  /-- SET_MASK (R170). -/
  | setMask (mask : Byte)
  /-- PROMOTE (R171): two event kind codes, 00 for absent. -/
  | promote (first second : Byte)
  /-- STATUS (R179). -/
  | status
  /-- READ_STRAPS (R184). -/
  | readStraps
  /-- RESTART (R159). -/
  | restart
  /-- BAD_REQUEST (R179): the whole request message, its kind byte first. -/
  | badRequest (message : List Byte)
  /-- READ_TRANSFER (R177). -/
  | readTransfer (clocking : Clocking)
  /-- LINE_IDLE (R47). -/
  | lineIdle
deriving DecidableEq, Repr

end Sys2Proof
end

