-- ==== Sys2Proof/Decode.lean ====
section
/-!
DEFINITION. The command that a word of bits spells. No row of spec/opcode_table.json gives bits (every row's list of fields
is empty), so no word spells a command.
-/
namespace Sys2Proof

/-- The command that the `nbits` bits of `w` spell: none, since no row of the table has bits. -/
def decodeTableWord (nbits w : Nat) : Option Instr :=
  match nbits, w with
  | _, _ => none

end Sys2Proof
end

