-- ==== Sys2Proof/Machine/State.lean ====
section
/-!
DEFINITION. The state of a Gromal 410, block by block, as plain data, and the state after reset.

A table keyed by numbers (slots, lines, pool entries, stations) is a list of key and value pairs with rising keys, in
which a key that holds nothing is not listed.
Outputs that the manual defines from other state (ATTENTION, RESPONSE READY, the port status) are computed from it, in
Machine/Flags.lean.
Fields marked MODEL'S OWN are not the manual's; each names its log entry.
-/
namespace Sys2Proof.Machine

/-! ## Link frames (R51) -/

/-- A CLOSE reason, and the reasons a record closed (R51, section 5.1). -/
inductive CloseReason where
  | stop | fade | length | newStart | reset | quiet | splitAway
deriving DecidableEq, Repr

/-- A DECLINE reason (R51). -/
inductive DeclineReason where
  | unknownChart | noLine | busy
deriving DecidableEq, Repr

/-- The fields of a HAIL (R51, R72). -/
structure Hail where
  joining : Bool
  width : Code
  rate : Code
  boundKey : Option Key
deriving DecidableEq, Repr

/-- The fields of an OPEN (R51). -/
structure ChartOpen where
  key : Key
  rate : Code
  width : Code
  late : Bool
  split : Bool
  reannounce : Bool
  highest : Nat
deriving DecidableEq, Repr

/-- The fields of a CLOSE (R51). -/
structure ChartClose where
  key : Key
  reason : CloseReason
  lastLine : Option Nat
deriving DecidableEq, Repr

/-- One line of a TALLY (R51). -/
structure TallyEntry where
  grade : Byte
  fingerprint : Fingerprint
deriving DecidableEq, Repr

/-- The fields of a TALLY; its count is the length of `entries` (R51). -/
structure Tally where
  key : Key
  first : Nat
  age : Fin 8
  entries : List TallyEntry
deriving DecidableEq, Repr

/-- The fields of an ASK (R51). -/
structure Ask where
  key : Key
  line : Nat
  primary : Station
  fallback : Option Station
deriving DecidableEq, Repr

/-- The fields of a DECLINE (R51). -/
structure Decline where
  key : Key
  line : Nat
  requester : Station
  reason : DeclineReason
deriving DecidableEq, Repr

/-- What segment 0 of a body carries beside its pixels (R51). -/
structure BodyHeader where
  grade : Byte
  source : Station
  width : Code
  requester : Station
deriving DecidableEq, Repr

/-- The fields of one BODY segment; `pixels` are its 64 pixel bytes, two grays a byte (R51). -/
structure Segment where
  key : Key
  line : Nat
  number : Nat
  count : Nat
  endMark : Bool
  header : Option BodyHeader
  pixels : List Byte
deriving DecidableEq, Repr

/-- The payload of a frame, by its class and kind (section 3.3). -/
inductive Payload where
  | chartOpen (o : ChartOpen)
  | chartClose (c : ChartClose)
  | ask (a : Ask)
  | decline (d : Decline)
  | tally (t : Tally)
  | body (b : Segment)
  | hail (h : Hail)
deriving DecidableEq, Repr

/-- A valid frame: its sender and its payload (R51). -/
structure Frame where
  sender : Station
  payload : Payload
deriving DecidableEq, Repr

/-! ## Configuration (chapter 9) -/

/-- The configuration state (section 9.1). -/
inductive ConfigState where
  | off | reading | holding | run
deriving DecidableEq, Repr

/-- The pending reset kind (section 9.1). -/
inductive ResetKind where
  | cold | warm
deriving DecidableEq, Repr

/-- The CONFIG_FAULT causes, in the order of their ranks (R161, section 10.1). -/
inductive FaultCause where
  | widthCode | rateCode | depthCode | reservedBits | widthReduced
deriving DecidableEq, Repr

/-- The effective settings (R160), W after the step-down of R162, and the slot count C. -/
structure Settings where
  station : Station
  rate : Code
  width : Code
  margin : Nat
  thresholdCode : Nat
  floorCode : Nat
  fallbackEnable : Bool
  bankCode : Nat
  depthCode : Code
  slotCount : Nat
deriving DecidableEq, Repr

structure Configuration where
  state : ConfigState
  strapBits : Nat
  latched : BitVec 64
  settings : Settings
  causes : List FaultCause
  pendingReset : ResetKind
  /-- The level of the RESET input: asserted or not (R156 to R158). -/
  resetPin : Bool
deriving DecidableEq, Repr

/-! ## Reception (chapter 1) -/

/-- The demodulator state (section 1.1). -/
inductive Demodulator where
  | search | startTone | phasing | image
deriving DecidableEq, Repr

/-- An analytic sample: both parts in 1/65536 of an input sample unit (R1, log entry 5). -/
structure Analytic where
  re : Int
  im : Int
deriving DecidableEq, Repr

/-- A tone detector's run (R7). -/
structure ToneRun where
  start : Nat
  gap : Nat
  confirmed : Bool
deriving DecidableEq, Repr

/-- The phasing record: period count, pulse count, the last four pulse positions, oldest first (R11). -/
structure Phasing where
  periods : Nat
  pulses : Nat
  positions : List Nat
deriving DecidableEq, Repr

/-- One pixel's frequency sum and sample count in the line assembler (R3). -/
structure PixelSum where
  total : Nat
  count : Nat
deriving DecidableEq, Repr

/-- The line assembler (R3): per-pixel sums, the pixel reached last first; the envelope sum; and the position of the next
sample in the line. -/
structure Assembler where
  sums : List (Nat × PixelSum)
  envelope : Nat
  position : Nat
deriving DecidableEq, Repr

/-- A finished own line waiting in a line buffer (R19). -/
structure BufferedLine where
  slot : Nat
  line : Nat
  ownIndex : Nat
  grade : Nat
  fingerprint : Fingerprint
  pixels : Pixels
deriving DecidableEq, Repr

structure Reception where
  state : Demodulator
  previous : Option Analytic
  startRun : Option ToneRun
  stopRun : Option ToneRun
  /-- The line timer: the position in the line period of the next sample (R2). -/
  linePosition : Nat
  sampleCount : Nat
  lateCount : Nat
  phasing : Phasing
  origin : Nat
  unphased : Bool
  ownIndex : Nat
  fadeCount : Nat
  assembler : Assembler
  buffers : List BufferedLine
  binding : Option Nat
  /-- MODEL'S OWN (log entry 3): samples still to pass before image line 0 starts (R2). -/
  skip : Nat
  /-- MODEL'S OWN (log entry 3): the last sample of the period or image line has arrived and its end is not yet taken. -/
  endDue : Bool
  /-- MODEL'S OWN (log entry 3): the two values of the last sample, for R10's sample 0. -/
  lastFrequency : Nat
  lastEnvelope : Nat
deriving DecidableEq, Repr

/-! ## The line table and its write queue (chapter 2) -/

/-- How content reached an entry (section 2.1). -/
inductive Origin where
  | own | peer | merged
deriving DecidableEq, Repr

/-- A line entry; its pixels lie in chart memory (section 2.1, R163). -/
structure LineEntry where
  committed : Nat
  source : Option Station
  origin : Option Origin
  pending : Option Nat
deriving DecidableEq, Repr

/-- The kind of a queued write (R28). -/
inductive WriteKind where
  | composite | merge | pool
deriving DecidableEq, Repr

/-- A queued write (R28). `origin` is absent on a provisional store (R24). `content` is absent while it is still to be
read from the pool entry to free, when the write starts (R35). `order` numbers the writes in the order they were queued
(MODEL'S OWN, log entry 4: it tells a read which writes were queued before it, R33). `stale` marks a POOL write whose pool
entry was freed while it was queued (MODEL'S OWN, log entry 13). -/
structure Write where
  order : Nat
  kind : WriteKind
  slot : Nat
  target : Nat
  grade : Nat
  source : Station
  origin : Option Origin
  content : Option Pixels
  frees : Option Nat
  stale : Bool := false
deriving DecidableEq, Repr

/-- A provisional store in the waiting place (R30). -/
structure ProvisionalStore where
  slot : Nat
  entry : Nat
  grade : Nat
  pixels : Pixels
deriving DecidableEq, Repr

/-- A request that waits for a slot to be quiet (R37). -/
inductive QuietRequest where
  | splitClear (slot : Nat)
  | freeze (slot : Nat)
deriving DecidableEq, Repr

structure LineTable where
  queue : List Write
  /-- The oldest write is in progress (R28): clear only while a request of R37 holds the next write back. -/
  started : Bool
  store : Option ProvisionalStore
  /-- The sender last served (R31). -/
  lastServed : Station
  /-- The requests waiting for quiet, in the order asked (R37); a slot's freeze waiting flag (section 8.1) and the
  port's pending FREEZE set (section 11.1) are the freezes among them. -/
  requests : List QuietRequest
  /-- MODEL'S OWN (log entry 4): the number the next write takes. -/
  nextOrder : Nat
deriving DecidableEq, Repr

/-! ## The chart directory (chapter 5) and the holder map (chapter 7) -/

/-- A record's state (section 5.1). -/
inductive ChartState where
  | aligning | opened | closed
deriving DecidableEq, Repr

/-- A record's hold (section 8.1). -/
inductive Hold where
  | none | frozen | thawing
deriving DecidableEq, Repr

/-- Why a contributor ended (section 5.1). -/
inductive EndCause where
  | close | loss | reset
deriving DecidableEq, Repr

/-- A contributor: ACTIVE while `ended` is absent, ENDED with its cause otherwise (section 5.1). -/
structure Contributor where
  station : Station
  ended : Option EndCause
deriving DecidableEq, Repr

/-- The fate of the OPEN this station queued for a record (R82). -/
inductive OwnOpen where
  | none | queued | done
deriving DecidableEq, Repr

/-- The latest TALLY heard for a key (section 5.1). -/
structure LastTally where
  time : Nat
  sample : Nat
  lastLine : Nat
  age : Nat
deriving DecidableEq, Repr

/-- A chart record (section 5.1). The quiet timer runs while `quietDeadline` is present. -/
structure ChartRecord where
  key : Key
  state : ChartState
  hold : Hold
  bound : Bool
  offset : Option Int
  expected : Option Nat
  late : Bool
  rate : Code
  contributors : List Contributor
  highest : Option Nat
  lastOwn : Option Nat
  ownLinesHanded : Bool
  ownOpen : OwnOpen
  lastOpenHeard : Option Nat
  lastTally : Option LastTally
  quietDeadline : Option Nat
  quietFlag : Bool
  lastCloseReason : Option CloseReason
  closeReason : Option CloseReason
  closeOrder : Option Nat
deriving DecidableEq, Repr

/-- A holder of a line: a station and the grade it announced (section 7.1). -/
structure Holder where
  station : Station
  grade : Nat
deriving DecidableEq, Repr

/-- A holder map row (section 7.1). -/
structure HolderRow where
  best : Option Holder
  second : Option Holder
  attempts : Nat
  deferral : Option Nat
  exhausted : Bool
deriving DecidableEq, Repr

/-- A slot in use: its record, its line table (entries that are not empty or have a pending grade) and its holder map
(rows that hold anything). A slot not in use has none of the three (R23). -/
structure Slot where
  record : ChartRecord
  entries : List (Nat × LineEntry)
  rows : List (Nat × HolderRow)
deriving DecidableEq, Repr

/-! ## The station link (chapter 3) -/

/-- A frame in a transmit queue: its fault count, and whether it was withdrawn while in flight (R54, R60, R62). -/
structure QueuedFrame where
  payload : Payload
  faults : Nat
  withdrawn : Bool
deriving DecidableEq, Repr

/-- The frame classes, in the order of their numbers 0 to 4 (section 3.3). -/
inductive FrameClass where
  | openClose | askDecline | tally | body | hail
deriving DecidableEq, Repr

/-- The receive framing (R47). -/
inductive Framing where
  | idleCount | inFrame | waitForIdle
deriving DecidableEq, Repr

/-- The transmitter (section 3.1). -/
inductive Transmitter where
  | free | waiting | arbitrating | sending
deriving DecidableEq, Repr

/-- The station link. `attempt` is the class whose head frame is in flight. -/
structure Link where
  framing : Framing
  recessive : Nat
  /-- The bytes of the frame so far: a row of the table takes a frame whole, so none stand between rows (log entry 32). -/
  taken : List Byte
  openClose : List QueuedFrame
  askDecline : List QueuedFrame
  tally : List QueuedFrame
  segments : List QueuedFrame
  hail : Option QueuedFrame
  hailReplacement : Option QueuedFrame
  transmitter : Transmitter
  attempt : Option FrameClass
  mute : Bool
  /-- MODEL'S OWN (log entry 32): while the framing is IN FRAME, the station time at which the frame's start bit began. -/
  frameStart : Nat
deriving DecidableEq, Repr

/-! ## The roster (chapter 4) -/

/-- The station state the ROSTER holds (section 4.1). -/
inductive StationState where
  | listen | joined
deriving DecidableEq, Repr

/-- A roster entry's state (section 4.1). -/
inductive PeerState where
  | absent | live | lost
deriving DecidableEq, Repr

/-- What a roster entry keeps of the last HAIL (section 4.1). -/
structure LastHail where
  width : Code
  rate : Code
  boundKey : Option Key
deriving DecidableEq, Repr

structure RosterEntry where
  state : PeerState
  lossDeadline : Option Nat
  lastHail : Option LastHail
deriving DecidableEq, Repr

/-- The roster. A timer runs while its deadline is present; a peer not listed in `peers` is ABSENT. -/
structure Roster where
  state : StationState
  listenDeadline : Option Nat
  hailDeadline : Option Nat
  joiningPending : Bool
  peers : List (Nat × RosterEntry)
deriving DecidableEq, Repr

/-! ## Alignment (chapter 6) -/

/-- The ALIGNMENT UNIT's state (section 6.1). -/
inductive AlignState where
  | idle | collecting | splitWait | migrating
deriving DecidableEq, Repr

/-- A held line (section 6.1). -/
structure HeldLine where
  ownIndex : Nat
  grade : Nat
  fingerprint : Fingerprint
  entry : Nat
deriving DecidableEq, Repr

/-- A peer's reference fingerprint for a chart line (section 6.1). -/
structure Reference where
  line : Nat
  station : Station
  grade : Nat
  fingerprint : Fingerprint
deriving DecidableEq, Repr

structure Alignment where
  state : AlignState
  slot : Option Nat
  key : Option Key
  expected : Nat
  handed : Nat
  provisional : List HeldLine
  references : List Reference
  /-- Held lines still to move, each with its target chart line. -/
  migration : List (HeldLine × Nat)
deriving DecidableEq, Repr

/-! ## The fetch unit (chapter 7) -/

/-- One line of the batch (section 7.1). -/
structure BatchLine where
  grade : Nat
  fingerprint : Fingerprint
deriving DecidableEq, Repr

/-- The tally batch: COLLECTING, or WAITING when `waiting`. The batcher is EMPTY when there is none (R112). -/
structure Batch where
  slot : Nat
  first : Nat
  lines : List BatchLine
  deadline : Option Nat
  lastTaken : Nat
  waiting : Bool
deriving DecidableEq, Repr

/-- A fetch entry's phase (section 7.1). -/
inductive FetchPhase where
  | askQueued | awaitingFirst | awaitingFallback | receiving
deriving DecidableEq, Repr

structure FetchEntry where
  target : Station
  fallback : Option Station
  slot : Nat
  key : Key
  line : Nat
  phase : FetchPhase
  deadline : Option Nat
deriving DecidableEq, Repr

structure FallbackTimer where
  key : Key
  line : Nat
  primary : Station
  requester : Station
  expiry : Nat
deriving DecidableEq, Repr

/-- A snapshot: the content of a body (R127). -/
structure Snapshot where
  grade : Nat
  source : Option Station
  pixels : Pixels
deriving DecidableEq, Repr

/-- A body in the body send queue. `asked` numbers the first write that its snapshot read does not wait for (R33);
`formed` says that the link has formed its segments (R59). -/
structure SendBody where
  slot : Nat
  key : Key
  line : Nat
  requester : Station
  snapshot : Option Snapshot
  asked : Nat
  formed : Bool
deriving DecidableEq, Repr

/-- A reassembly context in RECEIVING, or in WAITING when `waitingSlot` is present; an IDLE one is not listed. -/
structure Context where
  key : Key
  line : Nat
  count : Nat
  next : Nat
  grade : Nat
  source : Station
  width : Code
  requester : Station
  pixels : Pixels
  waitingSlot : Option Nat
deriving DecidableEq, Repr

structure Fetch where
  batch : Option Batch
  fetches : List FetchEntry
  timers : List FallbackTimer
  bodies : List SendBody
  contexts : List (Nat × Context)
deriving DecidableEq, Repr

/-! ## The pool (chapter 8) -/

/-- The kind of a taken pool entry (section 8.1). -/
inductive PoolKind where
  | shadow | provisional
deriving DecidableEq, Repr

/-- A taken pool entry. `merging` is the merge state of a SHADOW entry: MERGING when set, UNMERGED when clear. -/
structure PoolEntry where
  kind : PoolKind
  slot : Nat
  line : Nat
  written : Option Nat
  pending : Option Nat
  source : Option Station
  origin : Option Origin
  merging : Bool
deriving DecidableEq, Repr

/-! ## The attention unit (chapter 10) -/

/-- The event kinds, in the order of the table of section 10.1. -/
inductive EventKind where
  | stationConflict | configFault | restarted | lineFault | directoryFull | shadowFull | alignSplit | alignAbandoned
  | chartOpened | chartClosed | chartAligned | thawDone | peerLost | peerJoined | linesImproved
deriving DecidableEq, Repr

/-- A pending entry: a kind and its argument, 0 for a kind without one (R167, R182). -/
structure Event where
  kind : EventKind
  argument : Nat
deriving DecidableEq, Repr

structure Attention where
  /-- The pending set, in the one order of its kinds and arguments. -/
  events : List Event
  mask : Nat
  promotions : List EventKind
  /-- MODEL'S OWN (log entry 9): slots whose THAW_DONE of a warm reset is posted at the release (R175). -/
  thawDoneAtRelease : List Nat
deriving DecidableEq, Repr

/-! ## The chart port (chapter 11) -/

/-- Result codes (R182). -/
inductive Result where
  | ok | badSlot | held | notHeld | active | busyRead | badKind | badRequest
deriving DecidableEq, Repr

/-- One item of a LINES response (R34). -/
structure LineItem where
  line : Nat
  grade : Nat
  held : Bool
  source : Option Station
  origin : Option Origin
  pixels : Pixels
deriving DecidableEq, Repr

/-- The report of one slot in use (R97). -/
structure SlotReport where
  record : ChartRecord
  filled : Nat
  pool : Nat
deriving DecidableEq, Repr

/-- The answer of a TAKE or POLL (R172, R173). -/
inductive EventAnswer where
  | event (e : Event)
  | spurious
  | none
deriving DecidableEq, Repr

/-- What the status report says of the station state (R63). -/
inductive ReportedState where
  | listen | joined | mute
deriving DecidableEq, Repr

/-- One roster place of STATUS (R76). -/
inductive RosterPlace where
  | self
  | peer (e : RosterEntry)
deriving DecidableEq, Repr

/-- The STATUS report (R179). -/
structure StatusReport where
  state : ReportedState
  station : Station
  binding : Option Nat
  unphased : Bool
  demodulator : Demodulator
  poolInUse : Nat
  provisionalInUse : Nat
  fetchesInUse : Nat
  slotCount : Nat
  width : Code
  causes : List FaultCause
  roster : List RosterPlace
deriving DecidableEq, Repr

/-- A formed response message (R182). -/
inductive Response where
  | lines (result : Result) (slot : Byte) (first : Nat) (items : List LineItem)
  | directory (slots : List (Option SlotReport))
  | ack (request : Byte) (result : Result) (value : Byte)
  | event (request : Byte) (answer : EventAnswer)
  | status (report : StatusReport)
  | straps (latched : BitVec 64) (settings : Settings)
deriving DecidableEq, Repr

/-- The pending READ_LINES (section 11.1). `asked` numbers the first write the read does not wait for (R33). -/
structure PendingRead where
  slot : Nat
  first : Nat
  count : Nat
  asked : Nat
deriving DecidableEq, Repr

/-- The transfer in progress (section 11.1). -/
inductive Transfer where
  | none | write | read | ignored
deriving DecidableEq, Repr

structure Port where
  /-- A row of the table is a whole transfer, so none is in progress between rows (log entry 2). -/
  transfer : Transfer
  /-- Request bytes taken so far in the transfer: none between rows (log entry 2). -/
  bytesTaken : Nat
  queue : List Response
  read : Option PendingRead
  /-- DATA OUT: the bytes clocked out in the last transfer, the status byte first (R177). -/
  clockedOut : List Byte
deriving DecidableEq, Repr

/-! ## The whole station -/

structure State where
  /-- The commands waiting, first in, first out (MODEL'S OWN, log entry 1). -/
  pending : List Instr
  /-- Station time from the crystal, in microseconds (04_roster_and_joining.md section 4.1; log entry 10). -/
  now : Nat
  config : Configuration
  reception : Reception
  lineTable : LineTable
  /-- Chart memory: the bytes that are not 0, by rising address (R163; log entry 11). -/
  memory : List Host.Cell
  /-- The slots in use, by rising slot number. -/
  slots : List (Nat × Slot)
  /-- The origin sequence (section 5.1). -/
  originSequence : Byte
  link : Link
  roster : Roster
  alignment : Alignment
  fetch : Fetch
  /-- The pool entries taken, by rising number. -/
  pool : List (Nat × PoolEntry)
  attention : Attention
  port : Port
  /-- MODEL'S OWN (log entry 6): how many writes have been cut short; it picks the free value of the next. -/
  interruptedWrites : Nat
deriving DecidableEq, Repr

/-- Why the machine stops with a fault. The manual gives every command an effect or none, so there is no reason. -/
inductive Fault where
deriving DecidableEq, Repr

/-- Why a command is refused. -/
inductive Refusal where
  /-- Raised by exec for a command that has no meaning yet, by its row's mnemonic; safe. No arm raises it. -/
  | notModelled (mnemonic : String)
deriving DecidableEq, Repr

/-! ## Reset values -/

/-- R156, section 9.1: a cold reset has begun and no strap bit is taken. The settings stand at those of 64 zero bits until
the strap stream is read (DESIGN CHOICE, log entry 12). -/
def Configuration.reset : Configuration where
  state := .reading
  strapBits := 0
  latched := 0
  settings :=
    { station := 0, rate := 0, width := 0, margin := 0, thresholdCode := 0, floorCode := 0, fallbackEnable := false,
      bankCode := 0, depthCode := 0, slotCount := 3 }
  causes := []
  pendingReset := .cold
  resetPin := false

/-- R21. -/
def Reception.reset : Reception where
  state := .search
  previous := none
  startRun := none
  stopRun := none
  linePosition := 0
  sampleCount := 0
  lateCount := 0
  phasing := { periods := 0, pulses := 0, positions := [] }
  origin := 0
  unphased := false
  ownIndex := 0
  fadeCount := 0
  assembler := { sums := [], envelope := 0, position := 0 }
  buffers := []
  binding := none
  skip := 0
  endDue := false
  lastFrequency := 0
  lastEnvelope := 0

/-- R44, R41: the queue, the waiting place and the waiting requests empty, the rotation point at station 7. -/
def LineTable.reset : LineTable where
  queue := []
  started := false
  store := none
  lastServed := 7
  requests := []
  nextOrder := 0

/-- R64. -/
def Link.reset : Link where
  framing := .waitForIdle
  recessive := 0
  taken := []
  openClose := []
  askDecline := []
  tally := []
  segments := []
  hail := none
  hailReplacement := none
  transmitter := .free
  attempt := none
  mute := false
  frameStart := 0

/-- R75. The 6 s of the listen timer run from the release (R158), so no timer runs while the part is held. -/
def Roster.reset : Roster where
  state := .listen
  listenDeadline := none
  hailDeadline := none
  joiningPending := false
  peers := []

/-- R110. -/
def Alignment.reset : Alignment where
  state := .idle
  slot := none
  key := none
  expected := 0
  handed := 0
  provisional := []
  references := []
  migration := []

/-- R137. -/
def Fetch.reset : Fetch where
  batch := none
  fetches := []
  timers := []
  bodies := []
  contexts := []

/-- R175, cold reset. -/
def Attention.reset : Attention where
  events := []
  mask := 0
  promotions := []
  thawDoneAtRelease := []

/-- R178. -/
def Port.reset : Port where
  transfer := .none
  bytesTaken := 0
  queue := []
  read := none
  clockedOut := []

/-- The part as a cold reset begins (R156): every block at its cold-reset values, no strap bit taken yet. -/
def State.reset : State where
  pending := []
  now := 0
  config := Configuration.reset
  reception := Reception.reset
  lineTable := LineTable.reset
  memory := []
  slots := []
  originSequence := 0
  link := Link.reset
  roster := Roster.reset
  alignment := Alignment.reset
  fetch := Fetch.reset
  pool := []
  attention := Attention.reset
  port := Port.reset
  interruptedWrites := 0

end Sys2Proof.Machine
end

