-- ==== Sys2Proof/Machine/Ops.lean ====
section
/-!
DEFINITION. The named operations that every block's rules rest on: sparse tables, chart memory, station time, the
settings in force, and the reading and updating of slots, entries, rows and records.
-/
namespace Sys2Proof.Machine

/-! ## Sparse tables -/

/-- The value a table lists for a key. -/
def Sparse.find {α : Type} : List (Nat × α) → Nat → Option α
  | [], _ => none
  | (k, v) :: t, n => if k = n then some v else Sparse.find t n

/-- List a value for a key, in its place by rising keys, replacing any listed before. -/
def Sparse.put {α : Type} : List (Nat × α) → Nat → α → List (Nat × α)
  | [], n, v => [(n, v)]
  | (k, w) :: t, n, v =>
    if n < k then (n, v) :: (k, w) :: t else if n = k then (n, v) :: t else (k, w) :: Sparse.put t n v

/-- Take a key out of a table. -/
def Sparse.erase {α : Type} (m : List (Nat × α)) (n : Nat) : List (Nat × α) :=
  m.filter (fun p => p.1 != n)

/-- Change the value listed for a key, where one is listed. -/
def Sparse.modify {α : Type} (m : List (Nat × α)) (n : Nat) (f : α → α) : List (Nat × α) :=
  m.map (fun p => if p.1 = n then (p.1, f p.2) else p)

/-- The lowest key, from `n` up, that a table with rising keys does not list. -/
def Sparse.lowestFree {α : Type} : List (Nat × α) → Nat → Nat
  | [], n => n
  | (k, _) :: t, n => if k = n then Sparse.lowestFree t (n + 1) else if k < n then Sparse.lowestFree t n else n

/-- The keys of a table rise strictly. -/
abbrev Sparse.Rising {α : Type} (m : List (Nat × α)) : Prop := m.Pairwise (fun a b => a.1 < b.1)

/-! ## Chart memory (R163) -/

/-- What an address of chart memory that is not listed reads as: 0 (DESIGN CHOICE, log entry 11). -/
def Memory.unlisted : Byte := 0

/-- The byte at an address. -/
def Memory.readByte (m : List Host.Cell) (a : Nat) : Byte := (Sparse.find m a).getD Memory.unlisted

/-- The cells that a run of bytes from an address lists. -/
def Memory.cells : Nat → List Byte → List Host.Cell
  | _, [] => []
  | a, b :: t => if b = Memory.unlisted then Memory.cells (a + 1) t else (a, b) :: Memory.cells (a + 1) t

/-- Write a run of bytes from an address up. -/
def Memory.write (m : List Host.Cell) (a : Nat) (bytes : List Byte) : List Host.Cell :=
  m.filter (fun c => c.1 < a) ++ Memory.cells a bytes ++ m.filter (fun c => a + bytes.length ≤ c.1)

/-- Read `n` bytes from an address up. -/
def Memory.read (m : List Host.Cell) (a : Nat) (n : Nat) : List Byte :=
  (List.range n).map (fun i => Memory.readByte m (a + i))

/-- The canonical form: rising addresses, and no cell equal to what an unlisted address reads as. -/
abbrev Memory.wf (m : List Host.Cell) : Prop := Sparse.Rising m ∧ ∀ c ∈ m, c.2 ≠ Memory.unlisted

/-- Two grays to a byte, the earlier pixel in bits 7 to 4 (R163, R182, R183). -/
def packGrays : Pixels → List Byte
  | [] => []
  | [a] => [a ++ (0 : Gray)]
  | a :: b :: t => (a ++ b) :: packGrays t

/-- The two grays of each byte, the earlier pixel first. -/
def unpackGrays : List Byte → Pixels
  | [] => []
  | b :: t => b.extractLsb' 4 4 :: b.extractLsb' 0 4 :: unpackGrays t

/-- The width a width code stands for (R51). -/
def widthOfCode (c : Code) : Nat := if c = 0 then 1024 else if c = 1 then 1536 else 2048

/-- The line period T in milliseconds that a line-rate code stands for (R160). -/
def periodOfRate (c : Code) : Nat := if c = 0 then 1000 else if c = 1 then 500 else 250

/-! ## The settings in force -/

/-- W, pixels per line. -/
def State.width (s : State) : Nat := widthOfCode s.config.settings.width

/-- T in milliseconds. -/
def State.period (s : State) : Nat := periodOfRate s.config.settings.rate

/-- N = 12 × T, the samples of a line period (section 1.1). -/
def State.samples (s : State) : Nat := 12 * s.period

/-- One line period of station time. -/
def State.linePeriod (s : State) : Nat := s.period * Config.millisecond

/-- The time of a quiet timer, 32 line periods (R93). -/
def State.quietTime (s : State) : Nat := 32 * s.linePeriod

/-- C. -/
def State.slotCount (s : State) : Nat := s.config.settings.slotCount

/-- This station's number. -/
def State.self (s : State) : Station := s.config.settings.station

/-- A_thr = 128 + 8 × code (R102). -/
def State.alignThreshold (s : State) : Nat := 128 + 8 * s.config.settings.thresholdCode

/-- The level floor, 128 × (code + 1) (R5). -/
def State.levelFloor (s : State) : Nat := 128 * (s.config.settings.floorCode + 1)

/-- The part is running: its blocks take events (section 9.1). -/
def State.running (s : State) : Bool := s.config.state = .run

/-- Run `f` while the part is in RUN. In OFF, READING and HOLDING no block takes anything (R156, R158). -/
def State.whenRunning (s : State) (f : State → State) : State := if s.running then f s else s

/-- Do `f` where the step it stands for can happen. A step whose condition does not hold does not happen: nothing changes
(log entry 2). -/
def State.whenCan (s : State) (can : Bool) (f : State → State) : State := if can then f s else s

/-! ## Station time -/

/-- Let `t` microseconds pass. -/
def State.elapse (s : State) (t : Nat) : State := { s with now := s.now + t }

/-- A timer's expiry is the instant of its deadline (log entry 10). -/
def State.reach (s : State) (deadline : Nat) : State := { s with now := max s.now deadline }

/-! ## Where lines lie in chart memory (R163) -/

/-- The bytes of a line: W/2. -/
def State.lineBytes (s : State) : Nat := s.width / 2

/-- The address of a line of a slot. -/
def State.lineAddress (s : State) (slot line : Nat) : Nat :=
  slot * (Config.linesPerSlot * s.lineBytes) + line * s.lineBytes

/-- The address of a pool entry. -/
def State.poolAddress (s : State) (entry : Nat) : Nat :=
  s.slotCount * (Config.linesPerSlot * s.lineBytes) + entry * s.lineBytes

/-- The grays of a line of a slot, as chart memory holds them. -/
def State.readLine (s : State) (slot line : Nat) : Pixels :=
  unpackGrays (Memory.read s.memory (s.lineAddress slot line) s.lineBytes)

/-- The grays of a pool entry, as chart memory holds them. -/
def State.readPool (s : State) (entry : Nat) : Pixels :=
  unpackGrays (Memory.read s.memory (s.poolAddress entry) s.lineBytes)

/-- The address a queued write writes to. -/
def State.writeAddress (s : State) (w : Write) : Nat :=
  match w.kind with
  | .pool => s.poolAddress w.target
  | .composite | .merge => s.lineAddress w.slot w.target

/-- The bytes a write puts into chart memory: its content, of W grays. -/
def State.writeBytes (s : State) (w : Write) : List Byte :=
  (packGrays (w.content.getD [])).take s.lineBytes

/-- A write's content reaches chart memory. -/
def State.storeWrite (s : State) (w : Write) : State :=
  { s with memory := Memory.write s.memory (s.writeAddress w) (s.writeBytes w) }

/-- The bytes an interrupted write leaves: each byte new or still old, as a free value says (log entry 6). -/
def mixBytes (occurrence : Nat) : Nat → List Byte → List Byte → List Byte
  | i, old :: os, new :: ns =>
    (if Config.interruptedByteIsNew occurrence i then new else old) :: mixBytes occurrence (i + 1) os ns
  | _, _, _ => []

/-- A write in progress is cut short: chart memory holds whatever it had reached (R41, R165). -/
def State.interruptWrite (s : State) (w : Write) : State :=
  let new := s.writeBytes w
  let old := Memory.read s.memory (s.writeAddress w) new.length
  { s with
    memory := Memory.write s.memory (s.writeAddress w) (mixBytes s.interruptedWrites 0 old new)
    interruptedWrites := s.interruptedWrites + 1 }

/-! ## Slots, records, entries and rows -/

/-- The slot's contents, where it is in use. -/
def State.slot? (s : State) (c : Nat) : Option Slot := Sparse.find s.slots c

/-- The slot's record, where it is in use. -/
def State.record? (s : State) (c : Nat) : Option ChartRecord := (s.slot? c).map Slot.record

def State.modifySlot (s : State) (c : Nat) (f : Slot → Slot) : State :=
  { s with slots := Sparse.modify s.slots c f }

def State.modifyRecord (s : State) (c : Nat) (f : ChartRecord → ChartRecord) : State :=
  s.modifySlot c (fun sl => { sl with record := f sl.record })

/-- The slot whose record has a key. No two records have the same key (R77). -/
def State.slotOfKey (s : State) (k : Key) : Option Nat :=
  (s.slots.find? (fun p => p.2.record.key == k)).map Prod.fst

/-- An empty entry (R23). -/
def LineEntry.empty : LineEntry := { committed := 0, source := none, origin := none, pending := none }

/-- A slot's entry for a chart line. -/
def Slot.entry (sl : Slot) (n : Nat) : LineEntry := (Sparse.find sl.entries n).getD LineEntry.empty

/-- Set a slot's entry for a chart line; an empty one is not listed. -/
def Slot.setEntry (sl : Slot) (n : Nat) (e : LineEntry) : Slot :=
  { sl with entries := if e = LineEntry.empty then Sparse.erase sl.entries n else Sparse.put sl.entries n e }

/-- The entry of a chart line of a slot; a slot not in use has none that is filled. -/
def State.entry (s : State) (c n : Nat) : LineEntry :=
  match s.slot? c with
  | some sl => sl.entry n
  | none => LineEntry.empty

def State.modifyEntry (s : State) (c n : Nat) (f : LineEntry → LineEntry) : State :=
  s.modifySlot c (fun sl => sl.setEntry n (f (sl.entry n)))

/-- An empty holder map row. -/
def HolderRow.empty : HolderRow :=
  { best := none, second := none, attempts := 0, deferral := none, exhausted := false }

/-- A slot's holder map row for a chart line. -/
def Slot.row (sl : Slot) (n : Nat) : HolderRow := (Sparse.find sl.rows n).getD HolderRow.empty

/-- Set a row; an empty one is not listed. -/
def Slot.setRow (sl : Slot) (n : Nat) (r : HolderRow) : Slot :=
  { sl with rows := if r = HolderRow.empty then Sparse.erase sl.rows n else Sparse.put sl.rows n r }

def State.modifyRow (s : State) (c n : Nat) (f : HolderRow → HolderRow) : State :=
  s.modifySlot c (fun sl => sl.setRow n (f (sl.row n)))

/-- The filled-line count: entries whose committed grade is not 0, torn ones included (R45). -/
def Slot.filledCount (sl : Slot) : Nat := (sl.entries.filter (fun p => p.2.committed != 0)).length

/-! ## List helpers -/

/-- Remove the first element that satisfies `p`, where there is one. -/
def removeFirst {α : Type} (p : α → Bool) : List α → Option (List α)
  | [] => none
  | x :: t => if p x then some t else (removeFirst p t).map (x :: ·)

/-- The first element with the greatest `f`. -/
def firstGreatest {α : Type} (f : α → Nat) : List α → Option α
  | [] => none
  | x :: t =>
    match firstGreatest f t with
    | none => some x
    | some y => if f y ≤ f x then some x else some y

/-- The first element with the least `f`. -/
def firstLeast {α : Type} (f : α → Nat) : List α → Option α
  | [] => none
  | x :: t =>
    match firstLeast f t with
    | none => some x
    | some y => if f x ≤ f y then some x else some y

end Sys2Proof.Machine
end

