-- ==== Sys2Proof/Machine/Flags.lean ====
section
/-!
DEFINITION. The ATTENTION UNIT (chapter 10), and the outputs the part drives: ATTENTION, RESPONSE READY, the port status.
-/
namespace Sys2Proof.Machine

/-! ## Kinds, levels and codes (section 10.1) -/

/-- The event kinds in the order of the table of section 10.1. -/
def eventKinds : List EventKind :=
  [.stationConflict, .configFault, .restarted, .lineFault, .directoryFull, .shadowFull, .alignSplit, .alignAbandoned,
   .chartOpened, .chartClosed, .chartAligned, .thawDone, .peerLost, .peerJoined, .linesImproved]

/-- The event kind code, 01 to 0F (R182). -/
def EventKind.code : EventKind → Nat
  | .stationConflict => 1
  | .configFault => 2
  | .restarted => 3
  | .lineFault => 4
  | .directoryFull => 5
  | .shadowFull => 6
  | .alignSplit => 7
  | .alignAbandoned => 8
  | .chartOpened => 9
  | .chartClosed => 10
  | .chartAligned => 11
  | .thawDone => 12
  | .peerLost => 13
  | .peerJoined => 14
  | .linesImproved => 15

/-- The kind a code names, when it names one (R182). -/
def eventKindOf (code : Nat) : Option EventKind := eventKinds.find? (fun k => k.code == code)

/-- The native level of a kind (section 10.1). -/
def EventKind.level : EventKind → Nat
  | .stationConflict | .configFault => 7
  | .restarted | .lineFault => 6
  | .directoryFull | .shadowFull => 5
  | .alignSplit | .alignAbandoned | .chartOpened | .chartClosed => 4
  | .chartAligned | .thawDone => 3
  | .peerLost | .peerJoined => 2
  | .linesImproved => 1

/-- The kinds whose argument is a slot (R174). -/
def EventKind.slotKind : EventKind → Bool
  | .shadowFull | .alignSplit | .alignAbandoned | .chartOpened | .chartClosed | .chartAligned | .thawDone
  | .linesImproved => true
  | .stationConflict | .configFault | .restarted | .lineFault | .directoryFull | .peerLost | .peerJoined => false

/-- The rank of a CONFIG_FAULT cause among arguments, and its argument code (section 10.1, R182). -/
def FaultCause.code : FaultCause → Nat
  | .widthCode => 0
  | .rateCode => 1
  | .depthCode => 2
  | .reservedBits => 3
  | .widthReduced => 4

/-- The argument of RESTARTED: cold is below warm (section 10.1, R182). -/
def ResetKind.code : ResetKind → Nat
  | .cold => 0
  | .warm => 1

/-! ## Posting (R167) and removal (R174) -/

/-- One entry comes before another in the order of the table, then of arguments. -/
def Event.before (a b : Event) : Bool :=
  a.kind.code < b.kind.code || (a.kind.code = b.kind.code && a.argument < b.argument)

/-- An event joins the set, or merges into the entry of its kind and argument (R167). -/
def insertEvent (e : Event) : List Event → List Event
  | [] => [e]
  | x :: t => if e = x then x :: t else if e.before x then e :: x :: t else x :: insertEvent e t

/-- A block posts an event (R167). -/
def State.post (s : State) (k : EventKind) (argument : Nat) : State :=
  { s with attention := { s.attention with events := insertEvent { kind := k, argument := argument } s.attention.events } }

/-- Every pending entry whose argument is a released slot is removed (R174). -/
def State.removeSlotEvents (s : State) (c : Nat) : State :=
  { s with attention :=
      { s.attention with events := s.attention.events.filter (fun e => !(e.kind.slotKind && e.argument = c)) } }

/-! ## Ranking (R168) -/

/-- The effective level of a kind: 6 when promoted, otherwise its native level (R168). -/
def effectiveLevel (promotions : List EventKind) (k : EventKind) : Nat := if k ∈ promotions then 6 else k.level

/-- The place of a kind by promotion: the first promoted kind, the second, then the rest. -/
def promotionPlace (promotions : List EventKind) (k : EventKind) : Nat :=
  match promotions with
  | [] => 2
  | p :: t => if k = p then 0 else if k ∈ t then 1 else 2

/-- The rank of an entry, lowest first, but for the order of the table and of arguments, in which the set is kept (R168). -/
def eventRank (promotions : List EventKind) (e : Event) : Nat :=
  (7 - effectiveLevel promotions e.kind) * 3 + promotionPlace promotions e.kind

/-- The highest-priority entry of some entries that stand in the set's order (R168). -/
def highestEvent (promotions : List EventKind) (l : List Event) : Option Event :=
  firstLeast (eventRank promotions) l

/-- The entries of one effective level (R172). -/
def Attention.atLevel (a : Attention) (level : Nat) : List Event :=
  a.events.filter (fun e => effectiveLevel a.promotions e.kind = level)

/-- Remove an entry from the set. -/
def Attention.remove (a : Attention) (e : Event) : Attention := { a with events := a.events.filter (fun x => x != e) }

/-- The promotion list a PROMOTE request gives, unless the request is refused (R171). 0 is an absent kind. -/
def promotionList (first second : Nat) : Option (List EventKind) :=
  let good (code : Nat) : Bool :=
    code = 0 || (match eventKindOf code with
      | some k => k.level != 7
      | none => false)
  if good first && good second then
    match eventKindOf first, eventKindOf second with
    | some a, some b => some (if a = b then [a] else [a, b])
    | some a, none => some [a]
    | none, some b => some [b]
    | none, none => some []
  else none

/-! ## Outputs -/

/-- ATTENTION: some pending entry's effective level exceeds the mask; deasserted unless the part is in RUN (R156, R169). -/
def State.attentionOutput (s : State) : Bool :=
  s.running && s.attention.events.any (fun e => s.attention.mask < effectiveLevel s.attention.promotions e.kind)

/-- The slots whose freeze waits: the freeze waiting flags (section 8.1) and the pending FREEZE set (section 11.1). -/
def State.waitingFreezes (s : State) : List Nat :=
  s.lineTable.requests.filterMap (fun r => match r with
    | .freeze c => some c
    | .splitClear _ => none)

/-- Places held by taken requests whose responses are not yet formed (R178). -/
def State.placesHeld (s : State) : Nat := (if s.port.read.isSome then 1 else 0) + s.waitingFreezes.length

/-- The port status reads READY: fewer than four messages and places (R177). -/
def State.portReady (s : State) : Bool := s.running && decide (s.port.queue.length + s.placesHeld < 4)

/-- RESPONSE READY: a formed message is in the queue (R178); deasserted unless the part is in RUN (R156, R178). -/
def State.responseReady (s : State) : Bool := s.running && !s.port.queue.isEmpty

/-- A formed message joins the tail of the response queue (R178). -/
def State.respond (s : State) (r : Response) : State := { s with port := { s.port with queue := s.port.queue ++ [r] } }

end Sys2Proof.Machine
end

