-- ==== Sys2Proof/Machine/Operands.lean ====
section
/-!
DEFINITION. The byte forms: station link frames both ways (R46 to R48, R51, R52, R183), the strap stream (R160 to R162,
R184), and the form check of host requests (R179).
-/
namespace Sys2Proof.Machine

/-! ## Fields in bytes -/

/-- Two bytes, the high one first, as a number. -/
def word16 (hi lo : Byte) : Nat := hi.toNat * 256 + lo.toNat

/-- A number as two bytes, the high one first. -/
def bytes16 (n : Nat) : List Byte := [BitVec.ofNat 8 (n / 256), BitVec.ofNat 8 n]

/-- The station number in bits 2 to 0 of a byte. -/
def stationOfByte (b : Byte) : Station := (b.extractLsb' 0 3).toFin

/-- A code field of a frame: 3 and above name nothing (R52). -/
def codeOfNat (n : Nat) : Option Code := if h : n < 3 then some ⟨n, h⟩ else none

/-- A key's two bytes: the origin station in bits 2 to 0, then the sequence (section 11.4). -/
def keyOfBytes (a b : Byte) : Key := { origin := stationOfByte a, sequence := b }

def keyBytes (k : Key) : List Byte := [BitVec.ofNat 8 k.origin.val, k.sequence]

/-- A chart line field: above 2047 the frame is discarded (R52). -/
def lineOfBytes (hi lo : Byte) : Option Nat :=
  if word16 hi lo ≤ Config.lastLine then some (word16 hi lo) else none

def boolNat (b : Bool) (weight : Nat) : Nat := if b then weight else 0

/-! ## CRC (R48) -/

/-- One data bit into the CRC register. -/
def crcBit (r : BitVec 16) (b : Bool) : BitVec 16 :=
  if r.msb ^^ b then (r <<< 1) ^^^ 0x1021#16 else r <<< 1

/-- The low `n` bits of a byte into the register, the most significant first. -/
def crcBits (r : BitVec 16) (b : Byte) : Nat → BitVec 16
  | 0 => r
  | n + 1 => crcBits (crcBit r (b.getLsbD n)) b n

/-- The CRC of some bytes: the register starts at all ones, with no reflection and no inversion (R48). -/
def crc (bytes : List Byte) : BitVec 16 := bytes.foldl (fun r b => crcBits r b 8) 0xFFFF#16

/-! ## Classes and byte 0 (section 3.3) -/

def FrameClass.number : FrameClass → Nat
  | .openClose => 0
  | .askDecline => 1
  | .tally => 2
  | .body => 3
  | .hail => 4

/-- The class of a payload. -/
def Payload.frameClass : Payload → FrameClass
  | .chartOpen _ | .chartClose _ => .openClose
  | .ask _ | .decline _ => .askDecline
  | .tally _ => .tally
  | .body _ => .body
  | .hail _ => .hail

/-- The kind of a payload within its class. -/
def Payload.kind : Payload → Nat
  | .chartClose _ | .decline _ => 1
  | .chartOpen _ | .ask _ | .tally _ | .body _ | .hail _ => 0

/-- Byte 0: class × 32 + sender × 4 + kind. -/
def byteZero (f : Frame) : Byte :=
  BitVec.ofNat 8 (f.payload.frameClass.number * 32 + f.sender.val * 4 + f.payload.kind)

/-! ## Payload layouts (R183) -/

def CloseReason.code : CloseReason → Nat
  | .stop => 0
  | .fade => 1
  | .length => 2
  | .newStart => 3
  | .reset => 4
  | .quiet => 5
  | .splitAway => 6

def closeReasonOf : Nat → Option CloseReason
  | 0 => some .stop
  | 1 => some .fade
  | 2 => some .length
  | 3 => some .newStart
  | 4 => some .reset
  | 5 => some .quiet
  | 6 => some .splitAway
  | _ => none

def DeclineReason.code : DeclineReason → Nat
  | .unknownChart => 0
  | .noLine => 1
  | .busy => 2

def declineReasonOf : Nat → Option DeclineReason
  | 0 => some .unknownChart
  | 1 => some .noLine
  | 2 => some .busy
  | _ => none

def Hail.bytes (h : Hail) : List Byte :=
  BitVec.ofNat 8 (boolNat h.joining 128 + boolNat h.boundKey.isSome 64 + h.width.val * 16 + h.rate.val * 4) ::
    (match h.boundKey with
     | some k => keyBytes k
     | none => [0, 0])

def ChartOpen.bytes (o : ChartOpen) : List Byte :=
  keyBytes o.key ++
    [BitVec.ofNat 8 (o.rate.val * 64 + o.width.val * 16 + boolNat o.late 4 + boolNat o.split 2 + boolNat o.reannounce 1)] ++
    bytes16 o.highest

def ChartClose.bytes (c : ChartClose) : List Byte :=
  keyBytes c.key ++ [BitVec.ofNat 8 (boolNat c.lastLine.isSome 128 + c.reason.code)] ++ bytes16 (c.lastLine.getD 0)

def TallyEntry.bytes (e : TallyEntry) : List Byte :=
  [e.grade, e.fingerprint.extractLsb' 8 8, e.fingerprint.extractLsb' 0 8]

def Tally.bytes (t : Tally) : List Byte :=
  keyBytes t.key ++ bytes16 t.first ++ [BitVec.ofNat 8 (t.entries.length * 16 + t.age.val)] ++
    t.entries.flatMap TallyEntry.bytes

def Ask.bytes (a : Ask) : List Byte :=
  keyBytes a.key ++ bytes16 a.line ++ [BitVec.ofNat 8 a.primary.val] ++
    [match a.fallback with
     | some f => BitVec.ofNat 8 (128 + f.val)
     | none => 0]

def Decline.bytes (d : Decline) : List Byte :=
  keyBytes d.key ++ bytes16 d.line ++ [BitVec.ofNat 8 d.requester.val, BitVec.ofNat 8 d.reason.code]

def BodyHeader.bytes (h : BodyHeader) : List Byte :=
  [h.grade, BitVec.ofNat 8 h.source.val, BitVec.ofNat 8 h.width.val, BitVec.ofNat 8 h.requester.val]

def Segment.bytes (b : Segment) : List Byte :=
  keyBytes b.key ++ bytes16 b.line ++ [BitVec.ofNat 8 b.number, BitVec.ofNat 8 (b.count * 8 + boolNat b.endMark 1)] ++
    (match b.header with
     | some h => h.bytes
     | none => []) ++ b.pixels

/-- A payload's bytes, unassigned bits 0 (R183). -/
def Payload.bytes : Payload → List Byte
  | .chartOpen o => o.bytes
  | .chartClose c => c.bytes
  | .ask a => a.bytes
  | .decline d => d.bytes
  | .tally t => t.bytes
  | .body b => b.bytes
  | .hail h => h.bytes

/-- The bytes of a frame on the line: byte 0, the length byte, the payload, the CRC high byte and low byte (R46, R48). -/
def encodeFrame (f : Frame) : List Byte :=
  let covered := byteZero f :: BitVec.ofNat 8 f.payload.bytes.length :: f.payload.bytes
  covered ++ [(crc covered).extractLsb' 8 8, (crc covered).extractLsb' 0 8]

/-- The bit times a frame of some bytes occupies: the start bit, then 9 for each byte (R46). -/
def frameBitTimes (bytes : Nat) : Nat := 1 + 9 * bytes

/-! ## Reading payloads, with the checks of R52 -/

def hailOfBytes : List Byte → Option Hail
  | [a, k0, k1] => do
    let w ← codeOfNat (a.extractLsb' 4 2).toNat
    let r ← codeOfNat (a.extractLsb' 2 2).toNat
    some { joining := a.getLsbD 7, width := w, rate := r
           boundKey := if a.getLsbD 6 then some (keyOfBytes k0 k1) else none }
  | _ => none

def chartOpenOfBytes : List Byte → Option ChartOpen
  | [k0, k1, a, hi, lo] => do
    let r ← codeOfNat (a.extractLsb' 6 2).toNat
    let w ← codeOfNat (a.extractLsb' 4 2).toNat
    let h ← lineOfBytes hi lo
    some { key := keyOfBytes k0 k1, rate := r, width := w, late := a.getLsbD 2, split := a.getLsbD 1
           reannounce := a.getLsbD 0, highest := h }
  | _ => none

def chartCloseOfBytes : List Byte → Option ChartClose
  | [k0, k1, a, hi, lo] => do
    let reason ← closeReasonOf (a.extractLsb' 0 3).toNat
    let key := keyOfBytes k0 k1
    if a.getLsbD 7 then
      let n ← lineOfBytes hi lo
      some { key := key, reason := reason, lastLine := some n }
    else some { key := key, reason := reason, lastLine := none }
  | _ => none

/-- `count` tally entries of three bytes each, and nothing after them. -/
def tallyEntriesOf : Nat → List Byte → Option (List TallyEntry)
  | 0, [] => some []
  | n + 1, g :: hi :: lo :: t => (tallyEntriesOf n t).map ({ grade := g, fingerprint := hi ++ lo } :: ·)
  | _, _ => none

def tallyOfBytes : List Byte → Option Tally
  | k0 :: k1 :: hi :: lo :: a :: t => do
    let first ← lineOfBytes hi lo
    let count := (a.extractLsb' 4 4).toNat
    if 1 ≤ count ∧ count ≤ 8 ∧ first + count - 1 ≤ Config.lastLine then
      let entries ← tallyEntriesOf count t
      some { key := keyOfBytes k0 k1, first := first, age := (a.extractLsb' 0 3).toFin, entries := entries }
    else none
  | _ => none

def askOfBytes : List Byte → Option Ask
  | [k0, k1, hi, lo, p, f] => do
    let n ← lineOfBytes hi lo
    let primary := stationOfByte p
    if f.getLsbD 7 then
      if stationOfByte f = primary then none
      else some { key := keyOfBytes k0 k1, line := n, primary := primary, fallback := some (stationOfByte f) }
    else some { key := keyOfBytes k0 k1, line := n, primary := primary, fallback := none }
  | _ => none

def declineOfBytes : List Byte → Option Decline
  | [k0, k1, hi, lo, r, reason] => do
    let n ← lineOfBytes hi lo
    let reason ← declineReasonOf reason.toNat
    some { key := keyOfBytes k0 k1, line := n, requester := stationOfByte r, reason := reason }
  | _ => none

/-- The segment count that a width code gives: 8, 12 or 16 (R51). -/
def segmentCountOf (c : Code) : Nat := widthOfCode c / 128

/-- What follows the first six bytes of a BODY: on segment 0 the header, then 64 pixel bytes. -/
def segmentRestOf (number count : Nat) (t : List Byte) : Option (Option BodyHeader × List Byte) :=
  if number = 0 then
    match t with
    | g :: source :: w :: r :: pixels => do
      let width ← codeOfNat w.toNat
      if segmentCountOf width = count ∧ pixels.length = 64 then
        some (some { grade := g, source := stationOfByte source, width := width, requester := stationOfByte r }, pixels)
      else none
    | _ => none
  else if t.length = 64 then some (none, t) else none

def segmentOfBytes : List Byte → Option Segment
  | k0 :: k1 :: hi :: lo :: num :: a :: t => do
    let n ← lineOfBytes hi lo
    let count := (a.extractLsb' 3 5).toNat
    if (count = 8 ∨ count = 12 ∨ count = 16) ∧ num.toNat < count then
      let rest ← segmentRestOf num.toNat count t
      some { key := keyOfBytes k0 k1, line := n, number := num.toNat, count := count, endMark := a.getLsbD 0
             header := rest.1, pixels := rest.2 }
    else none
  | _ => none

/-- Read a payload by its class and kind numbers; unused classes and kinds are discarded (R52). -/
def payloadOfBytes (cls kind : Nat) (p : List Byte) : Option Payload :=
  match cls, kind with
  | 0, 0 => (chartOpenOfBytes p).map .chartOpen
  | 0, 1 => (chartCloseOfBytes p).map .chartClose
  | 1, 0 => (askOfBytes p).map .ask
  | 1, 1 => (declineOfBytes p).map .decline
  | 2, 0 => (tallyOfBytes p).map .tally
  | 3, 0 => (segmentOfBytes p).map .body
  | 4, 0 => (hailOfBytes p).map .hail
  | _, _ => none

/-- The checks of R47, R48 and R52 on the bytes of a received frame: the valid frame, or none when it is discarded. -/
def decodeFrame : List Byte → Option Frame
  | b0 :: len :: t =>
    let n := len.toNat
    if n ≤ 96 ∧ t.length = n + 2 then
      let payload := t.take n
      let check := crc (b0 :: len :: payload)
      if t.drop n = [check.extractLsb' 8 8, check.extractLsb' 0 8] then
        (payloadOfBytes (b0.toNat / 32) (b0.toNat % 4) payload).map
          (fun p => { sender := (b0.extractLsb' 2 3).toFin, payload := p })
      else none
    else none
  | _ => none

/-- The checker gives the frame up with these bytes taken and waits for idle (R47): the resync bit of the last was dominant, no
byte having come past the length announced; or the length byte, which the checker takes second, exceeds 96. -/
def framingBroken (frame : List Byte) (resyncDominant : Bool) : Bool :=
  match frame with
  | [] => false
  | [_] => resyncDominant
  | [_, len] => resyncDominant || 96 < len.toNat
  | _ :: len :: rest => resyncDominant && len.toNat ≤ 96 && rest.length ≤ len.toNat + 2

/-- The frame has arrived: its length byte is at most 96 and its second CRC byte has been taken, no resync bit dominant (R47). -/
def frameWhole (frame : List Byte) (resyncDominant : Bool) : Bool :=
  match frame with
  | _ :: len :: rest => !resyncDominant && len.toNat ≤ 96 && rest.length = len.toNat + 2
  | _ => false

/-- A frame as the checker discards it: given up as broken, or arrived whole and failing the CRC or the validity checks (R47,
R48, R52). -/
def frameDiscarded (frame : List Byte) (resyncDominant : Bool) : Bool :=
  framingBroken frame resyncDominant || (frameWhole frame resyncDominant && (decodeFrame frame).isNone)

/-! ## The strap stream (R160 to R162, R184) -/

/-- The `n` stream bits from bit `first` on, as a number, the first the most significant. Stream bit 0 is bit 63 of the
latched word. -/
def strapField (stream : BitVec 64) (first n : Nat) : Nat := (stream.extractLsb' (64 - first - n) n).toNat

/-- A code field whose code 3 is reserved takes `instead` for it (R160). -/
def strapCode (code : Nat) (instead : Code) : Code := (codeOfNat code).getD instead

/-- The memory size M in KB (R162). -/
def memorySize (bankCode : Nat) (depth : Code) : Nat :=
  (bankCode + 1) * (if depth = 0 then 4096 else if depth = 1 then 8192 else 16384)

/-- S in KB: 2048 lines of W/2 bytes (R162). -/
def slotSize (w : Code) : Nat := 2048 * (widthOfCode w / 2) / 1024

/-- P in KB: 512 entries of W/2 bytes (R162). -/
def poolSize (w : Code) : Nat := 512 * (widthOfCode w / 2) / 1024

/-- C at a width (R162). -/
def slotCountAt (m : Nat) (w : Code) : Nat := min 16 ((m - poolSize w) / slotSize w)

/-- The next smaller width. -/
def narrower (w : Code) : Code := if w = 2 then 1 else 0

/-- The width in force: the strap width, stepped down while it gives fewer than 2 slots (R162). -/
def sizedWidth (m : Nat) (w : Code) : Code :=
  if 2 ≤ slotCountAt m w then w
  else if 2 ≤ slotCountAt m (narrower w) then narrower w
  else narrower (narrower w)

/-- The effective settings that a strap stream gives (R160, R162). -/
def settingsOf (stream : BitVec 64) : Settings :=
  let depth := strapCode (strapField stream 21 2) 0
  let m := memorySize (strapField stream 19 2) depth
  let w := sizedWidth m (strapCode (strapField stream 5 2) 0)
  { station := (stream.extractLsb' 61 3).toFin
    rate := strapCode (strapField stream 3 2) 1
    width := w
    margin := strapField stream 7 4
    thresholdCode := strapField stream 11 4
    floorCode := strapField stream 15 3
    fallbackEnable := strapField stream 18 1 = 1
    bankCode := strapField stream 19 2
    depthCode := depth
    slotCount := slotCountAt m w }

/-- The fault causes that a strap stream gives, in the order of their ranks (R161). -/
def causesOf (stream : BitVec 64) : List FaultCause :=
  let depth := strapCode (strapField stream 21 2) 0
  let m := memorySize (strapField stream 19 2) depth
  let strapWidth := strapCode (strapField stream 5 2) 0
  (if strapField stream 5 2 = 3 then [.widthCode] else []) ++
    (if strapField stream 3 2 = 3 then [.rateCode] else []) ++
    (if strapField stream 21 2 = 3 then [.depthCode] else []) ++
    (if strapField stream 23 41 ≠ 0 then [.reservedBits] else []) ++
    (if sizedWidth m strapWidth ≠ strapWidth then [.widthReduced] else [])

/-! ## Host requests (section 11.2) -/

/-- The parameter bytes that a request kind takes; none for a kind byte not in the table. -/
def requestParameters (kind : Byte) : Option Nat :=
  match kind.toNat with
  | 1 => some 4
  | 2 => some 0
  | 3 => some 1
  | 4 => some 1
  | 5 => some 1
  | 6 => some 1
  | 7 => some 0
  | 8 => some 1
  | 9 => some 2
  | 10 => some 0
  | 11 => some 0
  | 12 => some 0
  | _ => none

/-- The form check of R179: a kind of the table, its count of parameters, a READ_LINES first line up to 2047, a SET_MASK
value up to 7. -/
def requestFormGood : List Byte → Bool
  | [] => false
  | kind :: t =>
    match requestParameters kind with
    | none => false
    | some n =>
      t.length = n &&
        (match kind.toNat, t with
         | 1, [_, hi, lo, _] => word16 hi lo ≤ Config.lastLine
         | 8, [m] => m.toNat ≤ 7
         | _, _ => true)

end Sys2Proof.Machine
end

