-- ==== Sys2Proof/Machine/Link.lean ====
section
/-!
DEFINITION. The STATION LINK's transmit queues, arbiter and framing (chapter 3), as operations on the link's own state.
-/
namespace Sys2Proof.Machine

/-- A frame as a block queues it: no fault yet, not withdrawn (R54). -/
def QueuedFrame.fresh (p : Payload) : QueuedFrame := { payload := p, faults := 0, withdrawn := false }

/-- The frame at the head of a class's queue is in flight. -/
def Link.inFlight (l : Link) (c : FrameClass) : Bool := l.attempt = some c

/-- Remove the oldest frame that satisfies `p` and is not in flight; the head is in flight when `headInFlight`. -/
def displaceOldest (p : QueuedFrame → Bool) (headInFlight : Bool) (q : List QueuedFrame) : Option (List QueuedFrame) :=
  if headInFlight then
    match q with
    | [] => none
    | h :: t => (removeFirst p t).map (h :: ·)
  else removeFirst p q

/-- The queue with a new frame, where a full queue of `places` gives up its oldest displaceable frame; none when it has
none to give up and the new frame is dropped. -/
def joinQueue (places : Nat) (displaceable : QueuedFrame → Bool) (headInFlight : Bool) (q : List QueuedFrame)
    (p : Payload) : Option (List QueuedFrame) :=
  if q.length < places then some (q ++ [QueuedFrame.fresh p])
  else (displaceOldest displaceable headInFlight q).map (· ++ [QueuedFrame.fresh p])

/-- The frame is a CLOSE. -/
def QueuedFrame.isClose (f : QueuedFrame) : Bool :=
  match f.payload with
  | .chartClose _ => true
  | _ => false

/-- The frame is a DECLINE. -/
def QueuedFrame.isDecline (f : QueuedFrame) : Bool :=
  match f.payload with
  | .decline _ => true
  | _ => false

/-- The frame is an ASK for a key and line, not withdrawn. -/
def QueuedFrame.isAsk (k : Key) (n : Nat) (f : QueuedFrame) : Bool :=
  match f.payload with
  | .ask a => a.key == k && a.line == n && !f.withdrawn
  | _ => false

/-- The frame is an OPEN of a key, with the re-announce flag as given. -/
def QueuedFrame.isOpen (k : Key) (reannounce : Bool) (f : QueuedFrame) : Bool :=
  match f.payload with
  | .chartOpen o => o.key == k && o.reannounce == reannounce
  | _ => false

/-- Queue an OPEN or CLOSE; none when it is dropped (R54, R55). -/
def Link.queueOpenClose (l : Link) (p : Payload) : Option Link :=
  if l.mute then none
  else (joinQueue 4 QueuedFrame.isClose (l.inFlight .openClose) l.openClose p).map (fun q => { l with openClose := q })

/-- Queue an ASK; none when it is dropped (R54, R56). -/
def Link.queueAsk (l : Link) (a : Ask) : Option Link :=
  if l.mute then none
  else (joinQueue 8 QueuedFrame.isDecline (l.inFlight .askDecline) l.askDecline (.ask a)).map
    (fun q => { l with askDecline := q })

/-- Queue a DECLINE, dropped when the queue is full or MUTE is set (R54, R56). -/
def Link.queueDecline (l : Link) (d : Decline) : Link :=
  if l.mute then l
  else if l.askDecline.length < 8 then { l with askDecline := l.askDecline ++ [QueuedFrame.fresh (.decline d)] }
  else l

/-- Queue a TALLY; none when the queue is full (R57). -/
def Link.queueTally (l : Link) (t : Tally) : Option Link :=
  if l.tally.length < 4 then some { l with tally := l.tally ++ [QueuedFrame.fresh (.tally t)] } else none

/-- Queue a HAIL: it takes the HAIL place, or becomes the replacement of the HAIL in flight (R58). -/
def Link.queueHail (l : Link) (h : Hail) : Link :=
  if l.mute then l
  else if l.hail.isSome && l.inFlight .hail then { l with hailReplacement := some (QueuedFrame.fresh (.hail h)) }
  else { l with hail := some (QueuedFrame.fresh (.hail h)) }

/-- Withdraw the frames that satisfy `p`: a waiting one leaves at once, one in flight leaves when its attempt ends (R60). -/
def withdrawFrom (p : QueuedFrame → Bool) (headInFlight : Bool) (q : List QueuedFrame) : List QueuedFrame :=
  if headInFlight then
    match q with
    | [] => []
    | h :: t => (if p h then { h with withdrawn := true } else h) :: t.filter (fun f => !p f)
  else q.filter (fun f => !p f)

/-- Withdraw the ASK for a key and line (R119). -/
def Link.withdrawAsk (l : Link) (k : Key) (n : Nat) : Link :=
  { l with askDecline := withdrawFrom (QueuedFrame.isAsk k n) (l.inFlight .askDecline) l.askDecline }

/-- Withdraw the own OPEN of a key (R83). -/
def Link.withdrawOpen (l : Link) (k : Key) : Link :=
  { l with openClose := withdrawFrom (QueuedFrame.isOpen k false) (l.inFlight .openClose) l.openClose }

/-- Withdraw every segment of the head body (R59, R60). -/
def Link.withdrawSegments (l : Link) : Link :=
  { l with segments := withdrawFrom (fun _ => true) (l.inFlight .body) l.segments }

/-- An OPEN of a key with the re-announce flag set waits unsent in the queue, one in flight apart (R73). -/
def Link.reannouncementWaits (l : Link) (k : Key) : Bool :=
  (if l.inFlight .openClose then l.openClose.drop 1 else l.openClose).any (QueuedFrame.isOpen k true)

/-- The frames of a class that wait, oldest first. -/
def Link.waiting (l : Link) : FrameClass → List QueuedFrame
  | .openClose => l.openClose
  | .askDecline => l.askDecline
  | .tally => l.tally
  | .body => l.segments
  | .hail => l.hail.toList

/-- The lowest class that has a frame waiting (R61). -/
def Link.lowestClass (l : Link) : Option FrameClass :=
  [FrameClass.openClose, .askDecline, .tally, .body, .hail].find? (fun c => !(l.waiting c).isEmpty)

/-- The frame in flight. -/
def Link.current (l : Link) : Option QueuedFrame :=
  match l.attempt with
  | some c => (l.waiting c).head?
  | none => none

/-- Replace the head of a class's queue by `new` (a list of none or one): the frame leaves, or stays as changed. The
replacement HAIL takes the HAIL place when the held HAIL's attempt ends (R58). -/
def Link.replaceHead (l : Link) (c : FrameClass) (new : List QueuedFrame) : Link :=
  match c with
  | .openClose => { l with openClose := new ++ l.openClose.drop 1 }
  | .askDecline => { l with askDecline := new ++ l.askDecline.drop 1 }
  | .tally => { l with tally := new ++ l.tally.drop 1 }
  | .body => { l with segments := new ++ l.segments.drop 1 }
  | .hail =>
    match l.hailReplacement with
    | some r => { l with hail := some r, hailReplacement := none }
    | none => { l with hail := new.head? }

/-- The attempt in progress ends and the transmitter is FREE. -/
def Link.endAttempt (l : Link) : Link := { l with attempt := none, transmitter := .free }

/-- A frame can be taken from the line: it began after an idle (R46, R47), or it is the frame this station began and no
longer drives (R50, R62). -/
def Link.canTakeFrame (l : Link) : Bool :=
  l.attempt.isNone &&
    (match l.framing with
     | .idleCount => decide (12 ≤ l.recessive)
     | .inFrame => true
     | .waitForIdle => false)

/-- A frame has arrived: the checker returns to IDLE COUNT with the count at 0 (R47). -/
def Link.frameArrived (l : Link) : Link := { l with framing := .idleCount, recessive := 0, taken := [] }

/-- The checker gives a frame up and waits for idle (R47). -/
def Link.frameBroken (l : Link) : Link := { l with framing := .waitForIdle, recessive := 0, taken := [] }

/-- Sending is allowed: MUTE is clear and LISTEN has ended (R61). -/
def State.sendingAllowed (s : State) : Bool := !s.link.mute && s.roster.state = .joined

/-- The station time at which a frame of some bytes ends on the line: one that is on the line already, its bit times after its
start bit; another, its bit times from now (R46; log entry 32). -/
def State.frameEnd (s : State) (bytes : Nat) : Nat :=
  if s.link.framing = .inFrame then max s.now (s.link.frameStart + frameBitTimes bytes) else s.now + frameBitTimes bytes

/-- The transmitter enters SENDING once the start bit and the 8 bits of byte 0 have passed unlost (R50). -/
def State.enterSending (s : State) : State :=
  { s with link := { s.link with transmitter :=
      if s.link.transmitter = .arbitrating ∧ s.link.frameStart + 9 ≤ s.now then .sending else s.link.transmitter } }

/-- The transmitter enters WAITING when it is FREE, sending is allowed and a frame waits (R49). -/
def State.wakeTransmitter (s : State) : State :=
  if s.link.transmitter = .free && s.sendingAllowed && s.link.lowestClass.isSome then
    { s with link := { s.link with transmitter := .waiting } }
  else s

/-- Split some bytes into runs of 64. -/
def chunks64 : Nat → List Byte → List (List Byte)
  | 0, _ => []
  | n + 1, l => l.take 64 :: chunks64 n (l.drop 64)

/-- The segments of a body of a snapshot, at this station's width code (R51, R59). -/
def bodySegments (b : SendBody) (snap : Snapshot) (width : Code) : List Segment :=
  let count := segmentCountOf width
  (chunks64 count (packGrays snap.pixels)).zipIdx.map (fun p =>
    { key := b.key, line := b.line, number := p.2, count := count, endMark := p.2 + 1 = count
      header := if p.2 = 0 then
          some { grade := BitVec.ofNat 8 snap.grade, source := snap.source.getD (Config.absentSource b.line), width := width
                 requester := b.requester }
        else none
      pixels := p.1 })

end Sys2Proof.Machine
end

