-- ==== Sys2Proof/Machine/Records.lean ====
section
/-!
DEFINITION. What the CHART DIRECTORY does to one record (chapter 5): contributors, the highest line, the quiet timer,
closing, and the OPEN and CLOSE frames it queues.
-/
namespace Sys2Proof.Machine

/-! ## Contributors (R86) -/

/-- The contributor list has an entry for a station. -/
def listed (st : Station) (l : List Contributor) : Bool := l.any (fun c => c.station == st)

/-- A station joins the contributors as ACTIVE, or becomes ACTIVE again: an OPEN heard from it, or a binding of this
station (R86). -/
def contributorActive (st : Station) (l : List Contributor) : List Contributor :=
  if listed st l then l.map (fun c => if c.station = st then { c with ended := none } else c)
  else l ++ [{ station := st, ended := none }]

/-- A TALLY heard from a station: as above, but one that ended by CLOSE stays ENDED (R86). -/
def contributorTallied (st : Station) (l : List Contributor) : List Contributor :=
  if listed st l then
    l.map (fun c => if c.station = st && c.ended != some .close then { c with ended := none } else c)
  else l ++ [{ station := st, ended := none }]

/-- A listed ACTIVE station becomes ENDED with a cause (R86). -/
def contributorEnds (st : Station) (cause : EndCause) (l : List Contributor) : List Contributor :=
  l.map (fun c => if c.station = st && c.ended.isNone then { c with ended := some cause } else c)

/-- A station is an ACTIVE contributor. -/
def isActive (st : Station) (l : List Contributor) : Bool := l.any (fun c => c.station == st && c.ended.isNone)

/-- A station is an ENDED contributor (section 5.2). -/
def isEnded (st : Station) (l : List Contributor) : Bool := l.any (fun c => c.station == st && c.ended.isSome)

/-- Every contributor is ENDED (R92). -/
def allEnded (l : List Contributor) : Bool := l.all (fun c => c.ended.isSome)

/-! ## The highest line (R88) and the quiet timer (R93) -/

/-- The highest line raised to `n`: when it is absent or below `n` (R88). -/
def raised (highest : Option Nat) (n : Nat) : Option Nat :=
  match highest with
  | some h => some (max h n)
  | none => some n

def ChartRecord.raise (r : ChartRecord) (n : Nat) : ChartRecord := { r with highest := raised r.highest n }

/-- Raise the highest line to one that a frame may carry (R84, R86). -/
def ChartRecord.raiseTo (r : ChartRecord) (n : Option Nat) : ChartRecord :=
  match n with
  | some n => r.raise n
  | none => r

/-- Restart the quiet timer at a deadline, clearing the quiet flag, of a record that is not CLOSED (R87, R89, R93). -/
def ChartRecord.restartQuiet (r : ChartRecord) (deadline : Nat) : ChartRecord :=
  if r.state = .closed then r else { r with quietDeadline := some deadline, quietFlag := false }

/-! ## Closing (R92) -/

/-- The record meets the closing condition (R92). -/
def ChartRecord.shouldClose (r : ChartRecord) : Bool :=
  r.state != .closed && !r.bound && (allEnded r.contributors || r.quietFlag)

/-- The highest close order of any CLOSED record; 0 when there is none. -/
def State.highestCloseOrder (s : State) : Nat :=
  s.slots.foldl (fun acc p => max acc (p.2.record.closeOrder.getD 0)) 0

/-- The record, closed with a close order (R92). -/
def ChartRecord.close (r : ChartRecord) (order : Nat) : ChartRecord :=
  { r with
    state := .closed
    expected := none
    closeReason := some (if allEnded r.contributors then r.lastCloseReason.getD .quiet else .quiet)
    closeOrder := some order
    quietDeadline := none }

/-- The closing test of a slot's record (R92). -/
def State.closingTest (s : State) (c : Nat) : State :=
  match s.record? c with
  | some r =>
    if r.shouldClose then
      (s.modifyRecord c (fun r => r.close (s.highestCloseOrder + 1))).post .chartClosed c
    else s
  | none => s

/-! ## OPEN and CLOSE frames (R80, R82, R90, R91) -/

/-- The OPEN of a record (R73, R80, R90). -/
def State.openOf (s : State) (r : ChartRecord) (split reannounce : Bool) (highest : Nat) : ChartOpen :=
  { key := r.key, rate := r.rate, width := s.config.settings.width, late := r.late, split := split
    reannounce := reannounce, highest := highest }

/-- Queue an OPEN that no record tracks, or a CLOSE; dropped where the queue drops it (R55). -/
def State.queueOpenClose (s : State) (p : Payload) : State :=
  match s.link.queueOpenClose p with
  | some l => { s with link := l }
  | none => s

/-- Queue a record's own OPEN: own OPEN becomes QUEUED, or DONE where the frame is dropped at queuing (R82). -/
def State.queueOwnOpen (s : State) (c : Nat) (split : Bool) : State :=
  match s.record? c with
  | some r =>
    match s.link.queueOpenClose (.chartOpen (s.openOf r split false 0)) with
    | some l => ({ s with link := l }).modifyRecord c (fun r => { r with ownOpen := .queued })
    | none => s.modifyRecord c (fun r => { r with ownOpen := .done })
  | none => s

/-- The link's notice on a record's own OPEN, by its key: own OPEN becomes DONE (R82). -/
def State.ownOpenNotice (s : State) (k : Key) : State :=
  match s.slotOfKey k with
  | some c => s.modifyRecord c (fun r => if r.ownOpen = .queued then { r with ownOpen := .done } else r)
  | none => s

/-! ## The origin sequence (R79) -/

/-- The sequence that a chart this station originates takes, starting the search at `q`: the first whose key is not held
by a record that is not CLOSED or is held; and the slot of the CLOSED record to evict, where one holds the key (R79). -/
def State.usableSequence (s : State) : Nat → Byte → Byte × Option Nat
  | 0, q => (q, none)
  | fuel + 1, q =>
    match s.slots.find? (fun p => p.2.record.key == { origin := s.self, sequence := q }) with
    | none => (q, none)
    | some (c, sl) =>
      if sl.record.state = .closed && sl.record.hold = .none then (q, some c)
      else s.usableSequence fuel (q + 1)

end Sys2Proof.Machine
end

