-- ==== Sys2Proof/Machine/Batch.lean ====
section
/-!
DEFINITION. The TALLY BATCHER (R112 to R114).
-/
namespace Sys2Proof.Machine

/-- The TALLY of a batch, its fields formed now (R113). -/
def State.tallyOf (s : State) (b : Batch) (k : Key) : Tally :=
  let age := min 7 ((s.now - b.lastTaken) / s.linePeriod)
  { key := k, first := b.first, age := Fin.ofNat 8 age
    entries := b.lines.map (fun l => { grade := BitVec.ofNat 8 l.grade, fingerprint := l.fingerprint }) }

def State.setBatch (s : State) (b : Option Batch) : State := { s with fetch := { s.fetch with batch := b } }

/-- Queue the batch as a TALLY (R113): taken, the batcher is EMPTY; refused, it is WAITING; dropped because MUTE is set,
it is EMPTY (R114). -/
def State.queueBatch (s : State) : State :=
  match s.fetch.batch with
  | none => s
  | some b =>
    if s.link.mute then s.setBatch none
    else
      match s.record? b.slot with
      | none => s.setBatch none
      | some r =>
        match s.link.queueTally (s.tallyOf b r.key) with
        | some l => ({ s with link := l }).setBatch none
        | none => s.setBatch (some { b with waiting := true, deadline := none })

/-- A line starts a batch (R112). -/
def State.startBatch (s : State) (slot line grade : Nat) (fp : Fingerprint) : State :=
  s.setBatch (some
    { slot := slot, first := line, lines := [{ grade := grade, fingerprint := fp }]
      deadline := some (s.now + 8 * s.linePeriod), lastTaken := s.now, waiting := false })

/-- The line joins the end of the batch (R112). -/
def State.joinBatch (s : State) (b : Batch) (grade : Nat) (fp : Fingerprint) : State :=
  s.setBatch (some { b with lines := b.lines ++ [{ grade := grade, fingerprint := fp }], lastTaken := s.now })

/-- An accepted own line is handed to the batcher (R112). -/
def State.tallyLine (s : State) (slot line grade : Nat) (fp : Fingerprint) : State :=
  match s.fetch.batch with
  | none => s.startBatch slot line grade fp
  | some b =>
    let next := b.slot = slot && line = b.first + b.lines.length
    if b.waiting then
      if next && b.lines.length < 8 then s.joinBatch b grade fp else s
    else if next then
      let s := s.joinBatch b grade fp
      if b.lines.length + 1 = 8 then s.queueBatch else s
    else
      let s := s.queueBatch
      if s.fetch.batch.isNone then s.startBatch slot line grade fp else s

end Sys2Proof.Machine
end

