-- ==== Sys2Proof/Machine/Signal.lean ====
section
/-!
DEFINITION. The arithmetic of chapter 1: the discriminator, the tone detectors, the line assembler, grays, grade,
fingerprint and the phasing pulse; and the width mapping of chapter 2.
-/
namespace Sys2Proof.Machine

/-! ## The discriminator (R1) -/

/-- A complex number with integer parts. -/
structure Phasor where
  re : Int
  im : Int
deriving DecidableEq, Repr

/-- The product of two complex numbers. -/
def Phasor.times (a b : Phasor) : Phasor := ⟨a.re * b.re - a.im * b.im, a.re * b.im + a.im * b.re⟩

/-- The angle of a vector, taken from 0 up to 2π, is π or more. -/
def Phasor.lower (v : Phasor) : Bool := v.im < 0 || (v.im = 0 && v.re < 0)

/-- A total angle: whole turns, and a vector whose angle (0 up to 2π) is the rest. -/
structure Winding where
  turns : Nat
  rest : Phasor
deriving DecidableEq, Repr

/-- Twice the total angle. -/
def Winding.double (w : Winding) : Winding :=
  { turns := 2 * w.turns + (if w.rest.lower then 1 else 0), rest := w.rest.times w.rest }

/-- The total angle and the angle of `z`, which lies from 0 to π. -/
def Winding.add (w : Winding) (z : Phasor) : Winding :=
  let v := w.rest.times z
  { turns := w.turns + (if w.rest.lower && !v.lower then 1 else 0), rest := v }

/-- The bits of 12000 after its leading one, the most significant first. -/
def sampleRateBits : List Bool :=
  [false, true, true, true, false, true, true, true, false, false, false, false, false]

/-- 12000 times the angle of `z`. -/
def windSampleRate (z : Phasor) : Winding :=
  sampleRateBits.foldl (fun w b => if b then w.double.add z else w.double) { turns := 0, rest := z }

/-- The phase advance θ, above −π and up to π, is the angle of `z`: θ × 12000 / 2π rounded half up, a negative one
giving 0 (R1). For θ from 0 to π this is the whole turns in 12000 × θ + π, which is found exactly. -/
def frequencyOfAdvance (z : Phasor) : Nat :=
  if z.im < 0 then 0
  else
    let w := windSampleRate z
    w.turns + (if w.rest.lower then 1 else 0)

/-- The instantaneous frequency f_s of a sample (R1). A zero analytic sample has no phase: its frequency is a free value,
clamped as R1 clamps (log entry 8). -/
def frequencyOf (previous : Option Analytic) (a : Analytic) (sampleCount : Nat) : Nat :=
  match previous with
  | none => 0
  | some p =>
    let z := Phasor.times ⟨a.re, a.im⟩ ⟨p.re, -p.im⟩
    if z = ⟨0, 0⟩ then min (Config.phaselessFrequency sampleCount) 6000
    else min (frequencyOfAdvance z) 6000

/-- The integer square root of `n`, found bit by bit from bit `bits` of the root downwards. -/
def sqrtBits : Nat → Nat → Nat → Nat
  | 0, _, root => root
  | bits + 1, n, root =>
    let trial := root + 2 ^ bits
    if trial * trial ≤ n then sqrtBits bits n trial else sqrtBits bits n root

/-- The magnitude of an analytic sample in input sample units, rounded down and capped at 32,767 (R1). -/
def envelopeOf (a : Analytic) : Nat :=
  let square := a.re.natAbs * a.re.natAbs + a.im.natAbs * a.im.natAbs
  if 2147418112 * 2147418112 ≤ square then 32767 else sqrtBits 31 square 0 / 65536

/-- The analytic sample of an audio sample and its quarter-cycle part, in 1/65536 of a sample unit (log entry 5). -/
def analyticOf (audio : BitVec 16) (quadrature : Int) : Analytic := { re := audio.toInt * 65536, im := quadrature }

/-! ## Tone detectors (R7) -/

/-- The start tone's band. -/
def startBand (f : Nat) : Bool := 280 ≤ f && f ≤ 320

/-- The stop tone's band. -/
def stopBand (f : Nat) : Bool := 430 ≤ f && f ≤ 470

/-- A detector takes a sample, numbered `index`. A run that ends unconfirmed is gone without effect; a confirmed one
stands, with its gap of 1,201, until its end is taken. -/
def ToneRun.step (run : Option ToneRun) (inBand : Bool) (index : Nat) : Option ToneRun :=
  match run, inBand with
  | none, true => some { start := index, gap := 0, confirmed := false }
  | none, false => none
  | some r, true => some { r with gap := 0 }
  | some r, false => if r.gap + 1 ≥ 1201 && !r.confirmed then none else some { r with gap := r.gap + 1 }

/-- The last sample, numbered `index`, confirms the run: it is in-band and 36,000 or more samples after the start. -/
def ToneRun.confirms (run : Option ToneRun) (index : Nat) : Bool :=
  match run with
  | some r => !r.confirmed && r.gap = 0 && r.start + 36000 ≤ index
  | none => false

/-- The run is confirmed and its gap has reached 1,201: the tone has ended. -/
def ToneRun.endDue (run : Option ToneRun) : Bool :=
  match run with
  | some r => r.confirmed && r.gap ≥ 1201
  | none => false

/-- Set the confirmed flag. -/
def ToneRun.confirm (run : Option ToneRun) : Option ToneRun := run.map (fun r => { r with confirmed := true })

/-! ## The line assembler (R3) -/

/-- The empty assembler, with its next sample at a position. -/
def Assembler.at (position : Nat) : Assembler := { sums := [], envelope := 0, position := position }

/-- Add one sample to a pixel's sums, the pixel reached last standing first. A line's pixels come in rising order (R3). -/
def addToPixel (sums : List (Nat × PixelSum)) (pixel f : Nat) : List (Nat × PixelSum) :=
  match sums with
  | (p, x) :: t =>
    if p = pixel then (p, { total := x.total + f, count := x.count + 1 }) :: t
    else (pixel, { total := f, count := 1 }) :: (p, x) :: t
  | [] => [(pixel, { total := f, count := 1 })]

/-- Take one sample at the assembler's position of a line of `n` samples and `w` pixels (R3). -/
def Assembler.take (a : Assembler) (w n f env : Nat) : Assembler :=
  { sums := addToPixel a.sums (a.position * w / n) f
    envelope := a.envelope + env
    position := a.position + 1 }

/-- The pixel tone: the mean of the pixel's samples, rounded half up (R3); a pixel with none has a free tone (log entry 7). -/
def pixelTone (sampleCount : Nat) (a : Assembler) (pixel : Nat) : Nat :=
  match Sparse.find a.sums pixel with
  | some p => if p.count = 0 then Config.unsampledTone sampleCount pixel else (2 * p.total + p.count) / (2 * p.count)
  | none => Config.unsampledTone sampleCount pixel

/-- The pixel tones of a line of `w` pixels. -/
def pixelTones (sampleCount : Nat) (a : Assembler) (w : Nat) : List Nat := (List.range w).map (pixelTone sampleCount a)

/-- The line's mean envelope, rounded down (R3). -/
def meanEnvelope (a : Assembler) (n : Nat) : Nat := a.envelope / n

/-! ## Grays, grade and fingerprint (R4 to R6) -/

/-- A pixel is valid when its tone lies from 1400 to 2400 Hz (R4). -/
def toneValid (f : Nat) : Bool := 1400 ≤ f && f ≤ 2400

/-- The gray of a valid pixel (R4). -/
def grayOfTone (f : Nat) : Gray :=
  let fc := max 1500 (min f 2300)
  BitVec.ofNat 4 (((2300 - fc) * 15 + 400) / 800)

/-- The grays of a line: an invalid pixel repeats the gray before it, `held` being 0 before pixel 0 (R4). -/
def grays (held : Gray) : List Nat → Pixels
  | [] => []
  | f :: t =>
    let g := if toneValid f then grayOfTone f else held
    g :: grays g t

/-- E, the number of invalid pixels (R5). -/
def invalidCount (tones : List Nat) : Nat := (tones.filter (fun f => !toneValid f)).length

/-- B, the number of maximal runs of three or more invalid pixels; `run` is the length of the run so far (R5). -/
def burstCount (run : Nat) : List Nat → Nat
  | [] => if 3 ≤ run then 1 else 0
  | f :: t => if toneValid f then (if 3 ≤ run then 1 else 0) + burstCount 0 t else burstCount (run + 1) t

/-- g0 = 255 − floor(E × 192 / W) − 4 × min(B, 15) (R5). -/
def baseGrade (e b w : Nat) : Nat := 255 - e * 192 / w - 4 * min b 15

/-- The grade after the caps of the unphased flag and the level floor (R5). -/
def lineGrade (e b w : Nat) (unphased belowFloor : Bool) : Nat :=
  let g := if unphased then min (baseGrade e b w) 127 else baseGrade e b w
  if belowFloor then min g 63 else g

/-- The sum of some grays. -/
def graySum (p : Pixels) : Nat := (p.map BitVec.toNat).sum

/-- Zone `z`'s bit: its grays sum to at least 8 × the zone width (R6). -/
def zoneBit (p : Pixels) (zone z : Nat) : Bool := 8 * zone ≤ graySum ((p.drop (z * zone)).take zone)

/-- The fingerprint of a line of `w` grays: zone 0 gives bit 15 (R6). -/
def fingerprintOf (p : Pixels) (w : Nat) : Fingerprint :=
  BitVec.ofNat 16 ((List.range 16).foldl (fun acc z => 2 * acc + (if zoneBit p (w / 16) z then 1 else 0)) 0)

/-- How many of the low `n` bits of two words differ. -/
def differingBits (a b : Fingerprint) : Nat → Nat
  | 0 => 0
  | n + 1 => (if a.getLsbD n = b.getLsbD n then 0 else 1) + differingBits a b n

/-- The Hamming distance of two fingerprints (R6). -/
def hamming (a b : Fingerprint) : Nat := differingBits a b 16

/-! ## The phasing pulse (R11) -/

/-- A run of pixels: its first pixel and its length. -/
structure PixelRun where
  first : Nat
  length : Nat
deriving DecidableEq, Repr

/-- The longest run of gray 3 or less, the lowest first pixel among equals (R11): `pixel` is the pixel reached, `run` the
run in progress, `best` the best so far. -/
def longestWhiteRun (pixel : Nat) (run best : PixelRun) : Pixels → PixelRun
  | [] => best
  | g :: t =>
    if g.toNat ≤ 3 then
      let run' : PixelRun := if run.length = 0 then ⟨pixel, 1⟩ else ⟨run.first, run.length + 1⟩
      longestWhiteRun (pixel + 1) run' (if best.length < run'.length then run' else best) t
    else longestWhiteRun (pixel + 1) ⟨0, 0⟩ best t

/-- The pulse position of a phasing period, when it is a pulse period (R11). -/
def pulsePosition (p : Pixels) (w : Nat) : Option Nat :=
  let best := longestWhiteRun 0 ⟨0, 0⟩ ⟨0, 0⟩ p
  if w / 40 ≤ best.length then some best.first else none

/-- The phasing record after a period (R11). -/
def Phasing.take (ph : Phasing) (pulse : Option Nat) : Phasing :=
  match pulse with
  | some position =>
    { periods := ph.periods + 1
      pulses := ph.pulses + 1
      positions := (if ph.positions.length < 4 then ph.positions else ph.positions.drop 1) ++ [position] }
  | none => { ph with periods := ph.periods + 1 }

/-- Phasing ends: a pulseless period after a pulse, or the 80th period (R11). -/
def Phasing.ends (ph : Phasing) (pulse : Option Nat) : Bool :=
  (pulse.isNone && 1 ≤ ph.pulses) || 80 ≤ ph.periods

/-- The highest less the lowest of a list. -/
def spread (l : List Nat) : Nat := l.foldl max 0 - (l.foldl (fun acc x => min acc x) (l.headD 0))

/-- The origin that phasing settles, absent when the reception stays unphased (R12). R12's condition alone decides, at the 80th period
too, where R12 also names pulses still arriving as a case of origin 0 (DESIGN CHOICE, log entry 48). -/
def Phasing.settledOrigin (ph : Phasing) (w : Nat) : Option Nat :=
  if 8 ≤ ph.pulses && spread ph.positions ≤ w / 64 then ph.positions.getLast? else none

/-- The origin offset o = ceil(origin × N / W) (R2). -/
def originOffset (origin n w : Nat) : Nat := (origin * n + w - 1) / w

/-! ## Width mapping (R36) -/

/-- Map content of width `ws` to width `w`: target pixel j takes source pixel floor(j × Ws / W) (R36). -/
def mapWidth (p : Pixels) (ws w : Nat) : Pixels :=
  if ws = w then p else (List.range w).map (fun j => p.getD (j * ws / w) 0)

end Sys2Proof.Machine
end

