-- ==== Sys2Proof/Machine/LineTable.lean ====
section
/-!
DEFINITION. The LINE TABLE (chapter 2) and the HOLD UNIT's pool (chapter 8): the write queue, the replacement rule,
candidates, shadow entries, cancelled writes, and the reads that wait for writes.
-/
namespace Sys2Proof.Machine

/-! ## The pool (R139) -/

/-- The SHADOW entry of a slot's line, and its number (R139: at most one). -/
def State.shadow? (s : State) (slot line : Nat) : Option (Nat × PoolEntry) :=
  s.pool.find? (fun p => p.2.kind = .shadow && p.2.slot = slot && p.2.line = line)

/-- A slot holds a SHADOW entry. -/
def State.hasShadow (s : State) (slot : Nat) : Bool := s.pool.any (fun p => p.2.kind = .shadow && p.2.slot = slot)

/-- PROVISIONAL entries taken. -/
def State.provisionalCount (s : State) : Nat := (s.pool.filter (fun p => p.2.kind = .provisional)).length

/-- Pool entries a slot holds (R97). -/
def State.poolOfSlot (s : State) (slot : Nat) : Nat := (s.pool.filter (fun p => p.2.slot = slot)).length

/-- The lowest-numbered free entry, where one is free (R139). -/
def State.freePoolEntry (s : State) : Option Nat :=
  let n := Sparse.lowestFree s.pool 0
  if n < Config.poolEntries then some n else none

/-- The shadow reference: the pending grade when present, the written grade otherwise (R141). -/
def PoolEntry.reference (e : PoolEntry) : Nat := (e.pending.orElse fun _ => e.written).getD 0

def State.putPool (s : State) (n : Nat) (e : PoolEntry) : State := { s with pool := Sparse.put s.pool n e }

def State.modifyPool (s : State) (n : Nat) (f : PoolEntry → PoolEntry) : State :=
  { s with pool := Sparse.modify s.pool n f }

/-- A new SHADOW entry (R145). -/
def PoolEntry.newShadow (slot line : Nat) : PoolEntry :=
  { kind := .shadow, slot := slot, line := line, written := none, pending := none, source := none, origin := none
    merging := false }

/-- A new PROVISIONAL entry (R140). -/
def PoolEntry.newProvisional (slot ownIndex : Nat) : PoolEntry :=
  { kind := .provisional, slot := slot, line := ownIndex, written := none, pending := none, source := none, origin := none
    merging := false }

/-! ## Holds -/

/-- A slot's hold; NONE where the slot is not in use. -/
def State.hold (s : State) (slot : Nat) : Hold :=
  match s.record? slot with
  | some r => r.hold
  | none => .none

def State.setHold (s : State) (slot : Nat) (h : Hold) : State := s.modifyRecord slot (fun r => { r with hold := h })

/-- The thaw of a slot ends when it is THAWING and holds no SHADOW entry (R149). -/
def State.thawEnd (s : State) (slot : Nat) : State :=
  if s.hold slot = .thawing && !s.hasShadow slot then (s.setHold slot .none).post .thawDone slot else s

/-! ## The write queue (R28, R35, R37) -/

/-- A write is a write into a slot's composite: COMPOSITE or MERGE. -/
def Write.intoComposite (w : Write) (slot : Nat) : Bool := w.kind != .pool && w.slot = slot

/-- A write fills a pool entry, which has not been freed since the write was queued. -/
def Write.intoPool (w : Write) (entry : Nat) : Bool := w.kind = .pool && w.target = entry && !w.stale

/-- A queued write once a pool entry is free: one to that entry fills no entry any more (log entry 13). -/
def Write.afterFree (w : Write) (entry : Nat) : Write := if w.intoPool entry then { w with stale := true } else w

/-- A slot is quiet: the write in progress is no COMPOSITE or MERGE write to it (R37). -/
def State.quiet (s : State) (slot : Nat) : Bool :=
  match s.lineTable.queue with
  | [] => true
  | w :: _ => !(s.lineTable.started && w.intoComposite slot)

/-- The next write starts, where none is in progress and no request waits to come before it (R28, R37). A write that
names a pool entry to read takes its content now (R35). -/
def State.startNext (s : State) : State :=
  match s.lineTable.queue with
  | [] => { s with lineTable := { s.lineTable with started := false } }
  | w :: t =>
    if s.lineTable.started || !s.lineTable.requests.isEmpty then s
    else
      let content := w.content.orElse fun _ => w.frees.map s.readPool
      { s with lineTable := { s.lineTable with queue := { w with content := content } :: t, started := true } }

/-- A write queue entry is free. -/
def State.writePlaceFree (s : State) : Bool := decide (s.lineTable.queue.length < Config.writeQueuePlaces)

/-- Queue a write at the tail (R26, R28). -/
def State.queueWrite (s : State) (w : Write) : State :=
  ({ s with lineTable :=
      { s.lineTable with
        queue := s.lineTable.queue ++ [{ w with order := s.lineTable.nextOrder }]
        nextOrder := s.lineTable.nextOrder + 1 } }).startNext

/-- Take the writes that satisfy `p` out of the queue without completing them; one in progress is cut short (R28, R40).
The next write starts at the end of the act that cancels them, not here. -/
def State.cancelWrites (s : State) (p : Write → Bool) : State :=
  let cut :=
    match s.lineTable.queue with
    | w :: _ => if s.lineTable.started && p w then s.interruptWrite w else s
    | [] => s
  { cut with lineTable := { s.lineTable with
      queue := s.lineTable.queue.filter (fun w => !p w)
      started := s.lineTable.started && s.lineTable.queue.head?.any (fun w => !p w) } }

/-- The newest write of the queue that satisfies `p`. -/
def State.newestWrite (s : State) (p : Write → Bool) : Option Write := (s.lineTable.queue.filter p).getLast?

/-- Each entry's pending grade becomes the grade of the newest write still queued for it, or absent (R38, R39). -/
def State.settlePendingGrades (s : State) (slot : Nat) : State :=
  s.modifySlot slot (fun sl => { sl with
    entries := (sl.entries.map (fun p => (p.1, { p.2 with
      pending := (s.newestWrite (fun w => w.intoComposite slot && w.target = p.1)).map Write.grade }))).filter
        (fun p => p.2 != LineEntry.empty) })

/-- A pool entry is freed: it has no fields, and a store that waits for it goes (R139, R140). The write queue stays as it
was (R26, R28): a write queued to the entry completes into chart memory alone (log entry 13). -/
def State.freePool (s : State) (n : Nat) : State :=
  { s with
    pool := Sparse.erase s.pool n
    lineTable := { s.lineTable with
      store := if s.lineTable.store.any (fun st => st.entry = n) then none else s.lineTable.store
      queue := s.lineTable.queue.map (fun w => w.afterFree n) } }

/-- Free some pool entries, one after the other. -/
def State.freePools (s : State) : List Nat → State
  | [] => s
  | n :: t => (s.freePool n).freePools t

/-- Free a pool entry where one is named. -/
def State.freeNamed (s : State) (n : Option Nat) : State :=
  match n with
  | some n => s.freePool n
  | none => s

/-- Some pool entries are freed and the POOL writes to them cancelled, one in progress being cut short: what R109 and R151 say
of an abandoned chart and of a split. -/
def State.freeAndCancel (s : State) (l : List Nat) : State := (s.cancelWrites (fun w => l.any w.intoPool)).freePools l

/-! ## The replacement rule (R25, R144) -/

/-- What a candidate for a line is judged against: none for an empty entry with nothing on its way, otherwise the pending
grade when present or else the committed grade, or the shadow reference where that is given and higher (R25, R117, R144). -/
def referenceGrade (e : LineEntry) (shadow : Option Nat) : Option Nat :=
  match shadow with
  | some g => some (max (e.pending.getD e.committed) g)
  | none => if e.committed = 0 && e.pending.isNone then none else some (e.pending.getD e.committed)

/-- The replacement rule (R25): any grade on an empty entry; otherwise a greater one, by at least the margin. -/
def replaces (margin g : Nat) (reference : Option Nat) : Bool :=
  match reference with
  | none => decide (1 ≤ g)
  | some r => decide (r < g) && decide (margin ≤ g - r)

/-- The line's shadow reference, where a candidate for the line goes to the HOLD UNIT: the slot is FROZEN, or THAWING with
an UNMERGED SHADOW entry for the line (R27). `none` when it goes to the composite. -/
def State.heldReference (s : State) (slot line : Nat) : Option (Option Nat) :=
  match s.hold slot, s.shadow? slot line with
  | .frozen, some (_, e) => some (some e.reference)
  | .frozen, none => some none
  | .thawing, some (_, e) => if e.merging then none else some (some e.reference)
  | .thawing, none => none
  | .none, _ => none

/-- The reference for a line of a slot, in the hold in force (R25, R117, R144). -/
def State.lineReference (s : State) (slot line : Nat) : Option Nat :=
  referenceGrade (s.entry slot line) ((s.heldReference slot line).getD none)

/-! ## Candidates (R24 to R27) -/

/-- A candidate for a line entry (R24). `content` is absent on a migrating line, whose grays lie in the pool entry `frees`
(R35). `fingerprint` is present on an own line from reception or migration. -/
structure Candidate where
  slot : Nat
  line : Nat
  grade : Nat
  source : Station
  origin : Origin
  width : Nat
  content : Option Pixels
  fingerprint : Option Fingerprint
  frees : Option Nat
deriving DecidableEq, Repr

/-- The write of an accepted candidate, its content mapped to W (R26, R36). -/
def State.writeOf (s : State) (c : Candidate) (kind : WriteKind) (target : Nat) : Write :=
  { order := 0, kind := kind, slot := c.slot, target := target, grade := c.grade, source := c.source
    origin := some c.origin, content := c.content.map (fun p => mapWidth p c.width s.width), frees := c.frees }

/-- An own line that was accepted is handed to the tally batcher (R26, R27). -/
def State.tallyCandidate (s : State) (c : Candidate) : State :=
  match c.fingerprint with
  | some fp => s.tallyLine c.slot c.line c.grade fp
  | none => s

/-- A rejected or dropped candidate leaves nothing behind, the queue as it was; a migrating line frees its pool entry (R26,
R35). -/
def State.rejectCandidate (s : State) (c : Candidate) : State := s.freeNamed c.frees

/-- A candidate is accepted into the composite (R26). -/
def State.acceptCandidate (s : State) (c : Candidate) : State :=
  ((s.queueWrite (s.writeOf c .composite c.line)).modifyEntry c.slot c.line (fun e => { e with pending := some c.grade })
    ).tallyCandidate c

/-- The number of the SHADOW entry a winning candidate goes into, the line's own or a new one; none when the pool is full
(R145). -/
def State.assignShadow (s : State) (slot line : Nat) : Option (Nat × State) :=
  match s.shadow? slot line with
  | some (n, _) => some (n, s)
  | none =>
    match s.freePoolEntry with
    | some n => some (n, s.putPool n (PoolEntry.newShadow slot line))
    | none => none

/-- A candidate for a held line: judged by R144, then directed into a shadow entry or dropped (R145). -/
def State.holdCandidate (s : State) (c : Candidate) (shadow : Option Nat) : State :=
  if replaces s.config.settings.margin c.grade (referenceGrade (s.entry c.slot c.line) shadow) then
    match s.assignShadow c.slot c.line with
    | some (n, s) =>
      ((s.modifyPool n (fun e => { e with pending := some c.grade })).queueWrite (s.writeOf c .pool n)).tallyCandidate c
    | none => (s.post .shadowFull c.slot).rejectCandidate c
  else s.rejectCandidate c

/-- The LINE TABLE takes a candidate: tests it and, on acceptance, queues its write, in one step (R24 to R27). -/
def State.takeCandidate (s : State) (c : Candidate) : State :=
  if c.grade < 3 then s.rejectCandidate c
  else
    match s.heldReference c.slot c.line with
    | some shadow => s.holdCandidate c shadow
    | none =>
      if replaces s.config.settings.margin c.grade (referenceGrade (s.entry c.slot c.line) none) then s.acceptCandidate c
      else s.rejectCandidate c

/-- The candidate of a finished own line (R18). -/
def State.ownCandidate (s : State) (b : BufferedLine) : Candidate :=
  { slot := b.slot, line := b.line, grade := b.grade, source := s.self, origin := .own, width := s.width
    content := some b.pixels, fingerprint := some b.fingerprint, frees := none }

/-- The candidate of a body from a context (R133). -/
def bodyCandidate (slot : Nat) (c : Context) : Candidate :=
  { slot := slot, line := c.line, grade := c.grade, source := c.source, origin := .peer, width := widthOfCode c.width
    content := some c.pixels, fingerprint := none, frees := none }

/-- The candidate of a migrating line (R106). -/
def State.migrationCandidate (s : State) (slot : Nat) (h : HeldLine) (target : Nat) : Candidate :=
  { slot := slot, line := target, grade := h.grade, source := s.self, origin := .own, width := s.width
    content := none, fingerprint := some h.fingerprint, frees := some h.entry }

/-! ## The candidate sources in their order (R31) -/

/-- The provisional store's POOL write (R30). -/
def State.queueStore (s : State) (st : ProvisionalStore) : State :=
  (s.modifyPool st.entry (fun e => { e with pending := some st.grade })).queueWrite
    { order := 0, kind := .pool, slot := st.slot, target := st.entry, grade := st.grade, source := s.self, origin := none
      content := some st.pixels, frees := none }

/-- The senders in rotation after the one last served (R31). -/
def rotation (last : Station) : List Nat := (List.range 8).map (fun i => (last.val + 1 + i) % 8)

/-- The first sender in rotation with a body waiting, its context and the body's slot (R31). -/
def State.nextBody (s : State) : Option (Nat × Context × Nat) :=
  (rotation s.lineTable.lastServed).findSome? (fun n =>
    match Sparse.find s.fetch.contexts n with
    | some c => c.waitingSlot.map (fun slot => (n, c, slot))
    | none => none)

/-- The merge line: the UNMERGED SHADOW entry of a THAWING slot with the lowest slot and line (R147; log entry 14). -/
def State.nextMerge (s : State) : Option (Nat × PoolEntry) :=
  firstLeast (fun p => p.2.slot * Config.linesPerSlot + p.2.line)
    (s.pool.filter (fun p => p.2.kind = .shadow && !p.2.merging && s.hold p.2.slot = .thawing))

/-- A merge line is taken: its MERGE write is queued without a test, the entry is MERGING (R27, R147). -/
def State.takeMerge (s : State) (n : Nat) (e : PoolEntry) : State :=
  let newest := s.newestWrite (fun w => w.intoPool n)
  let source := match newest with
    | some w => w.source
    | none => e.source.getD (Config.absentSource e.line)
  ((s.modifyPool n (fun e => { e with merging := true })).queueWrite
    { order := 0, kind := .merge, slot := e.slot, target := e.line, grade := e.reference, source := source
      origin := some .merged, content := none, frees := some n }).modifyEntry e.slot e.line
        (fun x => { x with pending := some e.reference })

/-- A body is taken from its sender's context (R133): its record must still hold its key. A context that waits goes through
a re-key of R83 with its record and not through a split (log entry 36). -/
def State.takeBody (s : State) (sender : Nat) (c : Context) (slot : Nat) : State :=
  let s := { s with
    fetch := { s.fetch with contexts := Sparse.erase s.fetch.contexts sender }
    lineTable := { s.lineTable with lastServed := Fin.ofNat 8 sender } }
  match s.record? slot with
  | some r => if r.key = c.key then s.takeCandidate (bodyCandidate slot c) else s
  | none => s

/-- The unit returns to IDLE when its migration list is empty (R106). The count of lines handed and the unit's copy of the
expected offset, of which R106 says nothing, stay as they stand (DESIGN CHOICE, log entry 43). -/
def State.settleMigration (s : State) : State :=
  if s.alignment.state = .migrating && s.alignment.migration.isEmpty then
    { s with alignment := { s.alignment with state := .idle, slot := none, key := none } }
  else s

/-- The head of the migration list is taken (R106). -/
def State.takeMigration (s : State) (slot : Nat) (h : HeldLine) (target : Nat) : State :=
  let s := { s with alignment := { s.alignment with migration := s.alignment.migration.drop 1 } }
  (s.takeCandidate (s.migrationCandidate slot h target)).settleMigration

/-- Some candidate waits (R31). -/
def State.candidateWaits (s : State) : Bool :=
  s.lineTable.store.isSome || !s.reception.buffers.isEmpty || s.nextBody.isSome ||
    (s.alignment.state = .migrating && !s.alignment.migration.isEmpty) || s.nextMerge.isSome

/-- The LINE TABLE takes the next waiting candidate in the order of R31. -/
def State.takeNext (s : State) : State :=
  match s.lineTable.store with
  | some st => ({ s with lineTable := { s.lineTable with store := none } }).queueStore st
  | none =>
    match s.reception.buffers with
    | b :: rest => ({ s with reception := { s.reception with buffers := rest } }).takeCandidate (s.ownCandidate b)
    | [] =>
      match s.nextBody with
      | some (n, c, slot) => s.takeBody n c slot
      | none =>
        match s.alignment.state, s.alignment.migration, s.alignment.slot with
        | .migrating, (h, target) :: _, some slot => s.takeMigration slot h target
        | _, _, _ =>
          match s.nextMerge with
          | some (n, e) => s.takeMerge n e
          | none => s

/-! ## Reads (R33, R34, R127) -/

/-- A read of a slot that was asked when the next write had number `asked` waits for no write any more (R33). -/
def State.readDue (s : State) (slot asked : Nat) : Bool :=
  s.lineTable.queue.all (fun w => w.slot != slot || decide (asked ≤ w.order))

/-- One item of a LINES response, as the entry stands (R34). -/
def State.lineItem (s : State) (slot line : Nat) : LineItem :=
  let e := s.entry slot line
  { line := line, grade := e.committed, held := (s.shadow? slot line).isSome, source := e.source, origin := e.origin
    pixels := s.readLine slot line }

/-- The pending READ_LINES is made and its LINES response joins the queue (R33, R34, R180). -/
def State.makeRead (s : State) : State :=
  match s.port.read with
  | some r =>
    ({ s with port := { s.port with read := none } }).respond
      (.lines .ok (BitVec.ofNat 8 r.slot) r.first ((List.range r.count).map (fun i => s.lineItem r.slot (r.first + i))))
  | none => s

/-- The pending READ_LINES waits for no write any more (R33). -/
def State.linesDue (s : State) : Bool := s.port.read.any (fun r => s.readDue r.slot r.asked)

/-- The content a snapshot takes now: the written shadow of a held chart's line, else the composite (R127, R153). -/
def State.snapshotOf (s : State) (slot line : Nat) : Snapshot :=
  let composite : Snapshot :=
    { grade := (s.entry slot line).committed, source := (s.entry slot line).source, pixels := s.readLine slot line }
  if s.hold slot = .none then composite
  else
    match s.shadow? slot line with
    | some (n, e) =>
      match e.written with
      | some g => { grade := g, source := e.source, pixels := s.readPool n }
      | none => composite
    | none => composite

/-- A body's snapshot can be made now: it is not made and waits for no write any more (R33). -/
def State.snapshotDue (s : State) (b : SendBody) : Bool := b.snapshot.isNone && s.readDue b.slot b.asked

/-- The link forms the segments of the head body, when its snapshot is made and they are not formed (R59, R127). -/
def State.formSegments (s : State) : State :=
  match s.fetch.bodies with
  | b :: t =>
    match b.snapshot, b.formed with
    | some snap, false =>
      { s with
        fetch := { s.fetch with bodies := { b with formed := true } :: t }
        link := { s.link with segments := s.link.segments ++
          (bodySegments b snap s.config.settings.width).map (fun g => QueuedFrame.fresh (.body g)) } }
    | _, _ => s
  | [] => s

/-- Make the snapshots that are due among some bodies, as the table stands in `s`. -/
def State.withSnapshots (s : State) (due : SendBody → Bool) (l : List SendBody) : List SendBody :=
  l.map (fun b => if due b then { b with snapshot := some (s.snapshotOf b.slot b.line) } else b)

/-- Every read that waits for no write any more is made before the table changes again: the instant of a read is the
completion of the last write it waits for (R33; log entry 2). -/
def State.makeDueReads (s : State) : State :=
  let s := if s.linesDue then s.makeRead else s
  ({ s with fetch := { s.fetch with bodies := s.withSnapshots s.snapshotDue s.fetch.bodies } }).formSegments

/-! ## Completions (R29, R30, R141) -/

/-- The write in progress leaves the queue. -/
def State.popWrite (s : State) : State :=
  { s with lineTable := { s.lineTable with queue := s.lineTable.queue.drop 1, started := false } }

/-- An entry after the completion of a write (R29). -/
def LineEntry.completed (e : LineEntry) (w : Write) : LineEntry :=
  { committed := w.grade, source := some w.source, origin := w.origin
    pending := if e.pending = some w.grade then none else e.pending }

/-- A pool entry after the completion of a write to it (R140, R141). -/
def PoolEntry.completed (e : PoolEntry) (w : Write) : PoolEntry :=
  { e with
    written := some w.grade
    source := some w.source
    origin := if e.kind = .shadow then w.origin else none
    pending := if e.pending = some w.grade then none else e.pending }

/-- A COMPOSITE or MERGE write completes (R29, R88, R149); the next write starts. -/
def State.completeComposite (s : State) (w : Write) : State :=
  let s := ((s.popWrite).storeWrite w).modifyEntry w.slot w.target (fun e => e.completed w)
  let s := (s.freeNamed w.frees).post .linesImproved w.slot
  ((s.modifyRecord w.slot (fun r => r.raise w.target)).thawEnd w.slot).startNext

/-- A POOL write completes (R30, R141); the next write starts. One whose entry was freed meanwhile sets no entry's fields
(log entry 13). -/
def State.completePool (s : State) (w : Write) : State :=
  let s := (s.popWrite).storeWrite w
  let s := if w.stale then s else s.modifyPool w.target (fun e => e.completed w)
  (s.freeNamed w.frees).startNext

end Sys2Proof.Machine
end

