-- ==== Sys2Proof/Machine/Fetch.lean ====
section
/-!
DEFINITION. The FETCH UNIT (chapter 7): the holder map, asking, retiring, serving and reassembly.
-/
namespace Sys2Proof.Machine

/-! ## The holder map (R115, R116) -/

/-- The best and second holder change places when the second's grade exceeds the best's (R115). -/
def HolderRow.ordered (r : HolderRow) : HolderRow :=
  match r.best, r.second with
  | some b, some x => if b.grade < x.grade then { r with best := some x, second := some b } else r
  | _, _ => r

/-- A listed sender's grade becomes `g`, with the exchange of places (R115, R116); a sender not listed is not added. -/
def HolderRow.regrade (r : HolderRow) (s : Station) (g : Nat) : HolderRow :=
  let set (h : Option Holder) : Option Holder := h.map (fun h => if h.station = s then { h with grade := g } else h)
  HolderRow.ordered { r with best := set r.best, second := set r.second }

/-- A station is the best or second holder. -/
def HolderRow.lists (r : HolderRow) (s : Station) : Bool :=
  r.best.any (fun h => h.station == s) || r.second.any (fun h => h.station == s)

/-- A sender not listed enters a row (R115): ties keep the incumbent. -/
def HolderRow.enter (r : HolderRow) (s : Station) (g : Nat) : HolderRow :=
  let new : Holder := { station := s, grade := g }
  match r.best with
  | none => { r with best := some new }
  | some b =>
    if b.grade < g then { r with best := some new, second := some b }
    else if r.second.all (fun x => decide (x.grade < g)) then { r with second := some new }
    else r

/-- A TALLY entry of grade `g` (not 0) from station `s` updates a row; a different best holder clears the attempts and the
exhausted flag (R115). -/
def HolderRow.tallied (r : HolderRow) (s : Station) (g : Nat) : HolderRow :=
  let r' := if r.lists s then r.regrade s g else r.enter s g
  if r'.best.map Holder.station = r.best.map Holder.station then r'
  else { r' with attempts := 0, exhausted := false }

/-- A sender is removed from a row; with the best removed the second becomes best (R116). -/
def HolderRow.remove (r : HolderRow) (s : Station) : HolderRow :=
  if r.best.any (fun h => h.station == s) then { r with best := r.second, second := none }
  else if r.second.any (fun h => h.station == s) then { r with second := none }
  else r

/-- An attempt is counted; the third exhausts the line (R124). -/
def HolderRow.attempt (r : HolderRow) : HolderRow :=
  let n := min 3 (r.attempts + 1)
  { r with attempts := n, exhausted := r.exhausted || n = 3 }

/-- The line is deferred until at least `expiry` (R125). -/
def HolderRow.deferTo (r : HolderRow) (expiry : Nat) : HolderRow :=
  { r with deferral := some (max (r.deferral.getD 0) expiry) }

/-- The rows after a TALLY's entries for the lines from `n` up (R115). -/
def Slot.tallyRows (sl : Slot) (s : Station) : Nat → List TallyEntry → Slot
  | _, [] => sl
  | n, e :: t =>
    let sl := if e.grade = 0 then sl else sl.setRow n ((sl.row n).tallied s e.grade.toNat)
    sl.tallyRows s (n + 1) t

/-! ## Retiring (R119, R124) -/

/-- A fetch entry is for a key and line. -/
def FetchEntry.isFor (e : FetchEntry) (k : Key) (n : Nat) : Bool := e.key == k && e.line == n

/-- Retire a fetch entry: it leaves the list, and its ASK is withdrawn where it still waits (R119). -/
def State.retire (s : State) (e : FetchEntry) : State :=
  { s with
    fetch := { s.fetch with fetches := s.fetch.fetches.filter (fun x => x != e) }
    link := if e.phase = .askQueued then s.link.withdrawAsk e.key e.line else s.link }

/-- Retire some entries, counting an attempt for each when `counted` (R119, R124). -/
def State.retireAll (s : State) (counted : Bool) : List FetchEntry → State
  | [] => s
  | e :: t =>
    let s := s.retire e
    (if counted then s.modifyRow e.slot e.line HolderRow.attempt else s).retireAll counted t

/-- Retire every entry that satisfies `p`. -/
def State.retireWhere (s : State) (p : FetchEntry → Bool) (counted : Bool) : State :=
  s.retireAll counted (s.fetch.fetches.filter p)

/-- The entry that targets a station: no two have the same target (R119). -/
def State.fetchOf (s : State) (target : Station) : Option FetchEntry :=
  s.fetch.fetches.find? (fun e => e.target == target)

/-- The entry for a key and line: there is at most one (R119). -/
def State.fetchFor (s : State) (k : Key) (n : Nat) : Option FetchEntry :=
  s.fetch.fetches.find? (fun e => e.isFor k n)

/-- Replace an entry by its changed self. -/
def State.updateFetch (s : State) (e new : FetchEntry) : State :=
  { s with fetch := { s.fetch with fetches := s.fetch.fetches.map (fun x => if x = e then new else x) } }

/-! ## Asking (R117, R118) -/

/-- The ROSTER finds a peer LIVE (R69). -/
def State.isLive (s : State) (st : Station) : Bool :=
  (Sparse.find s.roster.peers st.val).any (fun e => e.state = .live)

/-- A grade would be accepted for a line: at least 3, and by the replacement rule (R117). -/
def State.worthAsking (s : State) (slot line g : Nat) : Bool :=
  decide (3 ≤ g) && replaces s.config.settings.margin g (s.lineReference slot line)

/-- The best holder of an eligible line (R117). -/
def State.eligible (s : State) (slot : Nat) (r : ChartRecord) (line : Nat) (row : HolderRow) : Option Holder :=
  match row.best with
  | some b =>
    if r.state != .aligning && s.isLive b.station && s.worthAsking slot line b.grade &&
        (s.fetchFor r.key line).isNone && row.deferral.isNone && !row.exhausted &&
        decide (s.fetch.fetches.length < 4) && (s.fetchOf b.station).isNone && !s.link.mute then some b
    else none
  | none => none

/-- The eligible line of the lowest slot, and within it the lowest line: its slot, record, line, row and best holder (R118). -/
def State.nextEligible (s : State) : Option (Nat × ChartRecord × Nat × HolderRow × Holder) :=
  s.slots.findSome? (fun p =>
    p.2.rows.findSome? (fun q =>
      (s.eligible p.1 p.2.record q.1 q.2).map (fun b => (p.1, p.2.record, q.1, q.2, b))))

/-- The fallback an ASK names: the second holder, when the strap enables it, it is LIVE and its grade passes (R118). -/
def State.fallbackOf (s : State) (slot line : Nat) (row : HolderRow) : Option Station :=
  match row.second with
  | some x =>
    if s.config.settings.fallbackEnable && s.isLive x.station && s.worthAsking slot line x.grade then some x.station
    else none
  | none => none

/-- Issue an ASK for a line (R118). -/
def State.issueAsk (s : State) (slot : Nat) (r : ChartRecord) (line : Nat) (row : HolderRow) (b : Holder) : State :=
  let fallback := s.fallbackOf slot line row
  match s.link.queueAsk { key := r.key, line := line, primary := b.station, fallback := fallback } with
  | some l =>
    { s with
      link := l
      fetch := { s.fetch with fetches := s.fetch.fetches ++
        [{ target := b.station, fallback := fallback, slot := slot, key := r.key, line := line
           phase := .askQueued, deadline := none }] } }
  | none => s

/-- Issue up to `n` ASKs, while a line is eligible (R118). -/
def State.issueAsksUpTo (s : State) : Nat → State
  | 0 => s
  | n + 1 =>
    match s.nextEligible with
    | some (slot, r, line, row, b) => (s.issueAsk slot r line row b).issueAsksUpTo n
    | none => s

/-- Issue ASKs until the list is full or no line is eligible (R118). -/
def State.issueAsks (s : State) : State := s.issueAsksUpTo 4

/-- What follows every event at once, whatever it was: ASKs are issued for eligible lines (R118), and the transmitter
enters WAITING where a frame waits (R49), or SENDING where byte 0 has been won (R50). -/
def State.settle (s : State) : State := s.issueAsks.wakeTransmitter.enterSending

/-! ## The body send queue (R59, R126 to R129) -/

/-- The body in place `i` leaves the body send queue; the next becomes the head (R59, R127). -/
def State.dropBody (s : State) (i : Nat) : State :=
  ({ s with fetch := { s.fetch with bodies := s.fetch.bodies.eraseIdx i } }).formSegments

/-- Withdraw the bodies of a slot (R60, R135). The segments formed are the head body's. A body withdrawn while one of its
segments is in flight leaves the body send queue at once, and the next body's segments are formed behind that segment
(DESIGN CHOICE, log entry 39). -/
def State.withdrawBodies (s : State) (slot : Nat) : State :=
  let headGoes := s.fetch.bodies.head?.any (fun b => b.slot = slot && b.formed)
  let link := if headGoes then s.link.withdrawSegments else s.link
  ({ s with
     link := link
     fetch := { s.fetch with bodies := s.fetch.bodies.filter (fun b => b.slot != slot) } }).formSegments

/-- Answer an ASK by a DECLINE (R126). -/
def State.declineTo (s : State) (k : Key) (n : Nat) (requester : Station) (reason : DeclineReason) : State :=
  { s with link := s.link.queueDecline { key := k, line := n, requester := requester, reason := reason } }

/-- A body joins the end of the body send queue and its snapshot read is asked for (R126, check 6). A read that waits for no
write is made at once (R33). -/
def State.queueBody (s : State) (slot : Nat) (k : Key) (n : Nat) (requester : Station) : State :=
  let asked := s.lineTable.nextOrder
  ({ s with fetch := { s.fetch with bodies := s.fetch.bodies ++
      [({ slot := slot, key := k, line := n, requester := requester
          snapshot := if s.readDue slot asked then some (s.snapshotOf slot n) else none
          asked := asked, formed := false } : SendBody)] } }).formSegments

/-- Serve a requester as primary: the checks of R126 in their order. -/
def State.serve (s : State) (k : Key) (n : Nat) (requester : Station) : State :=
  if s.link.mute then s
  else
    match s.slotOfKey k with
    | none => s.declineTo k n requester .unknownChart
    | some c =>
      if (s.record? c).any (fun r => r.state = .aligning) then s.declineTo k n requester .noLine
      else if s.fetch.bodies.any (fun b => b.key == k && b.line == n) then s
      else if decide ((s.entry c n).committed ≤ 1) && (s.shadow? c n).isNone then s.declineTo k n requester .noLine
      else if 2 ≤ s.fetch.bodies.length then s.declineTo k n requester .busy
      else s.queueBody c k n requester

/-! ## Fallback timers (R128) -/

/-- A timer is for a key and line. -/
def FallbackTimer.isFor (t : FallbackTimer) (k : Key) (n : Nat) : Bool := t.key == k && t.line == n

/-- An ASK that names this station as fallback starts or restarts a timer (R128). -/
def State.startFallback (s : State) (a : Ask) (requester : Station) : State :=
  let new : FallbackTimer :=
    { key := a.key, line := a.line, primary := a.primary, requester := requester
      expiry := s.now + Config.responseWindow }
  if s.link.mute then s
  else if s.fetch.timers.any (fun t => t.isFor a.key a.line) then
    { s with fetch := { s.fetch with timers := s.fetch.timers.map (fun t => if t.isFor a.key a.line then new else t) } }
  else if s.fetch.timers.length < 4 then { s with fetch := { s.fetch with timers := s.fetch.timers ++ [new] } }
  else s

/-- Cancel the timers that satisfy `p`. -/
def State.cancelTimers (s : State) (p : FallbackTimer → Bool) : State :=
  { s with fetch := { s.fetch with timers := s.fetch.timers.filter (fun t => !p t) } }

/-! ## Reassembly (R130 to R132) -/

def State.setContext (s : State) (sender : Nat) (c : Option Context) : State :=
  { s with fetch := { s.fetch with contexts := match c with
      | some c => Sparse.put s.fetch.contexts sender c
      | none => Sparse.erase s.fetch.contexts sender } }

/-- A segment 0 moves the fetch for its line to RECEIVING (R121), and cancels a fallback timer whose primary sent it (R128). -/
def State.segmentZeroHeard (s : State) (sender : Station) (b : Segment) (h : BodyHeader) : State :=
  let s := s.cancelTimers (fun t => t.isFor b.key b.line && t.primary == sender)
  match s.fetchFor b.key b.line with
  | some e =>
    if (e.phase = .awaitingFirst || e.phase = .awaitingFallback) &&
        (sender == e.target || e.fallback == some sender || h.requester == s.self) then
      s.updateFetch e { e with phase := .receiving, deadline := some (s.now + Config.bodyTime) }
    else s
  | none => s

/-- The context a segment 0 opens; one with the end mark opens nothing (R130). -/
def openContext (b : Segment) (h : BodyHeader) : Option Context :=
  if b.endMark then none
  else some
    { key := b.key, line := b.line, count := b.count, next := 1, grade := h.grade.toNat, source := h.source
      width := h.width, requester := h.requester, pixels := unpackGrays b.pixels, waitingSlot := none }

/-- What a segment numbered 1 or more makes of its sender's context: the body goes on, is complete, or is abandoned (R131). -/
inductive Assembly where
  | goesOn (c : Context)
  | complete (c : Context)
  | abandoned
deriving DecidableEq, Repr

/-- Add a segment to a context in RECEIVING (R131). -/
def addSegment (c : Context) (b : Segment) : Assembly :=
  if c.key = b.key && c.line = b.line && c.count = b.count && c.next = b.number then
    let c' := { c with pixels := c.pixels ++ unpackGrays b.pixels, next := c.next + 1 }
    if b.number + 1 = b.count then (if b.endMark then .complete c' else .abandoned)
    else if b.endMark then .abandoned
    else .goesOn c'
  else .abandoned

/-- Nothing waits that the LINE TABLE would take before or beside a body that arrives (R31). -/
def State.nothingWaits (s : State) : Bool :=
  s.lineTable.store.isNone && s.reception.buffers.isEmpty && s.nextBody.isNone

/-- A body for a slot's line is complete (R132, steps 2 to 4). -/
def State.bodyComplete (s : State) (sender : Station) (c : Context) (slot : Nat) : State :=
  let s := s.retireWhere (fun e => e.isFor c.key c.line) false
  let s := s.cancelTimers (fun t => t.isFor c.key c.line)
  let s := s.modifyRow slot c.line (fun r =>
    let r := { r with deferral := none }
    if r.lists sender then r.regrade sender c.grade else r)
  if s.writePlaceFree && s.nothingWaits then s.takeBody sender.val c slot
  else s.setContext sender.val (some { c with waitingSlot := some slot })

end Sys2Proof.Machine
end

