-- ==== Sys2Proof/Machine/Align.lean ====
section
/-!
DEFINITION. The ALIGNMENT UNIT (chapter 6): taking up a chart, holding own lines, references, the decision, accepting,
asking for a split, abandoning.
-/
namespace Sys2Proof.Machine

/-! ## Taking up a chart (R98) -/

/-- The unit takes up the record of a slot that became ALIGNING with expected offset `e`; a migration of another chart
ends, its lines dropped (R98). Fetches for the slot are retired with no attempt counted (R119). -/
def State.takeUp (s : State) (slot : Nat) (k : Key) (e : Nat) : State :=
  let s := s.retireWhere (fun x => x.slot = slot) false
  let dropped := s.alignment.migration.map (fun p => p.1.entry)
  let s := { s with alignment :=
    { state := .collecting, slot := some slot, key := some k, expected := e, handed := 0, provisional := []
      references := [], migration := [] } }
  s.freePools dropped

/-! ## The trial offsets (R103) -/

/-- The five trial offsets (R103). -/
def trialOffsets (e : Nat) : List Int := [(e : Int) - 2, (e : Int) - 1, e, (e : Int) + 1, (e : Int) + 2]

/-- The best reference of a chart line: the highest grade, then the lowest station (R103). -/
def bestReference (refs : List Reference) (line : Nat) : Option Reference :=
  firstGreatest (fun r => r.grade * 8 + (7 - r.station.val)) (refs.filter (fun r => r.line = line))

/-- A chart line, where it lies in 0 to 2047. -/
def chartLine (n : Int) : Option Nat := if 0 ≤ n ∧ n ≤ 2047 then some n.toNat else none

/-- The distances of the lines of P_d to their best references (R103). -/
def trialDistances (threshold : Nat) (held : List HeldLine) (refs : List Reference) (d : Int) : List Nat :=
  held.filterMap (fun h =>
    if threshold ≤ h.grade then
      (chartLine ((h.ownIndex : Int) + d)).bind (fun n =>
        (bestReference refs n).map (fun r => hamming h.fingerprint r.fingerprint))
    else none)

/-- A trial offset with its n_d and S_d (R103). -/
structure Trial where
  offset : Int
  count : Nat
  sum : Nat
deriving DecidableEq, Repr

def trialOf (threshold : Nat) (held : List HeldLine) (refs : List Reference) (d : Int) : Trial :=
  let l := trialDistances threshold held refs d
  { offset := d, count := l.length, sum := l.sum }

/-- The five trials as the list and the table stand (R103). -/
def State.trials (s : State) : List Trial :=
  (trialOffsets s.alignment.expected).map (trialOf s.alignThreshold s.alignment.provisional s.alignment.references)

/-- A trial offset is eligible: n_d is 6 or more (R103). -/
def Trial.eligible (t : Trial) : Bool := 6 ≤ t.count

/-- One eligible offset wins against another: the smaller mean, then the nearer to e, then the smaller (R104). -/
def Trial.beats (e : Nat) (a b : Trial) : Bool :=
  let da := (a.offset - e).natAbs
  let db := (b.offset - e).natAbs
  decide (a.sum * b.count < b.sum * a.count) ||
    (a.sum * b.count == b.sum * a.count && (decide (da < db) || (da == db && decide (a.offset < b.offset))))

/-- The best of some trials (R104). -/
def bestTrial (e : Nat) : List Trial → Option Trial
  | [] => none
  | t :: rest =>
    match bestTrial e rest with
    | none => some t
    | some u => if u.beats e t then some u else some t

/-! ## Accepting (R105) and asking for a split (R107) -/

/-- Accept the offset d: the record becomes OPEN with it, CHART_ALIGNED is posted, and the held lines whose target lies in
0 to 2047 form the migration list (R90, R105). -/
def State.acceptOffset (s : State) (slot : Nat) (d : Int) : State :=
  let s := s.modifyRecord slot (fun r => { r with state := .opened, offset := some d, expected := none })
  let s := s.post .chartAligned slot
  let held := s.alignment.provisional
  let target (h : HeldLine) : Option Nat := chartLine ((h.ownIndex : Int) + d)
  let s := { s with alignment :=
    { s.alignment with
      state := .migrating, provisional := [], references := []
      migration := held.filterMap (fun h => (target h).map (fun n => (h, n))) } }
  (s.freePools ((held.filter (fun h => (target h).isNone)).map HeldLine.entry)).settleMigration

/-- Ask for a split clear and wait for it (R107). -/
def State.askSplit (s : State) (slot : Nat) : State :=
  { s with
    alignment := { s.alignment with state := .splitWait }
    lineTable := { s.lineTable with requests := s.lineTable.requests ++ [.splitClear slot] } }

/-- The decision (R104): the best eligible offset is accepted when its mean distance is at most 3, else the chart is split. -/
def State.alignDecision (s : State) (slot : Nat) : State :=
  match bestTrial s.alignment.expected (s.trials.filter Trial.eligible) with
  | some t => if t.sum ≤ 3 * t.count then s.acceptOffset slot t.offset else s.askSplit slot
  | none => s.askSplit slot

/-- Evaluate the trial offsets in COLLECTING: the decision comes when all are eligible or 64 lines were handed (R103). -/
def State.evaluate (s : State) : State :=
  match s.alignment.state, s.alignment.slot with
  | .collecting, some slot =>
    if s.trials.all Trial.eligible || 64 ≤ s.alignment.handed then s.alignDecision slot else s
  | _, _ => s

/-! ## References (R101) -/

/-- A reference replaces the one for the same line and sender (R101). -/
def setReference (refs : List Reference) (r : Reference) : List Reference :=
  refs.filter (fun x => !(x.line = r.line && x.station = r.station)) ++ [r]

/-- A chart line lies in the window e − 2 to e + 65, within 0 to 2047 (section 6.1). -/
def inWindow (e n : Nat) : Bool := e ≤ n + 2 && n ≤ e + 65 && n ≤ 2047

/-- The references after a TALLY's entries for the lines from `n` up (R101). -/
def tallyReferences (e threshold : Nat) (sender : Station) : Nat → List TallyEntry → List Reference → List Reference
  | _, [], refs => refs
  | n, t :: rest, refs =>
    let refs := if inWindow e n && decide (threshold ≤ t.grade.toNat) then
        setReference refs { line := n, station := sender, grade := t.grade.toNat, fingerprint := t.fingerprint }
      else refs
    tallyReferences e threshold sender (n + 1) rest refs

/-- A TALLY adds or replaces at least one reference (R101). -/
def tallyRelevant (e threshold : Nat) : Nat → List TallyEntry → Bool
  | _, [] => false
  | n, t :: rest => (inWindow e n && decide (threshold ≤ t.grade.toNat)) || tallyRelevant e threshold (n + 1) rest

/-- The unit takes a TALLY for the served key in COLLECTING, and evaluates when it is relevant (R101, R103). -/
def State.alignTally (s : State) (sender : Station) (t : Tally) : State :=
  if s.alignment.state = .collecting && s.alignment.key == some t.key then
    let e := s.alignment.expected
    let refs := tallyReferences e s.alignThreshold sender t.first t.entries s.alignment.references
    let s := { s with alignment := { s.alignment with references := refs } }
    if tallyRelevant e s.alignThreshold t.first t.entries then s.evaluate else s
  else s

/-! ## Holding own lines (R99, R100) -/

/-- The store in the waiting place is dropped: its pool entry is freed and its line leaves the provisional list (R30, R100). -/
def State.dropStore (s : State) (st : ProvisionalStore) : State :=
  let s := { s with
    lineTable := { s.lineTable with store := none }
    alignment := { s.alignment with provisional := s.alignment.provisional.filter (fun (h : HeldLine) => h.entry != st.entry) } }
  s.freePool st.entry

/-- Hand the LINE TABLE a provisional store: queued, or in the waiting place, where a store that waits is dropped (R30). -/
def State.handStore (s : State) (st : ProvisionalStore) : State :=
  if s.writePlaceFree && s.lineTable.store.isNone then s.queueStore st
  else
    let s := match s.lineTable.store with
      | some old => s.dropStore old
      | none => s
    { s with lineTable := { s.lineTable with store := some st } }

/-- Hold a line: a PROVISIONAL entry where one is granted, the line on the provisional list, its store handed over; refused
when the pool is full or holds 64 PROVISIONAL entries (R99, R140). -/
def State.holdLine (s : State) (slot ownIndex grade : Nat) (fp : Fingerprint) (p : Pixels) : State :=
  match s.freePoolEntry with
  | some n =>
    if s.provisionalCount < Config.provisionalEntries then
      let s := s.putPool n (PoolEntry.newProvisional slot ownIndex)
      let s := { s with alignment := { s.alignment with provisional := s.alignment.provisional ++
        [({ ownIndex := ownIndex, grade := grade, fingerprint := fp, entry := n } : HeldLine)] } }
      s.handStore { slot := slot, entry := n, grade := grade, pixels := p }
    else s
  | none => s

/-- An own line is sent to alignment (R99): counted and held in COLLECTING, and in SPLIT WAIT up to 64 lines; evaluated in
COLLECTING. -/
def State.alignLine (s : State) (slot ownIndex grade : Nat) (fp : Fingerprint) (p : Pixels) : State :=
  if s.alignment.state = .collecting || (s.alignment.state = .splitWait && s.alignment.handed < 64) then
    let s := { s with alignment := { s.alignment with handed := s.alignment.handed + 1 } }
    (s.holdLine slot ownIndex grade fp p).evaluate
  else s

/-! ## Abandoning (R109) -/

/-- The chart whose reception ended while it was ALIGNING is abandoned: a waiting split clear is withdrawn, the held lines
are freed, the record is OPEN with no offset, ALIGN_ABANDONED is posted (R90, R109). The count of lines handed and the unit's
copy of the expected offset, of which R109 says nothing, become 0 (DESIGN CHOICE, log entry 43). -/
def State.abandon (s : State) (slot : Nat) : State :=
  let held := s.alignment.provisional.map HeldLine.entry
  let s := { s with
    lineTable := { s.lineTable with requests := s.lineTable.requests.filter (fun q => q != QuietRequest.splitClear slot) }
    alignment := Alignment.reset }
  let s := (s.freeAndCancel held).modifyRecord slot (fun r =>
    { r with state := .opened, offset := none, expected := none })
  (s.post .alignAbandoned slot).startNext

end Sys2Proof.Machine
end

