-- ==== Sys2Proof/Machine/Directory.lean ====
section
/-!
DEFINITION. The CHART DIRECTORY over the whole part (chapter 5): release, creation, a reception's request, the re-key, the
end report, heard OPEN, CLOSE and TALLY frames, a lost peer, and the split.
-/
namespace Sys2Proof.Machine

/-! ## Release (R40, R95, R106, R135, R142, R152, R174) -/

/-- The LINE TABLE's part of a release: the waiting read is made, its LINES response before any other response the release forms
(DESIGN CHOICE, log entry 38), every write to the slot is cancelled, waiting own lines, bodies and requests for the slot go
(R40). The slot's entries go with the slot itself. -/
def State.releaseLines (s : State) (slot : Nat) : State :=
  let s := if s.port.read.any (fun r => r.slot = slot) then s.makeRead else s
  let s := { s with
    lineTable := { s.lineTable with
      requests := s.lineTable.requests.filter (fun q => q != QuietRequest.splitClear slot && q != QuietRequest.freeze slot) }
    reception := { s.reception with buffers := s.reception.buffers.filter (fun b => b.slot != slot) } }
  s.cancelWrites (fun w => w.slot = slot)

/-- The FETCH UNIT's part of a release (R135). -/
def State.releaseFetch (s : State) (slot : Nat) (k : Key) : State :=
  let s := s.retireWhere (fun e => e.slot = slot) false
  let s := s.cancelTimers (fun t => t.key == k)
  let s := s.withdrawBodies slot
  let s := if s.fetch.batch.any (fun b => b.slot = slot) then s.setBatch none else s
  { s with fetch := { s.fetch with contexts := s.fetch.contexts.filter (fun p => p.2.waitingSlot != some slot) } }

/-- The ALIGNMENT UNIT's part of a release: a migration into the slot ends (R106). The count of lines handed and the unit's copy
of the expected offset, of which R106 says nothing, become 0 (DESIGN CHOICE, log entry 43). -/
def State.releaseAlignment (s : State) (slot : Nat) : State :=
  if s.alignment.slot = some slot then { s with alignment := Alignment.reset } else s

/-- The pool entries of a slot are freed (R40, R152), and a store that waits for one of them goes. -/
def State.releasePool (s : State) (slot : Nat) : State :=
  let s := { s with pool := s.pool.filter (fun p => p.2.slot != slot) }
  if s.lineTable.store.any (fun st => st.slot = slot) then { s with lineTable := { s.lineTable with store := none } } else s

/-- The record leaves with its entries and rows, and the close orders above its own fall by 1 (R95). -/
def State.removeSlot (s : State) (slot order : Nat) : State :=
  { s with slots := (Sparse.erase s.slots slot).map (fun p =>
      (p.1, { p.2 with record := { p.2.record with
        closeOrder := p.2.record.closeOrder.map (fun o => if order < o then o - 1 else o) } })) }

/-- A slot is released, by discard or eviction, at one instant (R40, R95). A freeze that waits for it is answered as
refused with BAD_SLOT (R142, R181), behind the LINES response of a READ_LINES that waits for the slot (R40) and before the
DISCARD that releases the slot is answered (both orders DESIGN CHOICE, log entry 38). -/
def State.releaseSlot (s : State) (slot : Nat) : State :=
  match s.record? slot with
  | none => s
  | some r =>
    let frozen := decide (slot ∈ s.waitingFreezes)
    let s := s.releaseLines slot
    let s := (s.releaseFetch slot r.key).releaseAlignment slot
    let s := (s.releasePool slot).removeSlot slot (r.closeOrder.getD 0)
    let s := s.removeSlotEvents slot
    (if frozen then s.respond (.ack 3 .badSlot 0) else s).startNext

/-! ## Creation (R77, R78) -/

/-- The CLOSED record with hold NONE of the lowest close order (R78). -/
def State.evictable (s : State) : Option Nat :=
  (firstLeast (fun p => p.2.record.closeOrder.getD 0)
    (s.slots.filter (fun p => p.2.record.state = .closed && p.2.record.hold = .none))).map Prod.fst

/-- A slot for a new record: the lowest free one, or one that an eviction frees; none when there is neither (R77, R78). -/
def State.allocate (s : State) : Option (Nat × State) :=
  let n := Sparse.lowestFree s.slots 0
  if n < s.slotCount then some (n, s)
  else s.evictable.map (fun c => (c, s.releaseSlot c))

/-- A record as R77 leaves it, its other fields at no value of their own yet. -/
def State.newRecord (s : State) (k : Key) : ChartRecord :=
  { key := k, state := .opened, hold := .none, bound := false, offset := none, expected := none, late := false
    rate := s.config.settings.rate, contributors := [], highest := none, lastOwn := none, ownLinesHanded := false
    ownOpen := .none, lastOpenHeard := none, lastTally := none, quietDeadline := some (s.now + s.quietTime)
    quietFlag := false, lastCloseReason := none, closeReason := none, closeOrder := none }

/-- Create a record with no entry filled and no row held, and post CHART_OPENED; with no slot to be had nothing is created
and DIRECTORY_FULL is posted (R77, R78). Answers the slot. -/
def State.create (s : State) (r : ChartRecord) : Option Nat × State :=
  match s.allocate with
  | some (c, s) => (some c, ({ s with slots := Sparse.put s.slots c { record := r, entries := [], rows := [] } }).post .chartOpened c)
  | none => (none, s.post .directoryFull 0)

/-! ## A reception asks for a chart (R80, R81) -/

/-- The key of the next chart this station originates, with a CLOSED record of that key evicted and the origin sequence
advanced (R79). -/
def State.originKey (s : State) : Key × State :=
  let (q, old) := s.usableSequence 256 s.originSequence
  let s := match old with
    | some c => s.releaseSlot c
    | none => s
  ({ origin := s.self, sequence := q }, { s with originSequence := q + 1 })

/-- Originate a chart: a record bound, OPEN with d 0, and its OPEN queued; with no slot the reception is unbound (R80, R81). -/
def State.originate (s : State) (late : Bool) : Option Nat × State :=
  let (k, s) := s.originKey
  let r := { s.newRecord k with
    offset := some 0, bound := true, late := late, contributors := [{ station := s.self, ended := none }] }
  match s.create r with
  | (some c, s) => (some c, s.queueOwnOpen c false)
  | (none, s) => (none, s)

/-- A record may be adopted (section 5.2). -/
def State.adoptable (s : State) (r : ChartRecord) : Bool :=
  r.state = .opened && !r.bound && !isEnded s.self r.contributors &&
    r.lastOpenHeard.any (fun t => decide (s.now ≤ t + Config.adoptionWindow))

/-- The adoptable record whose last OPEN heard is latest (R80). -/
def State.bestAdoptable (s : State) : Option Nat :=
  (firstGreatest (fun p => p.2.record.lastOpenHeard.getD 0) (s.slots.filter (fun p => s.adoptable p.2.record))).map Prod.fst

/-- The record becomes bound and ALIGNING with expected offset `e`; self joins its contributors, and the ALIGNMENT UNIT
takes it up (R80, R81, R98). -/
def State.bind (s : State) (c : Nat) (e : Nat) (late : Bool) : State :=
  match s.record? c with
  | some r =>
    (s.modifyRecord c (fun r => { r with
      state := .aligning, bound := true, expected := some e, offset := none, ownLinesHanded := false
      late := r.late || late, contributors := contributorActive s.self r.contributors })).takeUp c r.key e
  | none => s

/-- A started reception's request: adopt, or originate (R80). Answers the slot bound. -/
def State.requestStarted (s : State) : Option Nat × State :=
  match s.bestAdoptable with
  | some c => (some c, s.bind c 0 false)
  | none => s.originate false

/-- A record may be bound to a late reception whose own line 0 starts at sample `start` (R81). -/
def State.joinable (s : State) (start : Nat) (r : ChartRecord) : Bool :=
  r.state = .opened && !r.bound && !isEnded s.self r.contributors &&
    r.lastTally.any (fun t => decide (start < t.sample + 4 * s.samples))

/-- The joinable record whose last TALLY arrived latest (R81). -/
def State.bestJoinable (s : State) (start : Nat) : Option (Nat × LastTally) :=
  (firstGreatest (fun p => (p.2.record.lastTally.map LastTally.time).getD 0)
    (s.slots.filter (fun p => s.joinable start p.2.record))).bind (fun p => p.2.record.lastTally.map (fun t => (p.1, t)))

/-- The expected offset e = L + a + 1 + k (R13, R81). -/
def State.lateOffset (s : State) (start : Nat) (t : LastTally) : Nat :=
  t.lastLine + t.age + 1 + (start - t.sample) / s.samples

/-- A late reception's request: bind, or originate with the late flag set (R81). Answers the slot bound. -/
def State.requestLate (s : State) (start : Nat) : Option Nat × State :=
  match s.bestJoinable start with
  | some (c, t) => (some c, s.bind c (s.lateOffset start t) true)
  | none => s.originate true

/-! ## The end report (R91) -/

/-- The directory takes the report that the reception on a slot ended (R91). -/
def State.endReport (s : State) (c : Nat) (reason : CloseReason) : State :=
  match s.record? c with
  | none => s
  | some r =>
    let s := s.modifyRecord c (fun r => { r with
      bound := false, contributors := contributorEnds s.self .close r.contributors, lastCloseReason := some reason })
    let s := s.queueOpenClose (.chartClose { key := r.key, reason := reason, lastLine := r.lastOwn })
    let s := if r.state = .aligning then s.abandon c else s
    let s := if s.fetch.batch.any (fun b => b.slot = c) then s.queueBatch else s
    s.closingTest c

/-! ## Heard OPEN (R83 to R85) -/

/-- The bound record that a heard OPEN for an unknown key re-keys (R83). -/
def State.rekeyable (s : State) : Option (Nat × ChartRecord) :=
  match s.reception.binding with
  | some c =>
    match s.record? c with
    | some r =>
      if r.bound && r.state = .opened && r.ownOpen = .queued && !r.late && !r.ownLinesHanded then some (c, r) else none
    | none => none
  | none => none

/-- The bodies that wait for a slot in their contexts go with its record through a re-key (R32; log entry 36). -/
def State.rekeyBodies (s : State) (slot : Nat) (k : Key) : State :=
  { s with fetch := { s.fetch with contexts := s.fetch.contexts.map (fun (p : Nat × Context) =>
      if p.2.waitingSlot = some slot then (p.1, { p.2 with key := k }) else p) } }

/-- Re-key the bound record to a heard key (R83). -/
def State.rekey (s : State) (c : Nat) (r : ChartRecord) (o : ChartOpen) (sender : Station) : State :=
  let s := { s with link := s.link.withdrawOpen r.key }
  let s := s.modifyRecord c (fun r => { r with
    key := o.key, state := .aligning, expected := some 0, offset := none, late := o.late
    contributors := [{ station := s.self, ended := none }, { station := sender, ended := none }]
    lastOpenHeard := some s.now, ownOpen := .none
    highest := if o.reannounce then some o.highest else r.highest })
  (s.rekeyBodies c o.key).takeUp c o.key 0

/-- A heard OPEN whose key is unknown: a re-key, or a new record (R83, R84). -/
def State.openUnknown (s : State) (sender : Station) (o : ChartOpen) : State :=
  match s.rekeyable with
  | some (c, r) => s.rekey c r o sender
  | none =>
    (s.create { s.newRecord o.key with
      late := o.late, contributors := [{ station := sender, ended := none }]
      highest := if o.reannounce then some o.highest else none, lastOpenHeard := some s.now }).2

/-- An OPEN heard from a peer (R84, R85). -/
def State.openHeard (s : State) (sender : Station) (o : ChartOpen) : State :=
  if o.rate != s.config.settings.rate then s
  else
    match s.slotOfKey o.key with
    | none => s.openUnknown sender o
    | some c =>
      let joined (r : ChartRecord) : ChartRecord :=
        ({ r with contributors := contributorActive sender r.contributors }).raiseTo
          (if o.reannounce then some o.highest else none)
      match s.record? c with
      | some r =>
        if r.state != .closed then s.modifyRecord c (fun r => { joined r with lastOpenHeard := some s.now })
        else if o.reannounce then s.modifyRecord c joined
        else if r.hold = .none then (s.releaseSlot c).openUnknown sender o
        else s
      | none => s

/-! ## Heard CLOSE (R86) and TALLY (R87) -/

/-- A CLOSE heard from a peer (R86). -/
def State.closeHeard (s : State) (sender : Station) (f : ChartClose) : State :=
  match s.slotOfKey f.key with
  | none => s
  | some c =>
    match s.record? c with
    | none => s
    | some r =>
      let s := s.modifyRecord c (fun r => r.raiseTo f.lastLine)
      if isActive sender r.contributors then
        (s.modifyRecord c (fun r => { r with
          contributors := contributorEnds sender .close r.contributors, lastCloseReason := some f.reason })).closingTest c
      else s

/-- The directory's part of a TALLY heard from a peer (R87). -/
def State.tallyHeard (s : State) (sender : Station) (t : Tally) : State :=
  match s.slotOfKey t.key with
  | none => s
  | some c =>
    let last := t.first + t.entries.length - 1
    s.modifyRecord c (fun r =>
      (({ r with
        contributors := contributorTallied sender r.contributors
        lastTally := some { time := s.now, sample := s.reception.sampleCount, lastLine := last, age := t.age.val } }).raise
          last).restartQuiet (s.now + s.quietTime))

/-! ## A lost peer (R68, R86) -/

/-- The closing test of some slots, one after the other. -/
def State.closingTests (s : State) : List Nat → State
  | [] => s
  | c :: t => (s.closingTest c).closingTests t

/-- A peer-lost notice: the peer is ENDED by LOSS in every record that lists it ACTIVE, and the closing test is applied to
each of those, in ascending slot order (R86). -/
def State.peerLost (s : State) (peer : Station) : State :=
  let concerned := (s.slots.filter (fun p => isActive peer p.2.record.contributors)).map Prod.fst
  let s := { s with slots := s.slots.map (fun (p : Nat × Slot) =>
    (p.1, { p.2 with record := { p.2.record with contributors := contributorEnds peer .loss p.2.record.contributors } })) }
  s.closingTests concerned

/-! ## The split (R38, R90, R108, R151) -/

/-- An entry that a split clear empties: its origin kind is PEER, torn or filled (R38). -/
def LineEntry.splitCleared (e : LineEntry) : LineEntry :=
  if e.origin = some .peer then { e with committed := 0, source := none, origin := none } else e

/-- A queued write that a split clear of a slot cancels (R38). -/
def State.splitCancels (s : State) (slot : Nat) (w : Write) : Bool :=
  w.intoComposite slot &&
    ((w.kind = .composite && w.origin = some .peer) || (s.entry slot w.target).origin = some .peer)

/-- A MERGE write is cancelled: its shadow entry counts as unmerged again (R38, R39). -/
def State.unmerge (s : State) : List Nat → State
  | [] => s
  | n :: t => (s.modifyPool n (fun e => { e with merging := false })).unmerge t

/-- The LINE TABLE's part of a split clear (R38). A cancelled migrating line frees its pool entry. -/
def State.clearPeerLines (s : State) (slot : Nat) : State :=
  let gone := s.lineTable.queue.filter (s.splitCancels slot)
  let merges := (gone.filter (fun w => w.kind = .merge)).filterMap Write.frees
  let lines := (gone.filter (fun w => w.kind != .merge)).filterMap Write.frees
  let s := { s with lineTable := { s.lineTable with queue := s.lineTable.queue.filter (fun w => !s.splitCancels slot w) } }
  let s := s.modifySlot slot (fun sl => { sl with entries := sl.entries.map (fun (p : Nat × LineEntry) => (p.1, p.2.splitCleared)) })
  ((s.settlePendingGrades slot).unmerge merges).freePools lines

/-- The origin kind a SHADOW entry counts by: the written one, or that of its queued write (R151). R151 speaks of an only write;
with several queued to an entry not yet written the newest counts (DESIGN CHOICE, log entry 35). -/
def State.shadowOrigin (s : State) (n : Nat) (e : PoolEntry) : Option Origin :=
  match e.origin with
  | some o => some o
  | none => (s.newestWrite (fun w => w.intoPool n)).bind Write.origin

/-- The HOLD UNIT's part of a split: the slot's UNMERGED SHADOW entries of origin kind PEER are freed and the POOL writes to
them cancelled (R151). -/
def State.clearPeerShadows (s : State) (slot : Nat) : State :=
  let freed := (s.pool.filter (fun p => p.2.kind = .shadow && p.2.slot = slot && !p.2.merging &&
    s.shadowOrigin p.1 p.2 = some .peer)).map Prod.fst
  (s.freeAndCancel freed).thawEnd slot

/-- The highest chart line of a slot whose entry is not empty (R90). -/
def Slot.highestFilled (sl : Slot) : Option Nat :=
  (firstGreatest (fun p => p.1) (sl.entries.filter (fun p => p.2.committed != 0))).map Prod.fst

/-- The directory's part of a split: the record's new key, CLOSE for the old one, OPEN for the new one, CHART_OPENED (R90). -/
def State.splitRecord (s : State) (slot : Nat) (old : Key) : State :=
  let (k, s) := s.originKey
  let s := s.modifySlot slot (fun sl => { sl with record := { sl.record with
    key := k, state := .opened, offset := some 0, expected := none
    contributors := [{ station := s.self, ended := none }]
    lastOpenHeard := none, lastTally := none, lastCloseReason := none
    highest := sl.highestFilled, ownLinesHanded := true } })
  let s := s.queueOpenClose (.chartClose { key := old, reason := .splitAway, lastLine := none })
  (s.queueOwnOpen slot true).post .chartOpened slot

/-- The split of a slot is carried out, at one instant and in this order (R108). A read that waited only for writes the split
clear cancels is made at their cancellation, before the steps that follow (R33, R38; log entry 2). -/
def State.carryOutSplit (s : State) (slot : Nat) : State :=
  match s.record? slot with
  | none => s
  | some r =>
    let s := { s with lineTable := { s.lineTable with
      requests := s.lineTable.requests.filter (fun q => q != QuietRequest.splitClear slot) } }
    let s := (s.clearPeerLines slot).makeDueReads
    let s := (s.modifySlot slot (fun sl => { sl with rows := [] })).cancelTimers (fun t => t.key == r.key)
    let s := (s.clearPeerShadows slot).splitRecord slot r.key
    let s := s.post .alignSplit slot
    let s := { s with alignment :=
      { s.alignment with
        state := .migrating, provisional := [], references := []
        migration := s.alignment.provisional.map (fun h => (h, h.ownIndex)) } }
    s.settleMigration.startNext

/-! ## The freeze carried out (R39, R143, R150) -/

/-- A write keeps its place in the queue that a freeze goes through (R39). -/
def State.keepWrite (s : State) (w : Write) : State :=
  { s with lineTable := { s.lineTable with queue := s.lineTable.queue ++ [w] } }

/-- One write of the queue at a freeze of a slot, behind those already gone through: a write that is no composite or MERGE
write of the slot stays; a MERGE write is cancelled, its entry UNMERGED again; another is judged against the committed grade
and the shadow reference, and either becomes a POOL write in its place or is cancelled, which frees the PROVISIONAL entry of
a migrating line at once (R35, R39, R143 to R145). -/
def State.redirectWrite (s : State) (slot : Nat) (w : Write) : State :=
  if !w.intoComposite slot then s.keepWrite w
  else if w.kind = .merge then s.unmerge w.frees.toList
  else
    let shadow := (s.shadow? slot w.target).map (fun p => p.2.reference)
    if replaces s.config.settings.margin w.grade (referenceGrade (s.entry slot w.target) shadow) then
      match s.assignShadow slot w.target with
      | some (n, s) =>
        (s.modifyPool n (fun e => { e with pending := some w.grade })).keepWrite { w with kind := .pool, target := n }
      | none => (s.post .shadowFull slot).freeNamed w.frees
    else s.freeNamed w.frees

/-- The reads that wait for no write any more are made, where the writes `rest` still stand behind those in the queue (R33). -/
def State.makeReadsAmong (s : State) (rest : List Write) : State :=
  let t := ({ s with lineTable := { s.lineTable with queue := s.lineTable.queue ++ rest } }).makeDueReads
  { t with lineTable := s.lineTable }

/-- Some writes are gone through, in queue order; a read that waited only for writes cancelled so far is made before the next
one is judged (R33, R39, R143; log entry 2). -/
def State.redirectWrites (s : State) (slot : Nat) : List Write → State
  | [] => s
  | w :: t => ((s.redirectWrite slot w).makeReadsAmong t).redirectWrites slot t

/-- Every pending grade of a slot's composite becomes absent, as after a freeze or a warm reset, which leave none of its writes
queued (R39, R41). -/
def Slot.dropPending (sl : Slot) : Slot :=
  { sl with
    entries := (sl.entries.map (fun (p : Nat × LineEntry) => (p.1, { p.2 with pending := none }))).filter
      (fun p => p.2 != LineEntry.empty) }

/-- The freeze of a slot is carried out, at one instant and in this order (R143). -/
def State.carryOutFreeze (s : State) (slot : Nat) : State :=
  let queue := s.lineTable.queue
  let s := { s with lineTable := { s.lineTable with
    requests := s.lineTable.requests.filter (fun q => q != QuietRequest.freeze slot), queue := [] } }
  let s := (s.modifySlot slot Slot.dropPending).redirectWrites slot queue
  ((s.setHold slot .frozen).respond (.ack 3 .ok 0)).startNext

/-! ## Requests and reads that are due (R33, R37) -/

/-- Carry out one request, where it still waits and its slot is quiet (R37). -/
def State.carryOut (s : State) (q : QuietRequest) : State :=
  if q ∈ s.lineTable.requests then
    match q with
    | .splitClear c => if s.quiet c then s.carryOutSplit c else s
    | .freeze c => if s.quiet c then s.carryOutFreeze c else s
  else s

/-- Carry out some requests, in the order they were asked; a read that one of them makes due by cancelling writes is made before
anything after it changes the table (R33, R37). -/
def State.carryOutAll (s : State) : List QuietRequest → State
  | [] => s
  | q :: t => ((s.carryOut q).makeDueReads).carryOutAll t

/-- Carry out every waiting request whose slot is quiet (R37). -/
def State.carryOutDue (s : State) : State := s.carryOutAll s.lineTable.requests

/-- What the LINE TABLE owes is done before it changes again: the reads that wait for no write any more are made, and the
requests whose slot is quiet are carried out, with the reads that their cancellations make due (R33, R37; log entry 2). -/
def State.takeDueSteps (s : State) : State := s.makeDueReads.carryOutDue

/-- A migrating or merge line that arrives is taken at arrival, where a write place is free and nothing waited before it
(`waited`); what the LINE TABLE owes comes first. The lines behind it wait (R31; log entry 41). -/
def State.takeArrival (s : State) (waited : Bool) : State :=
  if !waited && s.writePlaceFree && s.candidateWaits then s.takeDueSteps.takeNext else s

/-- The first request that waits for a slot (R37). -/
def State.firstRequest (s : State) (slot : Nat) : Option QuietRequest :=
  s.lineTable.requests.find? (fun q => match q with
    | .splitClear c => c = slot
    | .freeze c => c = slot)

end Sys2Proof.Machine
end

