-- ==== Sys2Proof/Machine/LinkSteps.lean ====
section
/-!
DEFINITION. The commands of the STATION LINK's transmitter and receive checker (chapter 3) and the conflict of section 4.7.

The time that a frame still takes on the line passes at the command that ends it (log entries 10 and 32).
-/
namespace Sys2Proof.Machine

/-- The line is idle as the receive checker sees it: 12 recessive bit times have passed (R46). -/
def Link.idle (l : Link) : Bool := l.framing = .idleCount && decide (12 ≤ l.recessive)

/-- An attempt is in progress and its head frame stands in its queue. -/
def Link.attempting (l : Link) : Bool :=
  (l.transmitter = .arbitrating || l.transmitter = .sending) && l.current.isSome

/-- The frame in flight as it goes on the line. -/
def State.frameInFlight (s : State) : Option Frame :=
  s.link.current.map (fun f => { sender := s.self, payload := f.payload })

/-- The bytes of a frame on the line (R46). -/
def Payload.frameBytes (p : Payload) : Nat := p.bytes.length + 4

/-! ## Starting and losing an attempt (R49, R50) -/

/-- The arbiter chooses the oldest frame of the lowest waiting class and the transmitter drives the start bit; with nothing
waiting it returns to FREE (R49, R61). The receive checker follows the frame this station sends too (R47). -/
def Link.start (l : Link) (now : Nat) : Link :=
  match l.lowestClass with
  | some c =>
    { l with transmitter := .arbitrating, attempt := some c, framing := .inFrame, recessive := 0, frameStart := now }
  | none => { l with transmitter := .free }

/-- The frame in flight after an attempt that ends unsent without a fault: one withdrawn leaves, the others stay (R50, R60). -/
def Link.keepOrWithdraw (l : Link) (c : FrameClass) (f : QueuedFrame) : Link :=
  l.replaceHead c (if f.withdrawn then [] else [f])

/-- An attempt ends by lost arbitration (R50). -/
def Link.lose (l : Link) : Link :=
  match l.attempt, l.current with
  | some c, some f => (l.keepOrWithdraw c f).endAttempt
  | _, _ => l

/-- The station time at which bit `bit` of byte 0 has been sent: the start bit comes before the 8 data bits (R46). -/
def State.bitEnd (s : State) (bit : Fin 8) : Nat := s.link.frameStart + (9 - bit.val)

/-- The bit of byte 0 that the attempt sends is recessive (R46, R50). -/
def State.sendsRecessive (s : State) (bit : Fin 8) : Bool :=
  s.frameInFlight.any (fun f => (byteZero f).getLsbD bit.val)

/-! ## Notices on a frame (R54) -/

/-- The joining flag of the HAIL in the place is cleared (R72). -/
def Link.clearJoining (l : Link) : Link :=
  { l with hail := l.hail.map (fun f =>
      match f.payload with
      | .hail h => { f with payload := .hail { h with joining := false } }
      | _ => f) }

/-- The FETCH UNIT's entry for an ASK that was sent becomes AWAITING_FIRST (R120). -/
def State.askSent (s : State) (a : Ask) : State :=
  match s.fetchFor a.key a.line with
  | some e =>
    if e.phase = .askQueued then
      s.updateFetch e { e with phase := .awaitingFirst, deadline := some (s.now + Config.responseWindow) }
    else s
  | none => s

/-- The notice that a frame was sent, to the block that queued it (R54, R59, R72, R82, R120). -/
def State.sentNotice (s : State) (f : QueuedFrame) : State :=
  match f.payload with
  | .chartOpen o => if o.reannounce then s else s.ownOpenNotice o.key
  | .chartClose _ | .decline _ | .tally _ => s
  | .ask a => if f.withdrawn then s else s.askSent a
  | .body b => if b.endMark && !f.withdrawn then s.dropBody 0 else s
  | .hail h =>
    if h.joining then
      { s with roster := { s.roster with joiningPending := false }, link := s.link.clearJoining }
    else s

/-- The notice that a frame was dropped after its third collision fault (R54, R59, R82, R120). -/
def State.droppedNotice (s : State) (f : QueuedFrame) : State :=
  match f.payload with
  | .chartOpen o => if o.reannounce then s else s.ownOpenNotice o.key
  | .chartClose _ | .decline _ | .tally _ | .hail _ => s
  | .ask a => s.retireWhere (fun e => e.isFor a.key a.line && e.phase = .askQueued) false
  | .body _ => ({ s with link := { s.link with segments := [] } }).dropBody 0

/-! ## The end of an attempt (R62) -/

/-- An attempt completes without a fault (R62, R47): the frame leaves its queue. -/
def State.completeAttempt (s : State) : State :=
  match s.link.attempt, s.link.current with
  | some c, some f =>
    let s := { s with now := s.frameEnd f.payload.frameBytes }
    ({ s with link := (s.link.replaceHead c []).endAttempt.frameArrived }).sentNotice f
  | _, _ => s

/-- A collision fault ends the attempt: the fault count rises, and at 3 the frame is dropped with LINE_FAULT (R62). A frame
withdrawn while in flight leaves as withdrawn (R60). -/
def State.faultAttempt (s : State) : State :=
  match s.link.attempt, s.link.current with
  | some c, some f =>
    if f.withdrawn then { s with link := (s.link.replaceHead c []).endAttempt }
    else if f.faults + 1 < 3 then
      { s with link := (s.link.replaceHead c [{ f with faults := f.faults + 1 }]).endAttempt }
    else (({ s with link := (s.link.replaceHead c []).endAttempt }).droppedNotice f).post .lineFault 0
  | _, _ => s

/-! ## A frame with this station's number (R63, R74, R136) -/

/-- The link sets MUTE: its attempt is abandoned and every queue cleared (R63). -/
def Link.setMute (l : Link) : Link :=
  { l with
    mute := true, transmitter := .free, attempt := none, openClose := [], askDecline := [], tally := [], segments := []
    hail := none, hailReplacement := none }

/-- The directory's notices that its queued OPENs were cleared (R82). -/
def State.clearOwnOpens (s : State) : State :=
  { s with slots := s.slots.map (fun (p : Nat × Slot) => (p.1, { p.2 with record :=
      if p.2.record.ownOpen = .queued then { p.2.record with ownOpen := .done } else p.2.record })) }

/-- A station number conflict: MUTE, STATION_CONFLICT, and the FETCH UNIT cleared (R63, R74, R136). A further one while MUTE
is set changes nothing. -/
def State.conflict (s : State) : State :=
  if s.link.mute then s
  else
    ({ s.clearOwnOpens with
       link := s.link.setMute
       fetch := { s.fetch with fetches := [], timers := [], bodies := [] } }).post .stationConflict 0

/-- A frame of some bytes has arrived whole (R47). -/
def State.arrive (s : State) (frame : List Byte) : State :=
  { s with now := s.frameEnd frame.length, link := s.link.frameArrived }

/-- A frame that bears this station's own number. -/
def State.ownNumbered (s : State) (frame : List Byte) : Bool := (decodeFrame frame).any (fun f => f.sender == s.self)

/-! ## The commands -/

/-- TRANSMIT_START (R49, R61): the transmitter is WAITING, sending is allowed and the line is idle. -/
def execTransmitStart (s : State) : Host.Outcome State Fault Refusal :=
  .next (s.whenCan (s.running && s.link.transmitter = .waiting && s.sendingAllowed && s.link.idle)
    (fun s => { s with link := s.link.start s.now }))

/-- ARBITRATION_LOST (R50, R60): in ARBITRATING, at a recessive bit of byte 0 that has not passed yet. -/
def execArbitrationLost (bit : Fin 8) (s : State) : Host.Outcome State Fault Refusal :=
  .next (s.whenCan (s.running && s.link.transmitter = .arbitrating && s.link.attempting && s.sendsRecessive bit &&
      decide (s.now < s.bitEnd bit))
    (fun s => ({ s.reach (s.bitEnd bit) with link := s.link.lose }).settle))

/-- COLLISION_FAULT (R50, R54, R60, R62): an attempt is in progress. -/
def execCollisionFault (s : State) : Host.Outcome State Fault Refusal :=
  .next (s.whenCan (s.running && s.link.attempting) (fun s => s.faultAttempt.settle))

/-- FRAME_SENT (R47, R54, R62): an attempt is in progress. -/
def execFrameSent (s : State) : Host.Outcome State Fault Refusal :=
  .next (s.whenCan (s.running && s.link.attempting) (fun s => s.completeAttempt.settle))

/-- RECEIVE_FRAME_DISCARDED (R47, R48, R52): a frame that framing, CRC or the validity checks discard reaches no block. -/
def execReceiveFrameDiscarded (frame : List Byte) (resyncDominant : Bool) (s : State) :
    Host.Outcome State Fault Refusal :=
  .next (s.whenCan (s.running && s.link.canTakeFrame && frameDiscarded frame resyncDominant)
    (fun s => { s with
      now := s.frameEnd frame.length
      link := if framingBroken frame resyncDominant then s.link.frameBroken else s.link.frameArrived }))

/-- OWN_NUMBER_FRAME (R53, R63, R74, R136): a valid frame bearing this station's number that it did not send. -/
def execOwnNumberFrame (frame : List Byte) (s : State) : Host.Outcome State Fault Refusal :=
  .next (s.whenCan (s.running && s.link.canTakeFrame && s.ownNumbered frame) (fun s => (s.arrive frame).conflict))

/-- The checker is at idle (R47). -/
def Link.atIdle (l : Link) : Link := { l with framing := .idleCount, recessive := 12 }

/-- LINE_IDLE (R46, R47): 12 recessive bit times pass while no frame is being taken and the checker is not at idle yet. -/
def execLineIdle (s : State) : Host.Outcome State Fault Refusal :=
  .next (s.whenCan (s.running && s.link.framing != .inFrame && !s.link.idle)
    (fun s => { s.elapse 12 with link := s.link.atIdle }))

end Sys2Proof.Machine
end

