-- ==== Sys2Proof/Machine/Receive.lean ====
section
/-!
DEFINITION. The RECEPTION UNIT (chapter 1): samples, periods, lines, tones, and the commands of its family.

A sample's later consequences are rows of their own (the end of a period or line, a confirmation, the end of the tone).
Each row acts when it is due, and what is due is taken before the next sample, in the order: the period or line, the start
tone, the stop tone, the end of the start tone (log entry 2).
-/
namespace Sys2Proof.Machine

/-- Change the RECEPTION UNIT's own state. -/
def State.modifyReception (s : State) (f : Reception → Reception) : State := { s with reception := f s.reception }

/-! ## Ending and starting a reception (R9, R13, R17) -/

/-- The unit's own part of the end of a reception: the line or period in progress is discarded, the origin and the unphased
flag are cleared, the binding is absent, and the unit is in SEARCH, its next search period the one in progress (R17). -/
def Reception.ended (r : Reception) : Reception :=
  { r with
    state := .search, lateCount := 0, origin := 0, unphased := false, binding := none, skip := 0, endDue := false
    assembler := Assembler.at r.linePosition }

/-- A reception ends with a reason; the directory takes the end report of a bound one (R17, R91). -/
def State.endReception (s : State) (reason : CloseReason) : State :=
  match s.reception.binding with
  | some c => (s.modifyReception Reception.ended).endReport c reason
  | none => s.modifyReception Reception.ended

/-- A started reception: the request to the directory, the binding it answers, and START TONE (R9). -/
def State.startReception (s : State) : State :=
  let s := s.modifyReception (fun r => { r with lateCount := 0, unphased := false, origin := 0 })
  let (binding, s) := s.requestStarted
  s.modifyReception (fun r => { r with binding := binding, state := .startTone })

/-- The chart line that the next image line would have, where the bound record gives one: own index + d, or own index + e
while it is ALIGNING; the own index when the reception is unbound (R14). -/
def State.nextChartLine (s : State) : Int :=
  let own : Int := s.reception.ownIndex
  match s.reception.binding with
  | some c =>
    match s.record? c with
    | some r =>
      match r.offset with
      | some d => own + d
      | none => own + (r.expected.getD 0 : Nat)
    | none => own
  | none => own

/-- The length test at the start of an image line (R14). -/
def State.lengthTest (s : State) : State := if 2047 < s.nextChartLine then s.endReception .length else s

/-- The unit enters IMAGE: image line 0 starts after `o` samples; with none to pass, its length is tested now (R12 to R14). -/
def State.enterImage (s : State) (o : Nat) : State :=
  let s := s.modifyReception (fun r => { r with
    state := .image, ownIndex := 0, fadeCount := 0, skip := o, endDue := false, assembler := Assembler.at 0 })
  if o = 0 then s.lengthTest else s

/-- A late entry at the boundary before the next sample (R13). -/
def State.lateEntry (s : State) : State :=
  let s := s.modifyReception (fun r => { r with lateCount := 0, origin := 0, unphased := true })
  let (binding, s) := s.requestLate s.reception.sampleCount
  (s.modifyReception (fun r => { r with binding := binding })).enterImage 0

/-! ## Handing a line on (R18, R19, R89) -/

/-- A finished image line (R14). -/
structure FinishedLine where
  ownIndex : Nat
  grade : Nat
  fingerprint : Fingerprint
  pixels : Pixels
  invalid : Nat
deriving DecidableEq, Repr

/-- A line joins the end of the buffers; with both occupied the oldest is dropped first (R19). -/
def joinBuffers (l : List BufferedLine) (b : BufferedLine) : List BufferedLine :=
  (if 2 ≤ l.length then l.drop 1 else l) ++ [b]

/-- An own line becomes a candidate: taken at once where both buffers are empty, a write queue entry is free and no store
waits before it, otherwise buffered (R19, R31). -/
def State.offerOwnLine (s : State) (b : BufferedLine) : State :=
  let s := s.takeDueSteps
  if s.reception.buffers.isEmpty && s.writePlaceFree && s.lineTable.store.isNone then s.takeCandidate (s.ownCandidate b)
  else s.modifyReception (fun r => { r with buffers := joinBuffers r.buffers b })

/-- The directory's report of a line handed on (R89): the last own line is set when the line is a candidate. -/
def State.reportOwnLine (s : State) (c : Nat) (n : Option Nat) : State :=
  s.modifyRecord c (fun r =>
    { r with ownLinesHanded := true, lastOwn := n.orElse fun _ => r.lastOwn }.restartQuiet (s.now + s.quietTime))

/-- A finished line is discarded, sent to alignment, dropped, or offered as a candidate (R18). A line above chart line 2047, which
an offset accepted during the line can make it, is dropped as one below 0 is (DEDUCED, log entry 46). -/
def State.handOn (s : State) (l : FinishedLine) : State :=
  match s.reception.binding with
  | none => s
  | some c =>
    match s.record? c with
    | none => s
    | some r =>
      if r.state = .aligning then
        (s.reportOwnLine c none).alignLine c l.ownIndex l.grade l.fingerprint l.pixels
      else
        match r.offset with
        | none => s
        | some d =>
          match chartLine ((l.ownIndex : Int) + d) with
          | some n =>
            (s.reportOwnLine c (some n)).offerOwnLine
              { slot := c, line := n, ownIndex := l.ownIndex, grade := l.grade, fingerprint := l.fingerprint
                pixels := l.pixels }
          | none => s

/-- The split clear that a decision asked for is carried out at once where the slot is quiet (R37, R107); the reads that wait
for no write any more are made before it (R33). -/
def State.splitAtOnce (s : State) : State :=
  match s.alignment.state, s.alignment.slot with
  | .splitWait, some c =>
    if s.quiet c && s.firstRequest c == some (QuietRequest.splitClear c) then s.makeDueReads.carryOutSplit c else s
  | _, _ => s

/-! ## The steps of the unit -/

/-- The pixel tones of the line or period whose last sample has arrived (R3). -/
def State.lineTones (s : State) : List Nat := pixelTones s.reception.sampleCount s.reception.assembler s.width

/-- The finished line: grays, E, B, grade and fingerprint (R4 to R6, R14). -/
def State.finishedLine (s : State) : FinishedLine :=
  let tones := s.lineTones
  let pixels := grays 0 tones
  let e := invalidCount tones
  let belowFloor := decide (meanEnvelope s.reception.assembler s.samples < s.levelFloor)
  { ownIndex := s.reception.ownIndex
    grade := lineGrade e (burstCount 0 tones) s.width s.reception.unphased belowFloor
    fingerprint := fingerprintOf pixels s.width
    pixels := pixels
    invalid := e }

/-- The assembler is emptied for the line or period that starts with the next sample. -/
def State.nextPeriod (s : State) : State :=
  s.modifyReception (fun r => { r with endDue := false, assembler := Assembler.at 0 })

/-- The end of a search period (R8). -/
def State.searchEnds (s : State) : State :=
  let e := invalidCount s.lineTones
  let count := if 4 * e < s.width then s.reception.lateCount + 1 else 0
  let s := s.nextPeriod.modifyReception (fun r => { r with lateCount := count })
  if 8 ≤ count then s.lateEntry else s

/-- The end of a phasing period (R11, R12). -/
def State.phasingEnds (s : State) : State :=
  let pulse := pulsePosition (grays 0 s.lineTones) s.width
  let record := s.reception.phasing.take pulse
  let s := s.nextPeriod.modifyReception (fun r => { r with phasing := record })
  if record.ends pulse then
    let settled := record.settledOrigin s.width
    let origin := settled.getD 0
    (s.modifyReception (fun r => { r with origin := origin, unphased := settled.isNone })).enterImage
      (originOffset origin s.samples s.width)
  else s

/-- The number of the last sample taken (R2). -/
def Reception.lastSample (r : Reception) : Nat := r.sampleCount - 1

/-- The start tone's confirmation is due (R7). -/
def Reception.startDue (r : Reception) : Bool := r.startRun.isSome && ToneRun.confirms r.startRun r.lastSample

/-- The stop tone's confirmation is due (R7). -/
def Reception.stopDue (r : Reception) : Bool := r.stopRun.isSome && ToneRun.confirms r.stopRun r.lastSample

/-- A tone is confirmed at the last sample, and its report is not yet taken (R16). -/
def Reception.toneDue (r : Reception) : Bool := r.startDue || r.stopDue

/-- The end of an image line: formed, handed on, fade-tested, and the next line's length tested (R14, R15). Where a tone is
confirmed at the same sample, the reception ends with the tone's reason, not by these tests (R16). An end with FADE leaves the own
index as it is, while it grows before an end with LENGTH or by a tone (DESIGN CHOICE, log entry 47). -/
def State.imageLineEnds (s : State) : State :=
  let line := s.finishedLine
  let fade := if s.width < 2 * line.invalid then s.reception.fadeCount + 1 else 0
  let waited := s.candidateWaits
  let s := (s.nextPeriod.handOn line).modifyReception (fun r => { r with fadeCount := fade })
  let s := s.splitAtOnce.takeArrival waited
  let next := s.modifyReception (fun r => { r with ownIndex := r.ownIndex + 1 })
  if s.reception.toneDue then next
  else if 16 ≤ fade then s.endReception .fade
  else next.lengthTest

/-- The start tone is confirmed: a start in SEARCH, or an end with NEW and the start of a new reception (R9, R16). -/
def State.startConfirmed (s : State) : State :=
  let s := s.modifyReception (fun r => { r with startRun := ToneRun.confirm r.startRun })
  match s.reception.state with
  | .search => s.startReception
  | .phasing | .image => (s.endReception .newStart).startReception
  | .startTone => s

/-- The stop tone is confirmed (R16); the report is ignored in SEARCH and START TONE (R7). -/
def State.stopConfirmed (s : State) : State :=
  let s := s.modifyReception (fun r => { r with stopRun := ToneRun.confirm r.stopRun })
  match s.reception.state with
  | .phasing | .image => s.endReception .stop
  | .search | .startTone => s

/-- The start tone ends: the sample that ended it is sample 0 of phasing period 0 (R2, R10). -/
def State.startToneEnds (s : State) : State :=
  s.modifyReception (fun r => { r with
    startRun := none, state := .phasing, phasing := { periods := 0, pulses := 0, positions := [] }
    linePosition := 1, endDue := false
    assembler := (Assembler.at 0).take s.width s.samples r.lastFrequency r.lastEnvelope })

/-! ## What is due after a sample -/

/-- The end of the period or line is taken, where it is due (R8, R11, R14). -/
def State.takePeriodEnd (s : State) : State :=
  if s.reception.endDue then
    match s.reception.state with
    | .search => s.searchEnds
    | .phasing => s.phasingEnds
    | .image => s.imageLineEnds
    | .startTone => s
  else s

/-- Everything a sample made due is taken (R16; log entry 2). A confirmed stop tone that has ended leaves no run (R7). -/
def State.settleReception (s : State) : State :=
  let s := s.takePeriodEnd
  let s := if s.reception.startDue then s.startConfirmed else s
  let s := if s.reception.stopDue then s.stopConfirmed else s
  let s := if s.reception.state = .startTone && ToneRun.endDue s.reception.startRun then s.startToneEnds else s
  s.modifyReception (fun r => { r with
    startRun := if ToneRun.endDue r.startRun then none else r.startRun
    stopRun := if ToneRun.endDue r.stopRun then none else r.stopRun })

/-- The assembler takes a sample where a line or period is being assembled; the samples before image line 0 belong to no
line (R2, R3). -/
def Reception.assemble (r : Reception) (w n f env : Nat) : Reception :=
  match r.state with
  | .startTone => r
  | .search | .phasing =>
    { r with assembler := r.assembler.take w n f env, endDue := r.assembler.position + 1 = n }
  | .image =>
    if r.skip = 0 then { r with assembler := r.assembler.take w n f env, endDue := r.assembler.position + 1 = n }
    else { r with skip := r.skip - 1 }

/-- The discriminator, the tone detectors, the line timer and the assembler take one sample (R1 to R3, R7). -/
def Reception.sample (r : Reception) (w n : Nat) (audio : BitVec 16) (quadrature : Int) : Reception :=
  let a := analyticOf audio quadrature
  let f := frequencyOf r.previous a r.sampleCount
  let env := envelopeOf a
  let r := r.assemble w n f env
  { r with
    previous := some a
    startRun := ToneRun.step r.startRun (startBand f) r.sampleCount
    stopRun := ToneRun.step r.stopRun (stopBand f) r.sampleCount
    linePosition := (r.linePosition + 1) % n
    sampleCount := r.sampleCount + 1
    lastFrequency := f
    lastEnvelope := env }

/-- Some consequence of the last sample is due (R7, R8, R11, R14). -/
def Reception.anythingDue (r : Reception) : Bool :=
  r.endDue || r.toneDue || ToneRun.endDue r.startRun || ToneRun.endDue r.stopRun

/-- The next sample is the last before image line 0 starts (R2). -/
def Reception.lineZeroNext (r : Reception) : Bool := r.state = .image && r.skip = 1

/-- The unit takes one sample; when the last of the samples before image line 0 has passed, its length is tested (R14). -/
def State.takeSample (s : State) (audio : BitVec 16) (quadrature : Int) : State :=
  let t := s.modifyReception (fun r => r.sample s.width s.samples audio quadrature)
  if s.reception.lineZeroNext then t.lengthTest.settle else t

/-! ## The commands -/

/-- AUDIO_SAMPLE (R1 to R3, R7): what the sample before it made due is taken first (log entry 2). -/
def execAudioSample (audio : BitVec 16) (quadrature : Int) (s : State) : Host.Outcome State Fault Refusal :=
  .next (s.whenRunning (fun s =>
    (if s.reception.anythingDue then s.settleReception.settle else s).takeSample audio quadrature))

/-- START_TONE_CONFIRMED (R9, R16): due at an in-band sample 36,000 or more samples after the run's start (R7). -/
def execStartToneConfirmed (s : State) : Host.Outcome State Fault Refusal :=
  .next (s.whenCan (s.running && s.reception.startDue) (fun s => s.startConfirmed.settle))

/-- STOP_TONE_CONFIRMED (R16): due likewise. -/
def execStopToneConfirmed (s : State) : Host.Outcome State Fault Refusal :=
  .next (s.whenCan (s.running && s.reception.stopDue) (fun s => s.stopConfirmed.settle))

/-- END_OF_START_TONE (R10): due in START TONE at the 1,201st out-of-band sample of the confirmed run. -/
def execEndOfStartTone (s : State) : Host.Outcome State Fault Refusal :=
  .next (s.whenCan (s.running && s.reception.state = .startTone && ToneRun.endDue s.reception.startRun)
    State.startToneEnds)

/-- SEARCH_PERIOD_END (R8, R13): due at the last sample of a line period in SEARCH. -/
def execSearchPeriodEnd (s : State) : Host.Outcome State Fault Refusal :=
  .next (s.whenCan (s.running && s.reception.state = .search && s.reception.endDue) (fun s => s.searchEnds.settle))

/-- PHASING_PERIOD_END (R11, R12): due at the last sample of a phasing period. -/
def execPhasingPeriodEnd (s : State) : Host.Outcome State Fault Refusal :=
  .next (s.whenCan (s.running && s.reception.state = .phasing && s.reception.endDue) (fun s => s.phasingEnds.settle))

/-- IMAGE_LINE_END (R14, R15, R18, R19): due at the last sample of an image line. -/
def execImageLineEnd (s : State) : Host.Outcome State Fault Refusal :=
  .next (s.whenCan (s.running && s.reception.state = .image && s.reception.endDue) (fun s => s.imageLineEnds.settle))

end Sys2Proof.Machine
end

