-- ==== Sys2Proof/Machine/Frames.lean ====
section
/-!
DEFINITION. The commands that are valid frames from peers (R53): what the ROSTER, the CHART DIRECTORY, the ALIGNMENT UNIT and
the FETCH UNIT do with each kind.
-/
namespace Sys2Proof.Machine

/-! ## The ROSTER takes the frame first (R66, R67) -/

/-- A peer's roster entry; one not listed is ABSENT (section 4.1). -/
def State.rosterEntry (s : State) (peer : Station) : RosterEntry :=
  (Sparse.find s.roster.peers peer.val).getD { state := .absent, lossDeadline := none, lastHail := none }

def State.setRosterEntry (s : State) (peer : Station) (e : RosterEntry) : State :=
  { s with roster := { s.roster with peers := Sparse.put s.roster.peers peer.val e } }

/-- A valid frame from a peer: LIVE, the loss timer at 6 s, PEER_JOINED on a change (R66). -/
def State.peerHeard (s : State) (peer : Station) : State :=
  let e := s.rosterEntry peer
  let t := s.setRosterEntry peer { e with state := .live, lossDeadline := some (s.now + Config.lossTime) }
  if e.state = .live then t else t.post .peerJoined peer.val

/-- What every valid frame from a peer does: it arrives, the ROSTER takes it, the blocks that take its kind act, and what
follows at once follows (R47, R53, R66). The FETCH UNIT issues the ASKs that a return to LIVE allows (R69) after the frame has
acted on the blocks of its kind (DESIGN CHOICE, log entry 40). -/
def State.receive {α : Type} (s : State) (frame : List Byte) (pick : Payload → Option α)
    (act : α → Station → State → State) : State :=
  s.whenCan (s.running && s.link.canTakeFrame) (fun s =>
    match decodeFrame frame with
    | some f =>
      match pick f.payload with
      | some a => if f.sender = s.self then s else (act a f.sender ((s.arrive frame).peerHeard f.sender)).settle
      | none => s
    | none => s)

/-! ## The payload of each kind -/

def Payload.hail? : Payload → Option Hail
  | .hail h => some h
  | _ => none

def Payload.chartOpen? : Payload → Option ChartOpen
  | .chartOpen o => some o
  | _ => none

def Payload.chartClose? : Payload → Option ChartClose
  | .chartClose c => some c
  | _ => none

def Payload.tally? : Payload → Option Tally
  | .tally t => some t
  | _ => none

def Payload.ask? : Payload → Option Ask
  | .ask a => some a
  | _ => none

def Payload.decline? : Payload → Option Decline
  | .decline d => some d
  | _ => none

def Payload.body? : Payload → Option Segment
  | .body b => some b
  | _ => none

/-! ## What each kind does -/

/-- A joiner was heard: the bound OPEN record is announced again (R73). -/
def State.reannounce (s : State) : State :=
  match s.reception.binding.bind s.record? with
  | some r =>
    if r.state = .opened && !s.link.reannouncementWaits r.key then
      s.queueOpenClose (.chartOpen (s.openOf r false true (r.highest.getD 0)))
    else s
  | none => s

/-- A HAIL (R67). -/
def State.takeHail (h : Hail) (sender : Station) (s : State) : State :=
  let s := s.setRosterEntry sender { s.rosterEntry sender with
    lastHail := some { width := h.width, rate := h.rate, boundKey := h.boundKey } }
  if h.joining then s.reannounce else s

/-- An OPEN (R83 to R85). -/
def State.takeOpen (o : ChartOpen) (sender : Station) (s : State) : State := s.openHeard sender o

/-- A CLOSE (R86). -/
def State.takeClose (c : ChartClose) (sender : Station) (s : State) : State := s.closeHeard sender c

/-- The holder map's part of a TALLY for a known key (R115). -/
def State.tallyHolders (s : State) (sender : Station) (t : Tally) : State :=
  match s.slotOfKey t.key with
  | some c => s.modifySlot c (fun sl => sl.tallyRows sender t.first t.entries)
  | none => s

/-- A TALLY, taken by the directory, the ALIGNMENT UNIT and the FETCH UNIT (R53, R87, R101, R115). They take it independently; that
the directory and the holder map take it before the ALIGNMENT UNIT, so that the quiet timer is restarted even where the TALLY
brings on a split at once, is the model's choice (DESIGN CHOICE, log entry 44). -/
def State.takeTally (t : Tally) (sender : Station) (s : State) : State :=
  (((s.tallyHeard sender t).tallyHolders sender t).alignTally sender t).splitAtOnce.takeArrival s.candidateWaits

/-- A heard ASK defers its line, unless this station holds a fetch for it (R125). -/
def State.deferAsked (s : State) (a : Ask) : State :=
  match s.slotOfKey a.key with
  | some c =>
    if (s.fetchFor a.key a.line).isNone then
      s.modifyRow c a.line (fun r => r.deferTo (s.now + Config.deferralTime))
    else s
  | none => s

/-- An ASK (R125, R126, R128). -/
def State.takeAsk (a : Ask) (sender : Station) (s : State) : State :=
  let s := s.deferAsked a
  if a.primary = s.self then s.serve a.key a.line sender
  else if a.fallback = some s.self then s.startFallback a sender
  else s

/-- The row's part of a DECLINE: the sender is removed, or the line is deferred (R116, R123). -/
def State.declineRow (s : State) (d : Decline) (sender : Station) (counted : Bool) : State :=
  match s.slotOfKey d.key with
  | some c =>
    s.modifyRow c d.line (fun r =>
      match d.reason with
      | .busy => r.deferTo (s.now + Config.deferralTime)
      | .unknownChart | .noLine =>
        let r := r.remove sender
        if counted then r.attempt else r)
  | none => s

/-- The fetch entry that a DECLINE ends: for its key and line, its ASK sent, its target or fallback the sender (R123). -/
def State.declinedFetch (s : State) (d : Decline) (sender : Station) : Option FetchEntry :=
  (s.fetchFor d.key d.line).filter (fun e =>
    e.phase != .askQueued && (e.target == sender || e.fallback == some sender))

/-- A DECLINE (R123, R128). -/
def State.takeDecline (d : Decline) (sender : Station) (s : State) : State :=
  let s := s.cancelTimers (fun t => t.isFor d.key d.line && t.primary == sender)
  if d.requester = s.self then
    match s.declinedFetch d sender with
    | some e => (s.retire e).declineRow d sender true
    | none => s.declineRow d sender false
  else s

/-- A segment numbered 1 or more (R131, R132). A complete body whose key is unknown is discarded, and like any complete body it
cancels a fallback timer for its line (R128). -/
def State.takeLaterSegment (s : State) (sender : Station) (c : Option Context) (b : Segment) : State :=
  match c with
  | none => s
  | some c =>
    match addSegment c b with
    | .goesOn c' => s.setContext sender.val (some c')
    | .abandoned => s.setContext sender.val none
    | .complete c' =>
      match s.slotOfKey b.key with
      | none => (s.cancelTimers (fun t => t.isFor b.key b.line)).setContext sender.val none
      | some slot => s.takeDueSteps.bodyComplete sender c' slot

/-- A BODY segment (R130 to R132). A segment 0 is consulted for fetches and timers whatever its context (R130). -/
def State.takeSegment (b : Segment) (sender : Station) (s : State) : State :=
  let s := match b.header with
    | some h => s.segmentZeroHeard sender b h
    | none => s
  let c := Sparse.find s.fetch.contexts sender.val
  if c.any (fun c => c.waitingSlot.isSome) then s
  else
    match b.header with
    | some h => s.setContext sender.val (openContext b h)
    | none => s.takeLaterSegment sender c b

/-! ## The commands -/

/-- HAIL_RECEIVED (R66, R67, R73). -/
def execHailReceived (frame : List Byte) (s : State) : Host.Outcome State Fault Refusal :=
  .next (s.receive frame Payload.hail? State.takeHail)

/-- OPEN_RECEIVED (R66, R83 to R85). -/
def execOpenReceived (frame : List Byte) (s : State) : Host.Outcome State Fault Refusal :=
  .next (s.receive frame Payload.chartOpen? State.takeOpen)

/-- CLOSE_RECEIVED (R66, R86, R92). -/
def execCloseReceived (frame : List Byte) (s : State) : Host.Outcome State Fault Refusal :=
  .next (s.receive frame Payload.chartClose? State.takeClose)

/-- TALLY_RECEIVED (R66, R87, R101 to R107, R115). -/
def execTallyReceived (frame : List Byte) (s : State) : Host.Outcome State Fault Refusal :=
  .next (s.receive frame Payload.tally? State.takeTally)

/-- ASK_RECEIVED (R66, R125 to R128). -/
def execAskReceived (frame : List Byte) (s : State) : Host.Outcome State Fault Refusal :=
  .next (s.receive frame Payload.ask? State.takeAsk)

/-- DECLINE_RECEIVED (R66, R123, R128). -/
def execDeclineReceived (frame : List Byte) (s : State) : Host.Outcome State Fault Refusal :=
  .next (s.receive frame Payload.decline? State.takeDecline)

/-- BODY_SEGMENT_RECEIVED (R66, R121, R122, R128, R130 to R132). -/
def execBodySegmentReceived (frame : List Byte) (s : State) : Host.Outcome State Fault Refusal :=
  .next (s.receive frame Payload.body? State.takeSegment)

end Sys2Proof.Machine
end

