-- ==== Sys2Proof/Machine/Reset.lean ====
section
/-!
DEFINITION. Resets: power-good, the strap stream, the warm reset of every block, the release (sections 2.8, 5.11, 9.2, 10.8).
-/
namespace Sys2Proof.Machine

/-! ## The warm reset, block by block -/

/-- The LINE TABLE at a warm reset: a COMPOSITE or MERGE write in progress tears its entry, a POOL write in progress frees
the pool entry it was filling, and chart memory holds whatever the write had reached (R41). -/
def State.tearWrite (s : State) : State :=
  match s.lineTable.queue with
  | [] => s
  | w :: _ =>
    if s.lineTable.started then
      let s := s.interruptWrite w
      match w.kind with
      | .pool => if w.stale then s else { s with pool := Sparse.erase s.pool w.target }
      | .composite | .merge => s.modifyEntry w.slot w.target (fun e => { e with committed := 1 })
    else s

/-- Every deferral of a slot is discarded, its rows otherwise kept (R137). -/
def Slot.dropDeferrals (sl : Slot) : Slot :=
  { sl with
    rows := (sl.rows.map (fun (p : Nat × HolderRow) => (p.1, { p.2 with deferral := none }))).filter
      (fun p => p.2 != HolderRow.empty) }

/-- A pool entry after a warm reset, where it is kept: PROVISIONAL entries go, and SHADOW entries without a written grade;
the others are UNMERGED with no pending grade (R154). -/
def PoolEntry.warm (e : PoolEntry) : Option PoolEntry :=
  if e.kind = .shadow && e.written.isSome then some { e with pending := none, merging := false } else none

/-- The contributors after a warm reset: every entry ENDED, by RESET where it was ACTIVE (R96). -/
def contributorsReset (l : List Contributor) : List Contributor :=
  l.map (fun c => { c with ended := some (c.ended.getD .reset) })

/-- A record after a warm reset; one that the reset closes takes the close order `order` (R96). -/
def ChartRecord.warm (r : ChartRecord) (order : Nat) : ChartRecord :=
  { r with
    state := .closed
    closeReason := if r.state = .closed then r.closeReason else some .reset
    closeOrder := if r.state = .closed then r.closeOrder else some order
    expected := none, bound := false, contributors := contributorsReset r.contributors
    ownOpen := .none, ownLinesHanded := false, lastOpenHeard := none, lastTally := none
    quietDeadline := none, quietFlag := false }

/-- The records after a warm reset: those it closes take the next close orders in ascending slot order (R96). -/
def warmRecords (order : Nat) : List (Nat × Slot) → List (Nat × Slot)
  | [] => []
  | (c, sl) :: t =>
    (c, { sl with record := sl.record.warm (order + 1) }) ::
      warmRecords (if sl.record.state = .closed then order else order + 1) t

/-- The slots whose thaw ends because the reset leaves them no SHADOW entry (R149, R154). -/
def State.thawsEnded (s : State) : List Nat :=
  (s.slots.filter (fun p => p.2.record.hold = .thawing && !s.hasShadow p.1)).map Prod.fst

/-- A thaw that has ended leaves hold NONE (R149). -/
def thawEnded (ended : List Nat) (c : Nat) (sl : Slot) : Slot :=
  if c ∈ ended then { sl with record := { sl.record with hold := .none } } else sl

/-- The slots and the pool at a warm reset (R41, R96, R137, R154). The thaws that end here are posted at the release that follows
(R175): after a RESTART and a RESET at one instant those of the first reset are posted or lost as the two are taken in one order
or the other (DESIGN CHOICE, log entry 45). -/
def State.warmCharts (s : State) : State :=
  let s := s.tearWrite
  let s := { s with
    pool := s.pool.filterMap (fun (p : Nat × PoolEntry) => p.2.warm.map (fun e => (p.1, e)))
    slots := warmRecords s.highestCloseOrder
      (s.slots.map (fun (p : Nat × Slot) => (p.1, p.2.dropPending.dropDeferrals))) }
  let ended := s.thawsEnded
  { s with
    slots := s.slots.map (fun (p : Nat × Slot) => (p.1, thawEnded ended p.1 p.2))
    attention := { s.attention with events := [], thawDoneAtRelease := ended } }

/-- Every block takes its warm-reset values (R21, R41, R64, R75, R96, R110, R137, R154, R175, R178). -/
def State.warmReset (s : State) : State :=
  { s.warmCharts with
    reception := Reception.reset
    lineTable := LineTable.reset
    link := Link.reset
    roster := Roster.reset
    alignment := Alignment.reset
    fetch := Fetch.reset
    port := Port.reset
    config := { s.config with pendingReset := .warm } }

/-! ## The release (R157 to R159, R175) -/

/-- Post one event of a kind for each argument. -/
def State.postAll (s : State) (k : EventKind) : List Nat → State
  | [] => s
  | n :: t => (s.post k n).postAll k t

/-- The events of a release: RESTARTED, the CONFIG_FAULTs of a cold reset, the THAW_DONEs of a warm one (R161, R175). -/
def State.postRelease (s : State) : State :=
  let s := s.post .restarted s.config.pendingReset.code
  let s := if s.config.pendingReset = .cold then s.postAll .configFault (s.config.causes.map FaultCause.code) else s
  let s := s.postAll .thawDone s.attention.thawDoneAtRelease
  { s with attention := { s.attention with thawDoneAtRelease := [] } }

/-- The blocks are released from the values they hold, and LISTEN runs for 6 s (R70, R157, R158). -/
def State.release (s : State) : State :=
  ({ s with
     config := { s.config with state := .run }
     roster := { s.roster with listenDeadline := some (s.now + Config.listenTime) } }).postRelease

/-! ## Power (R156) -/

/-- A write in progress leaves its target memory as far as it had reached (R156). -/
def State.cutWrite (s : State) : State :=
  match s.lineTable.queue with
  | w :: _ => if s.lineTable.started then s.interruptWrite w else s
  | [] => s

/-- Every block at its cold-reset values, in a configuration state. Chart memory is not cleared (R164; log entry 11), and
station time, the RESET input and the waiting commands stand. -/
def State.coldValues (s : State) (state : ConfigState) : State :=
  { State.reset with
    pending := s.pending
    now := s.now
    config := { Configuration.reset with state := state, resetPin := s.config.resetPin }
    memory := s.memory
    interruptedWrites := s.interruptedWrites }

/-! ## The commands -/

/-- POWER_GOOD_RISING (R156): in OFF a cold reset begins. -/
def execPowerGoodRising (s : State) : Host.Outcome State Fault Refusal :=
  .next (s.whenCan (s.config.state = .off) (fun s => s.coldValues .reading))

/-- POWER_GOOD_FALLING (R156): the part goes to OFF at once, from any state. -/
def execPowerGoodFalling (s : State) : Host.Outcome State Fault Refusal :=
  .next (s.cutWrite.coldValues .off)

/-- The configuration once the 64th strap bit is taken (R157, R160 to R162). -/
def Configuration.latch (c : Configuration) (stream : BitVec 64) : Configuration :=
  { c with strapBits := 64, latched := stream, settings := settingsOf stream, causes := causesOf stream }

/-- STRAP_STREAM_READ (R157): the settings are latched and memory is sized; the blocks are released, or held while RESET is
asserted. -/
def execStrapStreamRead (stream : BitVec 64) (s : State) : Host.Outcome State Fault Refusal :=
  .next (s.whenCan (s.config.state = .reading) (fun s =>
    let s := { s with config := s.config.latch stream }
    if s.config.resetPin then { s with config := { s.config with state := .holding } } else s.release))

/-- RESET_ASSERTED (R156 to R158): in RUN a warm reset, and the part holds. -/
def execResetAsserted (s : State) : Host.Outcome State Fault Refusal :=
  let t := if s.running then s.warmReset else s
  .next { t with config := { t.config with
    resetPin := true, state := if s.running then .holding else t.config.state } }

/-- RESET_DEASSERTED (R158): in HOLDING the blocks are released. -/
def execResetDeasserted (s : State) : Host.Outcome State Fault Refusal :=
  let t := { s with config := { s.config with resetPin := false } }
  .next (if s.config.state = .holding then t.release else t)

end Sys2Proof.Machine
end

