-- ==== Sys2Proof/Machine/Port.lean ====
section
/-!
DEFINITION. The CHART PORT (chapter 11): transfers, host requests, the reports they read, and the bytes of responses.

A command of this family is a whole transfer: select asserted, its bytes clocked, select deasserted (R177; log entry 2).
-/
namespace Sys2Proof.Machine

/-! ## Reports (R97, R166, R179) -/

/-- The report of a slot (R97). -/
def State.slotReport (s : State) (c : Nat) : Option SlotReport :=
  (s.slot? c).map (fun sl => { record := sl.record, filled := sl.filledCount, pool := s.poolOfSlot c })

/-- The directory report (R97). -/
def State.directoryReport (s : State) : List (Option SlotReport) := (List.range s.slotCount).map s.slotReport

/-- The station state that STATUS reports (R63). -/
def State.reportedState (s : State) : ReportedState :=
  if s.link.mute then .mute
  else
    match s.roster.state with
    | .listen => .listen
    | .joined => .joined

/-- The roster places, by station number (R76). -/
def State.rosterPlaces (s : State) : List RosterPlace :=
  (List.finRange 8).map (fun p => if p = s.self then .self else .peer (s.rosterEntry p))

/-- The STATUS report (R22, R63, R76, R138, R155, R166, R179). -/
def State.statusReport (s : State) : StatusReport :=
  { state := s.reportedState
    station := s.self
    binding := s.reception.binding
    unphased := s.reception.unphased
    demodulator := s.reception.state
    poolInUse := s.pool.length
    provisionalInUse := s.provisionalCount
    fetchesInUse := s.fetch.fetches.length
    slotCount := s.slotCount
    width := s.config.settings.width
    causes := s.config.causes
    roster := s.rosterPlaces }

/-! ## Response bytes (R182) -/

def Result.code : Result → Byte
  | .ok => 0x00
  | .badSlot => 0x01
  | .held => 0x02
  | .notHeld => 0x03
  | .active => 0x04
  | .busyRead => 0x05
  | .badKind => 0x06
  | .badRequest => 0x07

/-- The origin kind's two bits in a LINES item. -/
def originCode : Option Origin → Nat
  | none => 0
  | some .own => 1
  | some .peer => 2
  | some .merged => 3

/-- A LINES item; the last carries the end mark. Unassigned bits, and the source's where it is absent, are sent 0 (DESIGN CHOICE,
log entry 37). -/
def LineItem.bytes (i : LineItem) (last : Bool) : List Byte :=
  bytes16 i.line ++
    [BitVec.ofNat 8 i.grade,
     BitVec.ofNat 8 (boolNat last 128 + boolNat i.held 64 + boolNat i.source.isSome 32 + originCode i.origin * 8 +
      (match i.source with
       | some st => st.val
       | none => 0))] ++ packGrays i.pixels

/-- LINES items in order, the end mark on the last. -/
def itemsBytes : List LineItem → List Byte
  | [] => []
  | [i] => i.bytes true
  | i :: t => i.bytes false ++ itemsBytes t

/-- A number as two bytes, two's complement, the high one first. -/
def bytesInt16 (n : Int) : List Byte := [(BitVec.ofInt 16 n).extractLsb' 8 8, (BitVec.ofInt 16 n).extractLsb' 0 8]

def ChartState.code : ChartState → Nat
  | .aligning => 0
  | .opened => 1
  | .closed => 2

def Hold.code : Hold → Nat
  | .none => 0
  | .frozen => 1
  | .thawing => 2

def endCauseCode : Option EndCause → Nat
  | none => 0
  | some .close => 1
  | some .loss => 2
  | some .reset => 3

def Contributor.byte (c : Contributor) : Byte :=
  BitVec.ofNat 8 (128 + boolNat c.ended.isNone 64 + endCauseCode c.ended * 16 + c.station.val)

/-- `n` bytes of a list, with 00 past its end. -/
def padTo (n : Nat) (l : List Byte) : List Byte := (l ++ List.replicate n 0).take n

/-- A slot report of 23 bytes. Unassigned bits, and the values of absent fields, are sent 0 where R182 names no other value
(DESIGN CHOICE, log entry 37). -/
def SlotReport.bytes (p : SlotReport) : List Byte :=
  let r := p.record
  [BitVec.ofNat 8 (128 + boolNat r.bound 64 + boolNat r.late 32 + r.state.code * 8 + r.hold.code * 2),
   BitVec.ofNat 8 (r.rate.val * 64 + boolNat r.offset.isSome 32 + boolNat r.expected.isSome 16 + boolNat r.highest.isSome 8 +
     r.key.origin.val),
   r.key.sequence] ++
    bytesInt16 (r.offset.getD 0) ++ bytes16 (r.expected.getD 0) ++ bytes16 (r.highest.getD 0) ++
    [BitVec.ofNat 8 (match r.closeReason with
      | some reason => reason.code
      | none => 7),
     BitVec.ofNat 8 (r.closeOrder.getD 0)] ++
    bytes16 p.filled ++ bytes16 p.pool ++ padTo 8 (r.contributors.map Contributor.byte)

def Demodulator.code : Demodulator → Nat
  | .search => 0
  | .startTone => 1
  | .phasing => 2
  | .image => 3

def ReportedState.code : ReportedState → Nat
  | .listen => 0
  | .joined => 1
  | .mute => 2

def PeerState.code : PeerState → Nat
  | .absent => 0
  | .live => 1
  | .lost => 2

/-- A roster place of 3 bytes. Unassigned bits, and the HAIL fields where none was heard or they are absent, are sent 0 (DESIGN
CHOICE, log entry 37). -/
def RosterPlace.bytes : RosterPlace → List Byte
  | .self => [0xC0, 0, 0]
  | .peer e =>
    match e.lastHail with
    | none => [BitVec.ofNat 8 (e.state.code * 64), 0, 0]
    | some h =>
      BitVec.ofNat 8 (e.state.code * 64 + 32 + boolNat h.boundKey.isSome 16 + h.width.val * 4 + h.rate.val) ::
        (match h.boundKey with
         | some k => keyBytes k
         | none => [0, 0])

/-- A STATUS body. Unassigned bits, and the bound slot of an unbound reception, are sent 0 (DESIGN CHOICE, log entry 37). -/
def StatusReport.bytes (r : StatusReport) : List Byte :=
  [BitVec.ofNat 8 (r.state.code * 16 + r.station.val),
   BitVec.ofNat 8 (boolNat r.binding.isSome 128 + r.binding.getD 0 * 8 + boolNat r.unphased 4 + r.demodulator.code)] ++
    bytes16 r.poolInUse ++
    [BitVec.ofNat 8 r.provisionalInUse, BitVec.ofNat 8 r.fetchesInUse, BitVec.ofNat 8 r.slotCount,
     BitVec.ofNat 8 r.width.val,
     BitVec.ofNat 8 ((r.causes.map (fun c => 2 ^ c.code)).sum)] ++
    r.roster.flatMap RosterPlace.bytes

/-- The 8 bytes of the latched stream, stream bit 0 first (R184). -/
def latchedBytes (stream : BitVec 64) : List Byte := (List.range 8).map (fun i => stream.extractLsb' (56 - 8 * i) 8)

/-- The 9 effective codes, in the order of the table of R160 (R184). -/
def Settings.bytes (s : Settings) : List Byte :=
  [s.station.val, s.rate.val, s.width.val, s.margin, s.thresholdCode, s.floorCode, boolNat s.fallbackEnable 1, s.bankCode,
   s.depthCode.val].map (BitVec.ofNat 8)

/-- The answer byte, the event kind byte and the argument byte of an EVENT response (R182). The argument of SPURIOUS and NONE is
00; that their event kind byte is sent 00 too is the model's choice (DESIGN CHOICE, log entry 37). -/
def EventAnswer.bytes : EventAnswer → List Byte
  | .event e => [0, BitVec.ofNat 8 e.kind.code, BitVec.ofNat 8 e.argument]
  | .spurious => [1, 0, 0]
  | .none => [2, 0, 0]

/-- The kind byte of a response. -/
def Response.kind : Response → Byte
  | .lines .. => 0x81
  | .directory _ => 0x82
  | .ack .. => 0x83
  | .event .. => 0x84
  | .status _ => 0x85
  | .straps .. => 0x86

/-- The body bytes of a response. -/
def Response.body : Response → List Byte
  | .lines result slot first items =>
    [result.code, slot] ++ bytes16 first ++ [BitVec.ofNat 8 items.length] ++ itemsBytes items
  | .directory slots =>
    BitVec.ofNat 8 slots.length :: slots.flatMap (fun p => match p with
      | some r => r.bytes
      | none => List.replicate 23 0)
  | .ack request result value => [request, result.code, value]
  | .event request answer => request :: answer.bytes
  | .status report => report.bytes
  | .straps latched settings => latchedBytes latched ++ settings.bytes

/-- A response in its byte layout: kind, two-byte count, body (R182). -/
def Response.bytes (r : Response) : List Byte := r.kind :: (bytes16 r.body.length ++ r.body)

/-! ## Transfers (R177) -/

/-- The transfer that the host's first byte names (R177). -/
def transferOf (first : Byte) : Transfer := if first = 0x01 then .write else if first = 0x02 then .read else .ignored

/-- The port status byte: READY or FULL (R177). -/
def State.portStatus (s : State) : Byte := if s.portReady then 0x01 else 0x02

/-- What is clocked out in a WRITE transfer of a message of `n` bytes: the status, then 00 for each byte (R177). -/
def State.clockOut (s : State) (out : List Byte) : State := { s with port := { s.port with clockedOut := out } }

/-- A WRITE transfer that brings a request of `n` bytes: taken when its status reads READY, ignored when it reads FULL
(R158, R177). In OFF the port does not run. -/
def State.request (s : State) (n : Nat) (f : State → State) : State :=
  s.whenCan (s.config.state != .off) (fun s =>
    (if s.portReady then f s else s).clockOut (s.portStatus :: List.replicate n 0))

/-- The bytes a READ transfer of `clocks` bytes after the status clocks out (R177). -/
def clocked (clocks : Nat) (head : Option Response) : List Byte :=
  padTo clocks (match head with
    | some r => r.bytes
    | none => [])

/-- The head response that a READ transfer finds; none unless the part is in RUN (R158, R177). -/
def State.headResponse (s : State) : Option Response := if s.running then s.port.queue.head? else none

/-- A READ transfer: the head response is removed when its first byte has been clocked out (R177). -/
def State.readOut (s : State) (clocks : Nat) : State :=
  let t := if s.headResponse.isSome && decide (1 ≤ clocks) then
      { s with port := { s.port with queue := s.port.queue.drop 1 } }
    else s
  t.clockOut (s.portStatus :: clocked clocks s.headResponse)

/-- An ACK whose value is 00. -/
def State.ack (s : State) (request : Byte) (result : Result) : State := s.respond (.ack request result 0)

/-- A slot byte that names no record: not 0 to C − 1, or not in use (R94, R142, R146, R180). -/
def State.badSlot (s : State) (slot : Byte) : Bool :=
  decide (s.slotCount ≤ slot.toNat) || (s.slot? slot.toNat).isNone

/-! ## The requests -/

/-- The count that a READ_LINES serves (R180). -/
def servedCount (first count : Nat) : Nat :=
  min (if count = 0 then 1 else min count 16) (Config.lastLine + 1 - first)

/-- A READ_LINES (R179, R180). A read that waits for no write is made at once (R33). -/
def State.askLines (s : State) (slot : Byte) (first : Nat) (count : Nat) : State :=
  if Config.lastLine < first then s.ack 0x01 .badRequest
  else if s.port.read.isSome then s.ack 0x01 .busyRead
  else if s.badSlot slot then s.respond (.lines .badSlot slot first [])
  else
    let read : PendingRead :=
      { slot := slot.toNat, first := first, count := servedCount first count, asked := s.lineTable.nextOrder }
    let s := { s with port := { s.port with read := some read } }
    if s.linesDue then s.makeRead else s

/-- A FREEZE (R142, R181). A freeze of a quiet slot is carried out at once (R37). -/
def State.askFreeze (s : State) (slot : Byte) : State :=
  let c := slot.toNat
  if s.badSlot slot then s.ack 0x03 .badSlot
  else if s.hold c = .frozen || decide (c ∈ s.waitingFreezes) then s.ack 0x03 .held
  else
    let s := { s with lineTable :=
      { s.lineTable with requests := s.lineTable.requests ++ [QuietRequest.freeze c] } }
    if s.quiet c && s.firstRequest c == some (QuietRequest.freeze c) then s.makeDueReads.carryOutFreeze c else s

/-- A THAW (R146); the first merge line arrives with it (R31, R147). -/
def State.askThaw (s : State) (slot : Byte) : State :=
  let c := slot.toNat
  if s.badSlot slot then s.ack 0x04 .badSlot
  else if s.hold c != .frozen then s.ack 0x04 .notHeld
  else if s.hasShadow c then ((s.setHold c .thawing).ack 0x04 .ok).takeArrival s.candidateWaits
  else ((s.setHold c .none).post .thawDone c).ack 0x04 .ok

/-- A DISCARD (R94, R95). The BAD_SLOT answer of a FREEZE that waits for the slot stands before the OK of the DISCARD (DESIGN
CHOICE, log entry 38). -/
def State.askDiscard (s : State) (slot : Byte) : State :=
  let c := slot.toNat
  if s.badSlot slot then s.ack 0x05 .badSlot
  else if (s.record? c).any (fun r => r.state != .closed) then s.ack 0x05 .active
  else if s.hold c != .none then s.ack 0x05 .held
  else (s.releaseSlot c).ack 0x05 .ok

/-- Remove an entry from the pending set and answer it, or answer `otherwise` (R172, R173). -/
def State.answerEvent (s : State) (request : Byte) (e : Option Event) (otherwise : EventAnswer) : State :=
  match e with
  | some e => ({ s with attention := s.attention.remove e }).respond (.event request (.event e))
  | none => s.respond (.event request otherwise)

/-- A TAKE (R172). -/
def State.askTake (s : State) (level : Byte) : State :=
  let found :=
    if 1 ≤ level.toNat && level.toNat ≤ 7 then
      highestEvent s.attention.promotions (s.attention.atLevel level.toNat)
    else none
  s.answerEvent 0x06 found .spurious

/-- A POLL (R173). -/
def State.askPoll (s : State) : State :=
  s.answerEvent 0x07 (highestEvent s.attention.promotions s.attention.events) .none

/-- A SET_MASK: above 7 refused, 7 clamped to 6; the ACK carries the mask in force (R170, R179). -/
def State.askMask (s : State) (mask : Byte) : State :=
  if 7 < mask.toNat then s.respond (.ack 0x08 .badRequest (BitVec.ofNat 8 s.attention.mask))
  else
    let m := min mask.toNat 6
    ({ s with attention := { s.attention with mask := m } }).respond (.ack 0x08 .ok (BitVec.ofNat 8 m))

/-- A PROMOTE (R171). -/
def State.askPromote (s : State) (first second : Byte) : State :=
  match promotionList first.toNat second.toNat with
  | some l => ({ s with attention := { s.attention with promotions := l } }).ack 0x09 .ok
  | none => s.ack 0x09 .badKind

/-- A request of bad form (R179): the ACK echoes the kind byte, and one that answers SET_MASK carries the mask (R182). -/
def State.refuseForm (s : State) (kind : Byte) : State :=
  s.respond (.ack kind .badRequest (if kind = 0x08 then BitVec.ofNat 8 s.attention.mask else 0))

/-! ## The commands -/

/-- READ_LINES (R180). -/
def execReadLines (slot : Byte) (first : BitVec 16) (count : Byte) (s : State) : Host.Outcome State Fault Refusal :=
  .next (s.request 5 (fun s => s.askLines slot first.toNat count.toNat))

/-- READ_DIRECTORY (R97, R179). -/
def execReadDirectory (s : State) : Host.Outcome State Fault Refusal :=
  .next (s.request 1 (fun s => s.respond (.directory s.directoryReport)))

/-- FREEZE (R142, R181). -/
def execFreeze (slot : Byte) (s : State) : Host.Outcome State Fault Refusal :=
  .next (s.request 2 (fun s => (s.askFreeze slot).settle))

/-- THAW (R146). -/
def execThaw (slot : Byte) (s : State) : Host.Outcome State Fault Refusal :=
  .next (s.request 2 (fun s => (s.askThaw slot).settle))

/-- DISCARD (R94, R95). -/
def execDiscard (slot : Byte) (s : State) : Host.Outcome State Fault Refusal :=
  .next (s.request 2 (fun s => (s.askDiscard slot).settle))

/-- TAKE (R172). -/
def execTake (level : Byte) (s : State) : Host.Outcome State Fault Refusal :=
  .next (s.request 2 (fun s => s.askTake level))

/-- POLL (R173). -/
def execPoll (s : State) : Host.Outcome State Fault Refusal := .next (s.request 1 State.askPoll)

/-- SET_MASK (R170). -/
def execSetMask (mask : Byte) (s : State) : Host.Outcome State Fault Refusal :=
  .next (s.request 2 (fun s => s.askMask mask))

/-- PROMOTE (R171). -/
def execPromote (first second : Byte) (s : State) : Host.Outcome State Fault Refusal :=
  .next (s.request 3 (fun s => s.askPromote first second))

/-- STATUS (R179). -/
def execStatus (s : State) : Host.Outcome State Fault Refusal :=
  .next (s.request 1 (fun s => s.respond (.status s.statusReport)))

/-- READ_STRAPS (R166, R184). -/
def execReadStraps (s : State) : Host.Outcome State Fault Refusal :=
  .next (s.request 1 (fun s => s.respond (.straps s.config.latched s.config.settings)))

/-- RESTART (R159, R178): a warm reset with immediate release, and no response. -/
def execRestart (s : State) : Host.Outcome State Fault Refusal := .next (s.request 1 (fun s => s.warmReset.release))

/-- BAD_REQUEST (R177, R179). A message of good form is no bad request, and one of no bytes is ignored (log entry 2). -/
def execBadRequest (message : List Byte) (s : State) : Host.Outcome State Fault Refusal :=
  .next (match message with
    | [] => s.whenCan (s.config.state != .off) (fun s => s.clockOut [s.portStatus])
    | kind :: t =>
      s.whenCan (!requestFormGood (kind :: t)) (fun s => s.request (t.length + 1) (fun s => s.refuseForm kind)))

/-- READ_TRANSFER (R158, R177). A transfer of any first byte but WRITE and READ is IGNORED: zeros follow the status, and
nothing leaves the queue. A WRITE transfer is a request's own row, so this one changes nothing for its byte. -/
def execReadTransfer (clocking : Clocking) (s : State) : Host.Outcome State Fault Refusal :=
  .next (s.whenCan (s.config.state != .off) (fun s =>
    match transferOf clocking.first with
    | .read => s.readOut clocking.clocks
    | .ignored => s.clockOut (s.portStatus :: List.replicate clocking.clocks 0)
    | .write | .none => s))

end Sys2Proof.Machine
end

