-- ==== Sys2Proof/Machine/TableSteps.lean ====
section
/-!
DEFINITION. The commands that are the LINE TABLE's own steps and those that wait for it: requests carried out, writes
completed, candidates taken, reads made, and the batch queued again (chapters 2, 6 to 8).
-/
namespace Sys2Proof.Machine

/-- The slot whose split clear can be carried out now: the unit is in SPLIT WAIT, the slot is quiet, and no earlier request
for it waits (R37, R107). -/
def State.splitDue (s : State) : Option Nat :=
  if s.alignment.state = .splitWait then
    s.alignment.slot.bind (fun c =>
      if s.quiet c && s.firstRequest c == some (QuietRequest.splitClear c) then some c else none)
  else none

/-- The freeze of a slot can be carried out now: it waits, no earlier request for the slot does, and the slot is quiet (R37). -/
def State.freezeDue (s : State) (c : Nat) : Bool := s.quiet c && s.firstRequest c == some (QuietRequest.freeze c)

/-- The write in progress (R28). -/
def State.writeInProgress (s : State) : Option Write := if s.lineTable.started then s.lineTable.queue.head? else none

/-- SPLIT_CLEAR (R31, R38, R90, R108, R151). -/
def execSplitClear (s : State) : Host.Outcome State Fault Refusal :=
  .next (s.whenRunning (fun s =>
    match s.splitDue with
    | some c => ((s.makeDueReads.carryOutSplit c).takeArrival s.candidateWaits).settle
    | none => s))

/-- FREEZE_CARRIED_OUT (R39, R143, R150, R181). -/
def execFreezeCarriedOut (slot : Nat) (s : State) : Host.Outcome State Fault Refusal :=
  .next (s.whenCan (s.running && s.freezeDue slot) (fun s => (s.makeDueReads.carryOutFreeze slot).settle))

/-- COMPOSITE_WRITE_COMPLETE (R29, R88, R147, R149): the write in progress is a COMPOSITE or MERGE write. -/
def execCompositeWriteComplete (s : State) : Host.Outcome State Fault Refusal :=
  .next (s.whenRunning (fun s =>
    match s.writeInProgress with
    | some w => if w.kind = .pool then s else (s.makeDueReads.completeComposite w).settle
    | none => s))

/-- POOL_WRITE_COMPLETE (R30, R140, R141): the write in progress is a POOL write. -/
def execPoolWriteComplete (s : State) : Host.Outcome State Fault Refusal :=
  .next (s.whenRunning (fun s =>
    match s.writeInProgress with
    | some w => if w.kind = .pool then (s.makeDueReads.completePool w).settle else s
    | none => s))

/-- CANDIDATE_TAKEN (R24 to R27, R31, R35, R36, R106, R133, R144 to R148): a write queue entry is free and one waits. -/
def execCandidateTaken (s : State) : Host.Outcome State Fault Refusal :=
  .next (s.whenCan (s.running && s.writePlaceFree && s.candidateWaits) (fun s => s.takeDueSteps.takeNext.settle))

/-- READ_LINES_READ (R33, R34, R180): the pending READ_LINES waits for no write any more. -/
def execReadLinesRead (s : State) : Host.Outcome State Fault Refusal :=
  .next (s.whenCan (s.running && s.linesDue) State.makeRead)

/-- Make the snapshot of the body in a place of the body send queue (R127). -/
def State.makeSnapshot (s : State) (place : Nat) : State :=
  ({ s with fetch := { s.fetch with bodies := s.fetch.bodies.modify place (fun b =>
      { b with snapshot := some (s.snapshotOf b.slot b.line) }) } }).formSegments

/-- BODY_SNAPSHOT (R33, R59, R127, R153): the body's snapshot is not made and waits for no write any more. -/
def execBodySnapshot (place : Nat) (s : State) : Host.Outcome State Fault Refusal :=
  .next (s.whenCan (s.running && (s.fetch.bodies[place]?).any s.snapshotDue) (fun s => (s.makeSnapshot place).settle))

/-- TALLY_REQUEUE (R57, R113): a batch waits and the TALLY queue has a place. -/
def execTallyRequeue (s : State) : Host.Outcome State Fault Refusal :=
  .next (s.whenCan (s.running && s.fetch.batch.any Batch.waiting && decide (s.link.tally.length < 4))
    (fun s => s.queueBatch.settle))

end Sys2Proof.Machine
end

