-- ==== Sys2Proof/Machine/Timers.lean ====
section
/-!
DEFINITION. The commands that are timers running out, on station time (chapters 4, 5, 7). A timer that does not run does not
expire: the command then changes nothing. Station time is at the deadline at least when its timer expires (log entry 10).
-/
namespace Sys2Proof.Machine

/-! ## The roster's timers (R68, R71, R72) -/

/-- A peer is lost (R68, R86, R134). -/
def State.losePeer (s : State) (peer : Station) (deadline : Nat) : State :=
  let s := s.reach deadline
  let s := s.setRosterEntry peer { s.rosterEntry peer with state := .lost, lossDeadline := none }
  let s := (s.post .peerLost peer.val).peerLost peer
  let s := s.retireWhere (fun e => e.target == peer) true
  match Sparse.find s.fetch.contexts peer.val with
  | some c => if c.waitingSlot.isNone then s.setContext peer.val none else s
  | none => s

/-- LOSS_TIMER_EXPIRY (R68, R134). -/
def execLossTimerExpiry (peer : Station) (s : State) : Host.Outcome State Fault Refusal :=
  .next (s.whenRunning (fun s =>
    match (s.rosterEntry peer).state, (s.rosterEntry peer).lossDeadline with
    | .live, some t => (s.losePeer peer t).settle
    | _, _ => s))

/-- The HAIL that the ROSTER queues now (R72). -/
def State.hailNow (s : State) : Hail :=
  { joining := s.roster.joiningPending, width := s.config.settings.width, rate := s.config.settings.rate
    boundKey := (s.reception.binding.bind s.record?).map ChartRecord.key }

/-- Queue a HAIL and start the HAIL timer at 2 s from `expiry`, the instant at which the timer before it ran out: the regular
HAILs come 2 s, 4 s, 6 s and so on after the end of LISTEN (R71, R72). -/
def State.queueHail (s : State) (expiry : Nat) : State :=
  { s with
    link := s.link.queueHail s.hailNow
    roster := { s.roster with hailDeadline := some (expiry + Config.hailPeriod) } }

/-- The listening period ends (R71). -/
def State.endListen (s : State) (deadline : Nat) : State :=
  let s := s.reach deadline
  { s with roster := { s.roster with state := .joined, listenDeadline := none, joiningPending := true } }.queueHail deadline

/-- LISTEN_TIMER_EXPIRY (R71, R72). -/
def execListenTimerExpiry (s : State) : Host.Outcome State Fault Refusal :=
  .next (s.whenRunning (fun s =>
    match s.roster.state, s.roster.listenDeadline with
    | .listen, some t => (s.endListen t).settle
    | _, _ => s))

/-- HAIL_TIMER_EXPIRY (R72). -/
def execHailTimerExpiry (s : State) : Host.Outcome State Fault Refusal :=
  .next (s.whenRunning (fun s =>
    match s.roster.hailDeadline with
    | some t => ((s.reach t).queueHail t).settle
    | none => s))

/-! ## The directory's quiet timers (R93) -/

/-- A record's quiet timer runs out (R93). -/
def State.quietExpires (s : State) (slot deadline : Nat) : State :=
  ((s.reach deadline).modifyRecord slot (fun r => { r with quietFlag := true, quietDeadline := none })).closingTest slot

/-- QUIET_TIMER_EXPIRY (R92, R93). -/
def execQuietTimerExpiry (slot : Nat) (s : State) : Host.Outcome State Fault Refusal :=
  .next (s.whenRunning (fun s =>
    match (s.record? slot).bind ChartRecord.quietDeadline with
    | some t => (s.quietExpires slot t).settle
    | none => s))

/-! ## The fetch unit's timers -/

/-- BATCH_TIMER_EXPIRY (R113). -/
def execBatchTimerExpiry (s : State) : Host.Outcome State Fault Refusal :=
  .next (s.whenRunning (fun s =>
    match s.fetch.batch.bind Batch.deadline with
    | some t => (s.reach t).queueBatch.settle
    | none => s))

/-- A fetch entry times out: it is retired and an attempt counted (R124). -/
def State.timeOut (s : State) (e : FetchEntry) : State := s.retireAll true [e]

/-- The deadline of AWAITING_FIRST passes: the fallback is awaited where the entry names one, else the entry times out
(R121). -/
def State.firstDeadlinePasses (s : State) (e : FetchEntry) : State :=
  if e.fallback.isSome then
    s.updateFetch e { e with phase := .awaitingFallback, deadline := some (s.now + Config.responseWindow) }
  else s.timeOut e

/-- FETCH_FIRST_DEADLINE (R121). -/
def execFetchFirstDeadline (target : Station) (s : State) : Host.Outcome State Fault Refusal :=
  .next (s.whenRunning (fun s =>
    match s.fetchOf target with
    | some e =>
      match e.phase, e.deadline with
      | .awaitingFirst, some t => ((s.reach t).firstDeadlinePasses e).settle
      | _, _ => s
    | none => s))

/-- FETCH_TIMEOUT (R121, R124). -/
def execFetchTimeout (target : Station) (s : State) : Host.Outcome State Fault Refusal :=
  .next (s.whenRunning (fun s =>
    match s.fetchOf target with
    | some e =>
      match e.phase, e.deadline with
      | .awaitingFallback, some t | .receiving, some t => ((s.reach t).timeOut e).settle
      | _, _ => s
    | none => s))

/-- A slot's holder map row; a slot not in use has none. -/
def State.row? (s : State) (slot line : Nat) : Option HolderRow := (s.slot? slot).map (fun sl => sl.row line)

/-- DEFERRAL_EXPIRY (R125). -/
def execDeferralExpiry (slot line : Nat) (s : State) : Host.Outcome State Fault Refusal :=
  .next (s.whenRunning (fun s =>
    match (s.row? slot line).bind HolderRow.deferral with
    | some t => ((s.reach t).modifyRow slot line (fun r => { r with deferral := none })).settle
    | none => s))

/-- A fallback timer runs out and this station serves its requester (R128). -/
def State.fallbackExpires (s : State) (t : FallbackTimer) : State :=
  ((s.reach t.expiry).cancelTimers (fun x => x == t)).serve t.key t.line t.requester

/-- FALLBACK_TIMER_EXPIRY (R126, R128). -/
def execFallbackTimerExpiry (key : Key) (line : Nat) (s : State) : Host.Outcome State Fault Refusal :=
  .next (s.whenRunning (fun s =>
    match s.fetch.timers.find? (fun t => t.isFor key line) with
    | some t => (s.fallbackExpires t).settle
    | none => s))

end Sys2Proof.Machine
end

