-- ==== Sys2Proof/Machine/Dispatch.lean ====
section
/-!
DEFINITION. The dispatch: one arm per command, each a direct call of its meaning.
-/
namespace Sys2Proof.Machine

def exec (i : Instr) (s : State) : Host.Outcome State Fault Refusal :=
  match i with
  | .powerGoodRising => Sys2Proof.Machine.execPowerGoodRising s
  | .powerGoodFalling => Sys2Proof.Machine.execPowerGoodFalling s
  | .strapStreamRead stream => Sys2Proof.Machine.execStrapStreamRead stream s
  | .resetAsserted => Sys2Proof.Machine.execResetAsserted s
  | .resetDeasserted => Sys2Proof.Machine.execResetDeasserted s
  | .audioSample audio quadrature => Sys2Proof.Machine.execAudioSample audio quadrature s
  | .startToneConfirmed => Sys2Proof.Machine.execStartToneConfirmed s
  | .stopToneConfirmed => Sys2Proof.Machine.execStopToneConfirmed s
  | .endOfStartTone => Sys2Proof.Machine.execEndOfStartTone s
  | .searchPeriodEnd => Sys2Proof.Machine.execSearchPeriodEnd s
  | .phasingPeriodEnd => Sys2Proof.Machine.execPhasingPeriodEnd s
  | .imageLineEnd => Sys2Proof.Machine.execImageLineEnd s
  | .splitClear => Sys2Proof.Machine.execSplitClear s
  | .freezeCarriedOut slot => Sys2Proof.Machine.execFreezeCarriedOut slot s
  | .compositeWriteComplete => Sys2Proof.Machine.execCompositeWriteComplete s
  | .poolWriteComplete => Sys2Proof.Machine.execPoolWriteComplete s
  | .candidateTaken => Sys2Proof.Machine.execCandidateTaken s
  | .readLinesRead => Sys2Proof.Machine.execReadLinesRead s
  | .bodySnapshot place => Sys2Proof.Machine.execBodySnapshot place s
  | .tallyRequeue => Sys2Proof.Machine.execTallyRequeue s
  | .transmitStart => Sys2Proof.Machine.execTransmitStart s
  | .arbitrationLost bit => Sys2Proof.Machine.execArbitrationLost bit s
  | .collisionFault => Sys2Proof.Machine.execCollisionFault s
  | .frameSent => Sys2Proof.Machine.execFrameSent s
  | .receiveFrameDiscarded frame resyncDominant => Sys2Proof.Machine.execReceiveFrameDiscarded frame resyncDominant s
  | .ownNumberFrame frame => Sys2Proof.Machine.execOwnNumberFrame frame s
  | .hailReceived frame => Sys2Proof.Machine.execHailReceived frame s
  | .openReceived frame => Sys2Proof.Machine.execOpenReceived frame s
  | .closeReceived frame => Sys2Proof.Machine.execCloseReceived frame s
  | .tallyReceived frame => Sys2Proof.Machine.execTallyReceived frame s
  | .askReceived frame => Sys2Proof.Machine.execAskReceived frame s
  | .declineReceived frame => Sys2Proof.Machine.execDeclineReceived frame s
  | .bodySegmentReceived frame => Sys2Proof.Machine.execBodySegmentReceived frame s
  | .lossTimerExpiry peer => Sys2Proof.Machine.execLossTimerExpiry peer s
  | .listenTimerExpiry => Sys2Proof.Machine.execListenTimerExpiry s
  | .hailTimerExpiry => Sys2Proof.Machine.execHailTimerExpiry s
  | .quietTimerExpiry slot => Sys2Proof.Machine.execQuietTimerExpiry slot s
  | .batchTimerExpiry => Sys2Proof.Machine.execBatchTimerExpiry s
  | .fetchFirstDeadline target => Sys2Proof.Machine.execFetchFirstDeadline target s
  | .fetchTimeout target => Sys2Proof.Machine.execFetchTimeout target s
  | .deferralExpiry slot line => Sys2Proof.Machine.execDeferralExpiry slot line s
  | .fallbackTimerExpiry key line => Sys2Proof.Machine.execFallbackTimerExpiry key line s
  | .readLines slot first count => Sys2Proof.Machine.execReadLines slot first count s
  | .readDirectory => Sys2Proof.Machine.execReadDirectory s
  | .freeze slot => Sys2Proof.Machine.execFreeze slot s
  | .thaw slot => Sys2Proof.Machine.execThaw slot s
  | .discard slot => Sys2Proof.Machine.execDiscard slot s
  | .take level => Sys2Proof.Machine.execTake level s
  | .poll => Sys2Proof.Machine.execPoll s
  | .setMask mask => Sys2Proof.Machine.execSetMask mask s
  | .promote first second => Sys2Proof.Machine.execPromote first second s
  | .status => Sys2Proof.Machine.execStatus s
  | .readStraps => Sys2Proof.Machine.execReadStraps s
  | .restart => Sys2Proof.Machine.execRestart s
  | .badRequest message => Sys2Proof.Machine.execBadRequest message s
  | .readTransfer clocking => Sys2Proof.Machine.execReadTransfer clocking s
  | .lineIdle => Sys2Proof.Machine.execLineIdle s

end Sys2Proof.Machine
end

