-- ==== Sys2Proof/Machine/Step.lean ====
section
/-!
DEFINITION. One step: the command at the front of the queue, or one microsecond of station time when none waits.
-/
namespace Sys2Proof.Machine

/-- The commands that wait, `l`. -/
def State.withPending (s : State) (l : List Instr) : State := { s with pending := l }

/-- On an empty queue the block idles: 1 µs of station time passes (log entry 10), and an attempt whose byte 0 has then been
sent is in SENDING (R50). -/
def State.tick (s : State) : State := (s.elapse 1).enterSending

/-- Take the command at the front of the queue and run it with the queue's rest. -/
def step (s : State) : Host.Outcome State Fault Refusal :=
  match s.pending with
  | [] => .next s.tick
  | c :: rest => exec c (s.withPending rest)

/-- The command that a word spells is put at the front of the queue; a word that spells none changes nothing. -/
def State.withFetchWord (s : State) (nbits w : Nat) : State :=
  match decodeTableWord nbits w with
  | some c => s.withPending (c :: s.pending)
  | none => s

end Sys2Proof.Machine
end

