-- ==== Sys2Proof/WellFormed.lean ====
section
/-!
DEFINITION. Which commands are well-formed: operands as the manual says a sender may give them.

A command that is not well-formed still has a meaning (mostly none of its effect); well-formedness says what senders send.
-/
namespace Sys2Proof

/-- A valid frame whose payload `kind` accepts (R52). -/
def frameOf (kind : Machine.Payload → Bool) (frame : List Byte) : Bool :=
  (Machine.decodeFrame frame).any (fun f => kind f.payload)

/-- A chart line (R23). -/
def lineGood (n : Nat) : Bool := n ≤ Config.lastLine

/-- A slot number of some slot count (R162). -/
def slotGood (c : Nat) : Bool := c < 16

/-- A command is well-formed. -/
def Instr.wellFormed : Instr → Bool
  | .powerGoodRising | .powerGoodFalling | .strapStreamRead _ | .resetAsserted | .resetDeasserted => true
  | .audioSample _ _ | .startToneConfirmed | .stopToneConfirmed | .endOfStartTone => true
  | .searchPeriodEnd | .phasingPeriodEnd | .imageLineEnd | .splitClear => true
  | .freezeCarriedOut slot | .quietTimerExpiry slot => slotGood slot
  | .compositeWriteComplete | .poolWriteComplete | .candidateTaken | .readLinesRead | .tallyRequeue => true
  | .bodySnapshot place => place < 2
  | .transmitStart | .arbitrationLost _ | .collisionFault | .frameSent | .lineIdle => true
  | .receiveFrameDiscarded frame resyncDominant =>
    Machine.frameDiscarded frame resyncDominant
  | .ownNumberFrame frame => frameOf (fun _ => true) frame
  | .hailReceived frame => frameOf (fun p => p.frameClass = .hail) frame
  | .openReceived frame => frameOf (fun p => p.frameClass = .openClose && p.kind = 0) frame
  | .closeReceived frame => frameOf (fun p => p.frameClass = .openClose && p.kind = 1) frame
  | .tallyReceived frame => frameOf (fun p => p.frameClass = .tally) frame
  | .askReceived frame => frameOf (fun p => p.frameClass = .askDecline && p.kind = 0) frame
  | .declineReceived frame => frameOf (fun p => p.frameClass = .askDecline && p.kind = 1) frame
  | .bodySegmentReceived frame => frameOf (fun p => p.frameClass = .body) frame
  | .lossTimerExpiry _ | .listenTimerExpiry | .hailTimerExpiry | .batchTimerExpiry => true
  | .fetchFirstDeadline _ | .fetchTimeout _ => true
  | .deferralExpiry slot line => slotGood slot && lineGood line
  | .fallbackTimerExpiry _ line => lineGood line
  | .readLines _ first _ => lineGood first.toNat
  | .readDirectory | .freeze _ | .thaw _ | .discard _ | .take _ | .poll | .status | .readStraps | .restart => true
  | .setMask mask => mask.toNat ≤ 7
  | .promote _ _ => true
  | .badRequest message => !message.isEmpty && !Machine.requestFormGood message
  | .readTransfer clocking => clocking.first != 0x01

end Sys2Proof
end

