-- ==== Sys2Proof/Safety.lean ====
section
/-!
DEFINITION. What a good state is, in the manual's own terms: the bounds and relations its rules say always hold.
-/
namespace Sys2Proof.Machine

/-- Every count that the manual bounds is within its bound: the write queue (R28), the line buffers (R19), the fetch list
(R119), the fallback timers (R128), the body send queue (R126), the transmit queues (R55 to R57), the promotion list (R171)
and the mask (R169, R170). -/
structure State.WithinBounds (s : State) : Prop where
  writes : s.lineTable.queue.length ≤ 4
  buffers : s.reception.buffers.length ≤ 2
  fetches : s.fetch.fetches.length ≤ 4
  timers : s.fetch.timers.length ≤ 4
  bodies : s.fetch.bodies.length ≤ 2
  openClose : s.link.openClose.length ≤ 4
  askDecline : s.link.askDecline.length ≤ 8
  tally : s.link.tally.length ≤ 4
  promotions : s.attention.promotions.length ≤ 2
  mask : s.attention.mask ≤ 6

/-- The pending set holds at most one entry per kind and argument (R167): it stands in one strict order. -/
def State.EventsDistinct (s : State) : Prop := s.attention.events.Pairwise (fun a b => a.before b = true)

/-- Formed messages and places held together are at most four (R178). -/
def State.PlacesBounded (s : State) : Prop := s.port.queue.length + s.placesHeld ≤ 4

/-- While MUTE is set nothing is queued, no attempt is in progress, and the FETCH UNIT asks and serves nothing
(R61, R63, R136). -/
structure State.MuteIsSilent (s : State) : Prop where
  openClose : s.link.mute = true → s.link.openClose = []
  askDecline : s.link.mute = true → s.link.askDecline = []
  tally : s.link.mute = true → s.link.tally = []
  segments : s.link.mute = true → s.link.segments = []
  hail : s.link.mute = true → s.link.hail = none ∧ s.link.hailReplacement = none
  transmitter : s.link.mute = true → s.link.transmitter = .free ∧ s.link.attempt = none
  fetch : s.link.mute = true → s.fetch.fetches = [] ∧ s.fetch.timers = [] ∧ s.fetch.bodies = []

/-- The transmitter is FREE in LISTEN, and it has an attempt only while it is ARBITRATING or SENDING (R49, R50, R61). -/
structure State.TransmitterGood (s : State) : Prop where
  listen : s.roster.state = .listen → s.link.transmitter = .free
  attempt : s.link.attempt.isSome → s.link.transmitter = .arbitrating ∨ s.link.transmitter = .sending

/-- No COMPOSITE or MERGE write to a FROZEN slot is queued: while a chart is FROZEN its composite does not change
(R143, R144). -/
def State.FrozenUntouched (s : State) : Prop :=
  ∀ c, s.hold c = .frozen → ∀ w ∈ s.lineTable.queue, w.intoComposite c = false

/-- Every table keyed by numbers stands by rising keys: the slots, their entries and rows, the pool, the roster entries and
the reassembly contexts. -/
structure State.TablesOrdered (s : State) : Prop where
  slots : Sparse.Rising s.slots
  entries : ∀ p ∈ s.slots, Sparse.Rising p.2.entries
  rows : ∀ p ∈ s.slots, Sparse.Rising p.2.rows
  pool : Sparse.Rising s.pool
  peers : Sparse.Rising s.roster.peers
  contexts : Sparse.Rising s.fetch.contexts

/-- Nothing waits to be read: no READ_LINES is pending and no body is queued (R33). -/
structure State.NoReads (s : State) : Prop where
  lines : s.port.read = none
  bodies : s.fetch.bodies = []

/-- A request of the chart port or a read of it: a command that is a transfer (R177). -/
def isTransfer : Instr → Bool
  | .readLines .. | .readDirectory | .freeze _ | .thaw _ | .discard _ | .take _ | .poll | .setMask _ | .promote .. | .status
  | .readStraps | .restart | .badRequest _ | .readTransfer .. => true
  | _ => false

/-- A command of the configuration block's own inputs: power-good, the strap stream, the RESET input (chapter 9). -/
def configures : Instr → Bool
  | .powerGoodRising | .powerGoodFalling | .strapStreamRead _ | .resetAsserted | .resetDeasserted => true
  | _ => false

/-! ## What a frame carries (R51, R52) -/

/-- The checks of R52 on a payload's fields. -/
def Payload.Valid : Payload → Prop
  | .chartOpen o => o.highest ≤ Config.lastLine
  | .chartClose c => ∀ n, c.lastLine = some n → n ≤ Config.lastLine
  | .ask a => a.line ≤ Config.lastLine ∧ a.fallback ≠ some a.primary
  | .decline d => d.line ≤ Config.lastLine
  | .tally t => 1 ≤ t.entries.length ∧ t.entries.length ≤ 8 ∧ t.first + t.entries.length - 1 ≤ Config.lastLine
  | .body b =>
    b.line ≤ Config.lastLine ∧ (b.count = 8 ∨ b.count = 12 ∨ b.count = 16) ∧ b.number < b.count ∧ b.pixels.length = 64 ∧
      (match b.header with
       | some h => b.number = 0 ∧ segmentCountOf h.width = b.count
       | none => b.number ≠ 0)
  | .hail _ => True

end Sys2Proof.Machine
end

