-- ==== Sys2Proof/Certificates/Slice0/Obligations.lean ====
section
/-!
DEFINITION. The statements about the Gromal 410 model.

A completion statement says that its command answers a next state, and which: the state before with the fields that the
manual names changed, and every other field as it was.
What follows a command at once (ASKs issued, the transmitter woken) is `State.settle`; SettleIssuesAsks says what it does.
-/
open Sys2Proof Sys2Proof.Machine

/-! ## Words that several statements share -/

/-- `q` is the sequence number that the next chart this station originates takes, and `u` the state `s` with its key free (R79):
the first number from the origin sequence on whose key no record holds, or a CLOSED record of hold NONE holds, which is then
released. -/
def originates (s : State) (q : Byte) (u : State) : Prop :=
  let holder := fun (q : Byte) => s.slots.find? (fun p => p.2.record.key == { origin := s.self, sequence := q })
  let evictable := fun (p : Nat × Slot) => p.2.record.state = .closed ∧ p.2.record.hold = .none
  (∃ k < 256, q = s.originSequence + BitVec.ofNat 8 k ∧
    ∀ j < k, ∃ p, holder (s.originSequence + BitVec.ofNat 8 j) = some p ∧ ¬evictable p) ∧
  (holder q = none ∧ u = s ∨ ∃ p, holder q = some p ∧ evictable p ∧ u = s.releaseSlot p.1)

/-- The state `s` once the ALIGNMENT UNIT has taken up the record of slot `c` with key `k` and expected offset `e` (R98): it
collects for it with nothing held, and a migration that was running ends, its lines' pool entries free, the store that waits for
one gone and a write queued for one filling no entry (log entry 13). The fetches for the slot are retired with no attempt
counted, an ASK still queued being withdrawn (R60, R119). -/
def takenUp (s : State) (c : Nat) (k : Key) (e : Nat) : State :=
  let freed := s.alignment.migration.map (fun p => p.1.entry)
  let asked := s.fetch.fetches.filter (fun x => x.slot = c ∧ x.phase = .askQueued)
  { s with
    pool := s.pool.filter (fun p => !freed.contains p.1)
    lineTable := { s.lineTable with
      store := s.lineTable.store.filter (fun st => !freed.contains st.entry)
      queue := s.lineTable.queue.map (fun w => if freed.any w.intoPool then { w with stale := true } else w) }
    link := { s.link with
      askDecline := withdrawFrom (fun f => asked.any (fun x => f.isAsk x.key x.line)) (s.link.attempt = some .askDecline)
        s.link.askDecline }
    fetch := { s.fetch with fetches := s.fetch.fetches.filter (fun x => x.slot != c) }
    alignment :=
      { state := .collecting, slot := some c, key := some k, expected := e, handed := 0, provisional := [], references := []
        migration := [] } }

/-! ## The queue of commands and reset -/

/-- A step runs the command at the front of the queue with the rest of the queue. -/
def Obligations.StepRunsFrontCommand : Prop :=
  ∀ (s : State) (c : Instr) (rest : List Instr), s.pending = c :: rest → step s = exec c (s.withPending rest)

/-- The part as a cold reset begins: every block at the values that R21, R31, R44, R64, R75, R96, R110, R137, R154, R156,
R175 and R178 give, and every invariant below holds.
The clause before the last holds the fields to which no rule gives a value: station time, the settings before the strap stream is
read, and the model's own fields, at the values of log entries 1, 3, 4, 6, 9, 12 and 31 (DESIGN CHOICE). -/
def Obligations.ResetStateIsSafe : Prop :=
  let s := State.reset
  (s.config.state = .reading ∧ s.config.strapBits = 0 ∧ s.config.causes = [] ∧ s.config.pendingReset = .cold) ∧
  (s.reception.state = .search ∧ s.reception.previous = none ∧ s.reception.startRun = none ∧ s.reception.stopRun = none ∧
    s.reception.sampleCount = 0 ∧ s.reception.linePosition = 0 ∧ s.reception.lateCount = 0 ∧ s.reception.fadeCount = 0 ∧
    s.reception.ownIndex = 0 ∧ s.reception.origin = 0 ∧ s.reception.unphased = false ∧
    s.reception.phasing = { periods := 0, pulses := 0, positions := [] } ∧
    s.reception.assembler = { sums := [], envelope := 0, position := 0 } ∧ s.reception.binding = none ∧
    s.reception.buffers = []) ∧
  (s.lineTable.queue = [] ∧ s.lineTable.started = false ∧ s.lineTable.store = none ∧ s.lineTable.requests = [] ∧
    s.lineTable.lastServed = 7) ∧
  (s.slots = [] ∧ s.originSequence = 0 ∧ s.pool = [] ∧ s.memory = []) ∧
  (s.link.framing = .waitForIdle ∧ s.link.taken = [] ∧ s.link.openClose = [] ∧ s.link.askDecline = [] ∧ s.link.tally = [] ∧
    s.link.segments = [] ∧ s.link.hail = none ∧ s.link.hailReplacement = none ∧ s.link.transmitter = .free ∧
    s.link.attempt = none ∧ s.link.mute = false ∧ s.link.lowestClass = none) ∧
  (s.roster.state = .listen ∧ s.roster.hailDeadline = none ∧ s.roster.joiningPending = false ∧ s.roster.peers = []) ∧
  (s.alignment.state = .idle ∧ s.alignment.slot = none ∧ s.alignment.key = none ∧ s.alignment.handed = 0 ∧
    s.alignment.provisional = [] ∧ s.alignment.references = [] ∧ s.alignment.migration = []) ∧
  s.fetch = { batch := none, fetches := [], timers := [], bodies := [], contexts := [] } ∧
  (s.attention.events = [] ∧ s.attention.mask = 0 ∧ s.attention.promotions = []) ∧
  (s.port.transfer = .none ∧ s.port.queue = [] ∧ s.port.read = none ∧ s.waitingFreezes = [] ∧ s.placesHeld = 0 ∧
    s.attentionOutput = false ∧ s.responseReady = false) ∧
  (s.config.settings =
      { station := 0, rate := 0, width := 0, margin := 0, thresholdCode := 0, floorCode := 0, fallbackEnable := false
        bankCode := 0, depthCode := 0, slotCount := 3 } ∧
    s.pending = [] ∧ s.now = 0 ∧ s.config.latched = 0 ∧ s.config.resetPin = false ∧ s.reception.skip = 0 ∧
    s.reception.endDue = false ∧ s.reception.lastFrequency = 0 ∧ s.reception.lastEnvelope = 0 ∧ s.lineTable.nextOrder = 0 ∧
    s.link.recessive = 0 ∧ s.link.frameStart = 0 ∧ s.roster.listenDeadline = none ∧ s.alignment.expected = 0 ∧
    s.attention.thawDoneAtRelease = [] ∧ s.port.bytesTaken = 0 ∧ s.port.clockedOut = [] ∧ s.interruptedWrites = 0) ∧
  (Memory.wf s.memory ∧ s.WithinBounds ∧ s.EventsDistinct ∧ s.PlacesBounded ∧ s.MuteIsSilent ∧ s.TransmitterGood ∧
    s.FrozenUntouched ∧ s.TablesOrdered)

/-! ## Invariants that every step keeps -/

/-- Chart memory keeps its canonical form through every step. -/
def Obligations.MemoryStaysCanonical : Prop :=
  ∀ s t : State, Memory.wf s.memory → step s = .next t → Memory.wf t.memory

/-- No queue, list or count outgrows its places (R19, R28, R55 to R57, R119, R126, R128, R170, R171), and formed messages and
held places number at most four (R177, R178).
The pending set keeps at most one entry per kind and argument (R167). -/
def Obligations.BoundsAreKept : Prop :=
  (∀ s t : State, step s = .next t → (s.WithinBounds → t.WithinBounds) ∧ (s.PlacesBounded → t.PlacesBounded)) ∧
  (∀ s t : State, s.EventsDistinct → step s = .next t → t.EventsDistinct)

/-- While MUTE is set the station queues nothing, sends nothing, asks nothing and serves nothing (R61, R63, R136). -/
def Obligations.MuteStaysSilent : Prop :=
  ∀ s t : State, s.MuteIsSilent → step s = .next t → t.MuteIsSilent

/-- The transmitter is FREE throughout LISTEN and has an attempt only while it is ARBITRATING or SENDING (R49, R50, R61, R62). -/
def Obligations.TransmitterStaysGood : Prop :=
  ∀ s t : State, s.TransmitterGood → step s = .next t → t.TransmitterGood

/-- No write into the composite of a FROZEN chart is ever queued (R39, R143, R144). -/
def Obligations.FrozenStaysUntouched : Prop :=
  ∀ s t : State, s.FrozenUntouched → step s = .next t → t.FrozenUntouched

/-- The tables of slots (R77), entries (R23), rows (R115), pool entries (R139), peers (R66) and reassembly contexts (R130) list each
key once, by rising keys. The rules give the keys; the list and its rising order are the model's own representation (log
entry 42, DESIGN CHOICE), which no rule states. -/
def Obligations.TablesStayOrdered : Prop :=
  ∀ s t : State, s.TablesOrdered → step s = .next t → t.TablesOrdered

/-! ## Forms and figures -/

/-- A frame whose fields pass the checks of R52 is read back from its bytes as it was sent, whatever its kind and fields, and
a frame read from any bytes passes those checks (R46, R48, R51, R52, R183).
Bytes whose last two differ from the CRC of those before them are no frame. The CRC register starts at all ones and takes each byte
from its most significant bit on, by the polynomial 1021, with no reflection and no inversion (R48). -/
def Obligations.FramesReadBack : Prop :=
  (∀ f : Frame, f.payload.Valid → decodeFrame (encodeFrame f) = some f) ∧
  (∀ (bytes : List Byte) (f : Frame), decodeFrame bytes = some f → f.payload.Valid) ∧
  (∀ (covered : List Byte) (high low : Byte), high ++ low ≠ crc covered → decodeFrame (covered ++ [high, low]) = none) ∧
  crc [] = 0xFFFF#16 ∧
  ∀ (bytes : List Byte) (b : Byte), crc (bytes ++ [b]) = [7, 6, 5, 4, 3, 2, 1, 0].foldl
    (fun (r : BitVec 16) i => if (r.msb ^^ b.getLsbD i) then (r <<< 1) ^^^ 0x1021#16 else r <<< 1) (crc bytes)

/-- The slot count that any strap stream gives is the formula of R162 at the width in force, from 2 to 16 and at least 3 at W 1024;
the charts and the pool fit in memory; the width is the strap's unless fewer than 2 slots fit at it, and WIDTH_REDUCED then
says so. -/
def Obligations.SizingGivesTwoSlots : Prop :=
  ∀ stream : BitVec 64,
    let st := settingsOf stream
    let m := (st.bankCode + 1) * (4096 * 2 ^ st.depthCode.val) * 1024
    let size := 2048 * (widthOfCode st.width / 2)
    let pool := 512 * (widthOfCode st.width / 2)
    let strapWidth := strapCode (strapField stream 5 2) 0
    2 ≤ st.slotCount ∧ st.slotCount = min 16 ((m - pool) / size) ∧ st.slotCount * size + pool ≤ m ∧
      (widthOfCode st.width = 1024 → 3 ≤ st.slotCount) ∧
      st.width.val ≤ strapWidth.val ∧ (.widthReduced ∈ causesOf stream ↔ st.width ≠ strapWidth) ∧
      (∀ w : Code, st.width.val < w.val → w.val ≤ strapWidth.val →
        (m - 512 * (widthOfCode w / 2)) / (2048 * (widthOfCode w / 2)) < 2)

/-- The tone of a pixel is the mean of its samples, rounded half up (R3). A zone's bit in a line's fingerprint, zone 0 in bit 15, is
1 when the zone's grays sum to at least 8 × W/16 (R6).
Each pixel's gray: a valid tone's by the formula of R4, an invalid one's the gray before it, 0 before pixel 0.
A line's grade: 255 less floor(E × 192 / W) less 4 × min(B, 15), with E its invalid pixels and B its maximal runs of three or
more of them; then at most 127 with the unphased flag, and at most 63 with a mean envelope below 128 × (code + 1); it lies from
3 to 255 (R5). The same E is what the tests of R8 and R15 count.
A period's pulse position is the first pixel of its longest run of gray 3 or less, the lowest of equals, where that run is at least
floor(W / 40) long, and there is none otherwise (R11). The spread of pulse positions is the highest less the lowest (R12). -/
def Obligations.GraysAndGradesFollowTones : Prop :=
  (∀ (tones : List Nat) (i : Nat) (h : i < tones.length),
     (grays 0 tones).length = tones.length ∧
     (1400 ≤ tones[i] ∧ tones[i] ≤ 2400 →
       ((grays 0 tones).getD i 0).toNat = ((2300 - max 1500 (min tones[i] 2300)) * 15 + 400) / 800) ∧
     (¬(1400 ≤ tones[i] ∧ tones[i] ≤ 2400) →
       (grays 0 tones).getD i 0 = if i = 0 then 0 else (grays 0 tones).getD (i - 1) 0)) ∧
  (∀ s : State,
     let tones := s.lineTones
     let invalid := fun (j : Nat) => match tones[j]? with
       | some f => decide (f < 1400) || decide (2400 < f)
       | none => false
     let e := ((List.range s.width).filter invalid).length
     let b := ((List.range s.width).filter (fun j =>
       invalid j && invalid (j + 1) && invalid (j + 2) && (j == 0 || !invalid (j - 1)))).length
     let g0 := 255 - e * 192 / s.width - 4 * min b 15
     let g1 := if s.reception.unphased then min g0 127 else g0
     let belowFloor := s.reception.assembler.envelope / s.samples < 128 * (s.config.settings.floorCode + 1)
     invalidCount tones = e ∧ s.finishedLine.invalid = e ∧
       s.finishedLine.grade = (if belowFloor then min g1 63 else g1) ∧ 3 ≤ s.finishedLine.grade ∧ s.finishedLine.grade ≤ 255 ∧
       (s.reception.unphased = true → s.finishedLine.grade ≤ 127) ∧ (belowFloor → s.finishedLine.grade ≤ 63)) ∧
  (∀ s : State,
     s.lineTones.length = s.width ∧ s.finishedLine.pixels = grays 0 s.lineTones ∧
     (∀ j p, j < s.width → Sparse.find s.reception.assembler.sums j = some p → 0 < p.count →
       ∃ tone, s.lineTones[j]? = some tone ∧ 2 * p.count * tone ≤ 2 * p.total + p.count ∧
         2 * p.total + p.count < 2 * p.count * (tone + 1)) ∧
     ∀ z, z < 16 → (s.finishedLine.fingerprint.getLsbD (15 - z) = true ↔
       8 * (s.width / 16) ≤ ((List.range (s.width / 16)).map (fun i =>
         (s.finishedLine.pixels.getD (z * (s.width / 16) + i) 0).toNat)).sum)) ∧
  (∀ (p : Pixels) (w : Nat), 40 ≤ w →
     let run := fun (x n : Nat) => x + n ≤ p.length ∧ ∀ i < n, (p.getD (x + i) 0).toNat ≤ 3
     (pulsePosition p w = none ↔ ∀ x, ¬run x (w / 40)) ∧
     ∀ x, pulsePosition p w = some x ↔
       ∃ n, w / 40 ≤ n ∧ run x n ∧ ∀ x' n', run x' n' → n' < n ∨ n' = n ∧ x ≤ x') ∧
  (∀ (l : List Nat) (low high : Nat), low ∈ l → high ∈ l → (∀ x ∈ l, low ≤ x ∧ x ≤ high) → spread l = high - low)

/-- The discriminator's phase advance, found in whole numbers, is the angle of R1: θ × 12000 / 2π rounded half up, for every
vector of angle θ above −π and up to π, and 0 for a negative advance.
The frequency of a sample is that of the advance from the previous analytic sample to its own, at most 6000, and 0 with no previous
one (R1). Where either is zero there is no phase, and the frequency is a free value of 0 to 6000 (log entry 8). -/
def Obligations.FrequencyIsPhaseAdvance : Prop :=
  (∀ z : Phasor, z ≠ ⟨0, 0⟩ → (frequencyOfAdvance z : Int) =
    max 0 ⌊Complex.arg (Complex.mk (z.re : Real) (z.im : Real)) * 12000 / (2 * Real.pi) + 1 / 2⌋) ∧
  ∀ (a : Analytic) (k : Nat),
    frequencyOf none a k = 0 ∧
    ∀ p : Analytic,
      let advance : Phasor := ⟨a.re * p.re + a.im * p.im, a.im * p.re - a.re * p.im⟩
      (advance ≠ ⟨0, 0⟩ → frequencyOf (some p) a k = frequencyOfAdvance advance) ∧ frequencyOf (some p) a k ≤ 6000

/-- AUDIO_SAMPLE, with nothing of the sample before it still due: the discriminator's two values go to both tone detectors
and, while a line or period is being assembled, to pixel floor(k × W / N); the line timer and the sample count go on; nothing
else changes (R1 to R3, R7).
A detector's run begins at an in-band sample, an in-band sample returns its gap to 0, an out-of-band sample adds 1 to it, and at
1,201 an unconfirmed run is gone. A confirmation is due at the first in-band sample 36,000 or more samples after the start of an
unconfirmed run, and the end of the tone when the gap of a confirmed run reaches 1,201 (R7).
The envelope is the magnitude of the analytic sample in sample units, rounded down and capped at 32767 (R1). -/
def Obligations.AudioSampleIsTaken : Prop :=
  (∀ (s : State) (audio : BitVec 16) (quadrature : Int),
     s.config.state = .run → s.reception.anythingDue = false → ¬(s.reception.state = .image ∧ s.reception.skip = 1) →
     let r := s.reception
     let a : Analytic := { re := audio.toInt * 65536, im := quadrature }
     let f := frequencyOf r.previous a r.sampleCount
     let k := r.assembler.position
     let assembles := r.state = .search ∨ r.state = .phasing ∨ r.state = .image ∧ r.skip = 0
     let run := fun (old : Option ToneRun) (low high : Nat) => match old with
       | none => if low ≤ f ∧ f ≤ high then some { start := r.sampleCount, gap := 0, confirmed := false } else none
       | some x =>
         if low ≤ f ∧ f ≤ high then some { x with gap := 0 }
         else if 1200 ≤ x.gap ∧ x.confirmed = false then none
         else some { x with gap := x.gap + 1 }
     let confirmed := fun (old : Option ToneRun) (low high : Nat) =>
       low ≤ f ∧ f ≤ high ∧ ∃ x, old = some x ∧ x.confirmed = false ∧ x.start + 36000 ≤ r.sampleCount
     let ended := fun (old : Option ToneRun) (low high : Nat) =>
       ¬(low ≤ f ∧ f ≤ high) ∧ ∃ x, old = some x ∧ x.confirmed = true ∧ 1200 ≤ x.gap
     ∃ t assembler endDue, exec (.audioSample audio quadrature) s = .next t ∧
       t = { s with reception := { r with
         previous := some a
         startRun := run r.startRun 280 320
         stopRun := run r.stopRun 430 470
         linePosition := (r.linePosition + 1) % s.samples
         sampleCount := r.sampleCount + 1
         assembler := assembler, endDue := endDue
         skip := if r.state = .image then r.skip - 1 else r.skip
         lastFrequency := f, lastEnvelope := envelopeOf a } } ∧
       (t.reception.startDue = true ↔ confirmed r.startRun 280 320) ∧
       (t.reception.stopDue = true ↔ confirmed r.stopRun 430 470) ∧
       (ToneRun.endDue t.reception.startRun = true ↔ ended r.startRun 280 320) ∧
       (ToneRun.endDue t.reception.stopRun = true ↔ ended r.stopRun 430 470) ∧
       f ≤ 6000 ∧ (r.previous = none → f = 0) ∧
       (assembles → assembler =
         { sums := addToPixel r.assembler.sums (k * s.width / s.samples) f
           envelope := r.assembler.envelope + envelopeOf a, position := k + 1 } ∧ (endDue = true ↔ k + 1 = s.samples)) ∧
       (¬assembles → assembler = r.assembler ∧ endDue = r.endDue)) ∧
  (∀ a : Analytic,
     let square := a.re * a.re + a.im * a.im
     let e := (envelopeOf a : Int)
     e ≤ 32767 ∧ e * 65536 * (e * 65536) ≤ square ∧ (e < 32767 → square < (e + 1) * 65536 * ((e + 1) * 65536)))

/-- The places of lines and pool entries in chart memory do not overlap, and the pool follows the last slot (R163).
A line stored in chart memory reads back as its grays, in its slot or in the pool, and every other byte reads as before
(R163). -/
def Obligations.ChartMemoryHoldsLines : Prop :=
  (∀ (s : State) (c n c' n' i i' : Nat), n ≤ Config.lastLine → n' ≤ Config.lastLine →
     ((c, n) ≠ (c', n') → s.lineAddress c n + s.lineBytes ≤ s.lineAddress c' n' ∨
       s.lineAddress c' n' + s.lineBytes ≤ s.lineAddress c n) ∧
     (c < s.slotCount → s.lineAddress c n + s.lineBytes ≤ s.poolAddress i) ∧
     (i ≠ i' → s.poolAddress i + s.lineBytes ≤ s.poolAddress i' ∨ s.poolAddress i' + s.lineBytes ≤ s.poolAddress i)) ∧
  (∀ (s : State) (w : Write) (p : Pixels), w.content = some p → p.length = s.width →
     (w.kind ≠ .pool → (s.storeWrite w).readLine w.slot w.target = p) ∧
     (w.kind = .pool → (s.storeWrite w).readPool w.target = p) ∧
     ∀ a, a < s.writeAddress w ∨ s.writeAddress w + s.lineBytes ≤ a →
       Memory.readByte (s.storeWrite w).memory a = Memory.readByte s.memory a)

/-! ## What follows every command at once -/

/-- After a command ASKs are issued for eligible lines (R118), and the transmitter enters WAITING where a frame waits (R49), or
SENDING where the start bit and byte 0 of its attempt have passed (R50).
Each ASK is for the eligible line of the lowest slot and line: it names the line's key and chart line, the best holder as primary
and the fallback below, and joins the ASK queue, in a full one in place of the oldest DECLINE not in flight; its fetch joins the
list in ASK_QUEUED (R56, R118, R119). The same then goes on from there, until at most four fetches stand and no line is eligible, or
the queue drops the ASK. Nothing else changes.
A line is eligible by R117: its record is not ALIGNING, its best holder is LIVE and of a grade that the line would accept, no
fetch stands for it or for that holder, it is neither deferred nor exhausted, a fetch place is free, and MUTE is clear. A grade is
accepted from 3 up, by the replacement rule of R25 against the line's pending or committed grade, or against the higher of that
and the SHADOW entry's of a held line.
The ASK names the second holder as fallback where the strap enables it, it is LIVE and its grade would be accepted (R118). -/
def Obligations.SettleIssuesAsks : Prop :=
  ∀ s : State,
    let t := s.settle
    let live := fun (st : Station) => ∃ e, Sparse.find s.roster.peers st.val = some e ∧ e.state = .live
    let beats := fun (g r : Nat) => r < g ∧ r + s.config.settings.margin ≤ g
    let held := fun (slot line g : Nat) => ∃ n x, s.shadow? slot line = some (n, x) ∧
      (s.hold slot = .frozen ∨ s.hold slot = .thawing ∧ x.merging = false) ∧ g = x.pending.getD (x.written.getD 0)
    let accepts := fun (slot line g : Nat) =>
      let e := s.entry slot line
      let reference := e.pending.getD e.committed
      3 ≤ g ∧ (∀ x, held slot line x → beats g (max reference x)) ∧
        ((∀ x, ¬held slot line x) → (e.committed = 0 ∧ e.pending = none) ∨ beats g reference)
    let eligible := fun (slot : Nat) (r : ChartRecord) (line : Nat) (row : HolderRow) (b : Holder) =>
      (s.slot? slot).map (fun sl => (sl.record, sl.row line)) = some (r, row) ∧ r.state ≠ .aligning ∧
        row.best = some b ∧ live b.station ∧ accepts slot line b.grade ∧
        (∀ e ∈ s.fetch.fetches, ¬(e.key = r.key ∧ e.line = line) ∧ e.target ≠ b.station) ∧
        row.deferral = none ∧ row.exhausted = false ∧ s.fetch.fetches.length < 4 ∧ s.link.mute = false
    (s.TablesOrdered → ∀ slot r line row b, s.nextEligible = some (slot, r, line, row, b) ↔
      eligible slot r line row b ∧ ∀ slot' r' line' row' b', eligible slot' r' line' row' b' →
        slot < slot' ∨ slot = slot' ∧ line ≤ line') ∧
    (∀ slot line row f, s.fallbackOf slot line row = some f ↔ ∃ x, row.second = some x ∧ f = x.station ∧
      s.config.settings.fallbackEnable = true ∧ live f ∧ accepts slot line x.grade) ∧
    t = { s with
      link := { s.link with askDecline := t.link.askDecline, transmitter := t.link.transmitter }
      fetch := { s.fetch with fetches := t.fetch.fetches } } ∧
    (∃ new, t.fetch.fetches = s.fetch.fetches ++ new ∧ ∀ e ∈ new, e.phase = .askQueued ∧ e.deadline = none) ∧
    (s.fetch.fetches.length ≤ 4 → t.fetch.fetches.length ≤ 4) ∧
    (∀ slot r line row b, t.nextEligible = some (slot, r, line, row, b) → ∀ a, t.link.queueAsk a = none) ∧
    (∀ slot r line row b, s.nextEligible = some (slot, r, line, row, b) → s.link.askDecline.length < 8 →
      ∃ rest, t.fetch.fetches = s.fetch.fetches ++
        { target := b.station, fallback := s.fallbackOf slot line row, slot := slot, key := r.key, line := line
          phase := .askQueued, deadline := none } :: rest) ∧
    (∀ slot r line row b, s.nextEligible = some (slot, r, line, row, b) →
      let ask : Ask := { key := r.key, line := line, primary := b.station, fallback := s.fallbackOf slot line row }
      let fetch : FetchEntry :=
        { target := b.station, fallback := s.fallbackOf slot line row, slot := slot, key := r.key, line := line
          phase := .askQueued, deadline := none }
      let issued := fun (queue : List QueuedFrame) => State.settle { s with
        link := { s.link with askDecline := queue ++ [QueuedFrame.fresh (.ask ask)] }
        fetch := { s.fetch with fetches := s.fetch.fetches ++ [fetch] } }
      let flying := if s.link.attempt = some .askDecline then 1 else 0
      let isDecline := fun (f : QueuedFrame) => match f.payload with
        | .decline _ => true
        | _ => false
      (s.link.askDecline.length < 8 → t = issued s.link.askDecline) ∧
      (8 ≤ s.link.askDecline.length → (s.link.askDecline.drop flying).any isDecline = true →
        t = issued (s.link.askDecline.take flying ++ (s.link.askDecline.drop flying).eraseP isDecline)) ∧
      (8 ≤ s.link.askDecline.length → (s.link.askDecline.drop flying).any isDecline = false →
        t.link.askDecline = s.link.askDecline ∧ t.fetch = s.fetch)) ∧
    (s.nextEligible = none → t.link.askDecline = s.link.askDecline ∧ t.fetch = s.fetch) ∧
    t.link.transmitter =
      (if s.link.transmitter = .free ∧ s.link.mute = false ∧ s.roster.state = .joined ∧ t.link.lowestClass ≠ none then .waiting
       else if s.link.transmitter = .arbitrating ∧ s.link.frameStart + 9 ≤ s.now then .sending
       else s.link.transmitter)

/-! ## Configuration and reset (chapter 9) -/

/-- POWER_GOOD_RISING: in OFF a cold reset begins, every block at its cold-reset values, memory not cleared (R156, R164); in
another state nothing changes, which is the model's choice (log entry 2, DESIGN CHOICE).
POWER_GOOD_FALLING: from any state the part is in OFF at once with nothing of its work left (R156). That every block stands at
its cold-reset values in OFF is the model's choice (log entry 28, DESIGN CHOICE), and so is that a write in progress leaves each
byte of its target old or new (log entry 6, DESIGN CHOICE); every other byte of memory is as it was. -/
def Obligations.PowerGoodGovernsThePart : Prop :=
  (∀ s : State,
     (s.config.state = .off → exec .powerGoodRising s = .next
       { State.reset with
         pending := s.pending, now := s.now, memory := s.memory, interruptedWrites := s.interruptedWrites
         config := { Configuration.reset with state := .reading, resetPin := s.config.resetPin } }) ∧
     (s.config.state ≠ .off → exec .powerGoodRising s = .next s)) ∧
  (∀ s : State, ∃ m n,
     exec .powerGoodFalling s = .next
       { State.reset with
         pending := s.pending, now := s.now, memory := m, interruptedWrites := n
         config := { Configuration.reset with state := .off, resetPin := s.config.resetPin } } ∧
     (s.lineTable.started = false ∨ s.lineTable.queue = [] → m = s.memory) ∧
     ∀ w rest, s.lineTable.started = true → s.lineTable.queue = w :: rest →
       (∀ a, a < s.writeAddress w ∨ s.writeAddress w + (s.writeBytes w).length ≤ a →
         Memory.readByte m a = Memory.readByte s.memory a) ∧
       ∀ i (h : i < (s.writeBytes w).length),
         Memory.readByte m (s.writeAddress w + i) = Memory.readByte s.memory (s.writeAddress w + i) ∨
         Memory.readByte m (s.writeAddress w + i) = (s.writeBytes w)[i])

/-- STRAP_STREAM_READ in READING: the 64 bits are latched and the settings and fault causes formed. With RESET deasserted
the part is in RUN, LISTEN lasts 6 s, RESTARTED (cold) and one CONFIG_FAULT for each cause are posted; with RESET asserted the
part holds (R157, R160 to R162, R175). In another state nothing changes, which is the model's choice (log entry 2, DESIGN
CHOICE). -/
def Obligations.StrapStreamStartsThePart : Prop :=
  ∀ (s : State) (stream : BitVec 64),
    (s.config.state = .reading → s.config.resetPin = true →
      exec (.strapStreamRead stream) s = .next { s with config := { s.config with
        state := .holding, strapBits := 64, latched := stream, settings := settingsOf stream, causes := causesOf stream } }) ∧
    (s.config.state = .reading → s.config.resetPin = false → s.config.pendingReset = .cold →
        s.attention.thawDoneAtRelease = [] →
      ∃ events, exec (.strapStreamRead stream) s = .next { s with
        config := { s.config with
          state := .run, strapBits := 64, latched := stream, settings := settingsOf stream, causes := causesOf stream }
        roster := { s.roster with listenDeadline := some (s.now + 6000000) }
        attention := { s.attention with events := events } } ∧
      ∀ e, e ∈ events ↔ e ∈ s.attention.events ∨ e = ⟨.restarted, 0⟩ ∨ ∃ c ∈ causesOf stream, e = ⟨.configFault, c.code⟩) ∧
    (s.config.state ≠ .reading → exec (.strapStreamRead stream) s = .next s)

/-- RESET_ASSERTED in RUN: every block takes its warm-reset values and the part holds; the settings, station time, the origin
sequence, the mask and the promotions stand (R21, R41, R64, R75, R110, R137, R158, R175, R178). The release owes THAW_DONE to exactly the
THAWING slots that the reset leaves with no SHADOW entry (R149, R154, R175; the list that keeps them is the model's, log entry 9).
In another state only the input's level changes. -/
def Obligations.ResetAssertedHoldsThePart : Prop :=
  ∀ s : State,
    (s.config.state = .run → ∃ t, exec .resetAsserted s = .next t ∧
      t = { s with
        config := { s.config with state := .holding, resetPin := true, pendingReset := .warm }
        reception := Reception.reset, lineTable := LineTable.reset, link := Link.reset, roster := Roster.reset
        alignment := Alignment.reset, fetch := Fetch.reset, port := Port.reset
        attention := { s.attention with
          events := []
          thawDoneAtRelease := (s.slots.filter (fun p => p.2.record.hold = .thawing && !t.hasShadow p.1)).map Prod.fst }
        memory := t.memory, slots := t.slots, pool := t.pool, interruptedWrites := t.interruptedWrites }) ∧
    (s.config.state ≠ .run →
      exec .resetAsserted s = .next { s with config := { s.config with resetPin := true } })

/-- A warm reset keeps every chart with its lines: records are CLOSED, their key, offset, highest line and kept fields stand,
contributors are ENDED, and the records it closes take the next close orders in ascending slot order (R96); entries keep their grade, source and origin but for the one whose write was in progress, which
is torn to grade 1 (R41); rows lose only their deferrals (R137); written SHADOW entries stay, UNMERGED (R154); a thaw left
with no SHADOW entry ends, and its slot is owed a THAW_DONE at the release, and no other slot is (R149, R154, R175; log entry 9);
memory changes only where the write in progress goes (R165). -/
def Obligations.WarmResetKeepsCharts : Prop :=
  ∀ s : State, s.config.state = .run → s.TablesOrdered → ∃ t, exec .resetAsserted s = .next t ∧
    let torn := fun (w : Write) => s.lineTable.started = true ∧ s.lineTable.queue.head? = some w
    (∀ c, s.record? c = none → t.record? c = none) ∧
    (∀ c r, s.record? c = some r → ∃ r', t.record? c = some r' ∧
      r' = { r with
        state := .closed, bound := false, expected := none, ownOpen := .none, ownLinesHanded := false
        lastOpenHeard := none, lastTally := none, quietDeadline := none, quietFlag := false
        contributors := r.contributors.map (fun x => { x with ended := some (x.ended.getD .reset) })
        closeReason := if r.state = .closed then r.closeReason else some .reset
        closeOrder := if r.state = .closed then r.closeOrder
          else some (s.highestCloseOrder + 1 +
            (s.slots.filter (fun p => decide (p.1 < c) && decide (p.2.record.state ≠ .closed))).length)
        hold := if r.hold = .thawing ∧ t.hasShadow c = false then .none else r.hold }) ∧
    (∀ c, c ∈ t.attention.thawDoneAtRelease ↔ ∃ r, s.record? c = some r ∧ r.hold = .thawing ∧ t.hasShadow c = false) ∧
    (∀ c n, (s.slot? c).isSome →
      t.entry c n = { s.entry c n with
        pending := none
        committed := (t.entry c n).committed } ∧
      ((∃ w, torn w ∧ w.kind ≠ .pool ∧ w.slot = c ∧ w.target = n) → (t.entry c n).committed = 1) ∧
      ((¬∃ w, torn w ∧ w.kind ≠ .pool ∧ w.slot = c ∧ w.target = n) → (t.entry c n).committed = (s.entry c n).committed)) ∧
    (∀ c n, (t.slot? c).map (fun sl => sl.row n) = (s.slot? c).map (fun sl => { sl.row n with deferral := none })) ∧
    (∀ n e, Sparse.find t.pool n = some e ↔ ∃ e', Sparse.find s.pool n = some e' ∧ e'.kind = .shadow ∧ e'.written ≠ none ∧
      (¬∃ w, torn w ∧ w.kind = .pool ∧ w.target = n ∧ w.stale = false) ∧ e = { e' with pending := none, merging := false }) ∧
    ∀ a, (∀ w, torn w → a < s.writeAddress w ∨ s.writeAddress w + (s.writeBytes w).length ≤ a) →
      Memory.readByte t.memory a = Memory.readByte s.memory a

/-- RESET_DEASSERTED in HOLDING: the blocks are released, LISTEN lasts 6 s from now, and RESTARTED with the pending reset kind
is posted, with the CONFIG_FAULTs of a cold reset or the THAW_DONEs of a warm one (R157, R158, R175). In another state only the
input's level changes. -/
def Obligations.ResetDeassertedReleases : Prop :=
  ∀ s : State,
    (s.config.state = .holding → ∃ events, exec .resetDeasserted s = .next { s with
        config := { s.config with state := .run, resetPin := false }
        roster := { s.roster with listenDeadline := some (s.now + 6000000) }
        attention := { s.attention with events := events, thawDoneAtRelease := [] } } ∧
      ∀ e, e ∈ events ↔ e ∈ s.attention.events ∨ e = ⟨.restarted, if s.config.pendingReset = .cold then 0 else 1⟩ ∨
        (s.config.pendingReset = .cold ∧ ∃ c ∈ s.config.causes, e = ⟨.configFault, c.code⟩) ∨
        ∃ c ∈ s.attention.thawDoneAtRelease, e = ⟨.thawDone, c⟩) ∧
    (s.config.state ≠ .holding →
      exec .resetDeasserted s = .next { s with config := { s.config with resetPin := false } })

/-- RESTART taken in RUN: a warm reset with immediate release; RESTARTED (warm) is posted after the pending set was emptied,
and the response queue is empty (R159, R175, R178). What it leaves of the charts is what RESET_ASSERTED leaves. A RESET at the same
instant acts before or after it, as the commands stand; that the THAW_DONEs of the first warm reset are posted in the one order and
lost in the other is the model's choice (log entry 45, DESIGN CHOICE). -/
def Obligations.RestartReleasesAtOnce : Prop :=
  ∀ s : State, s.portReady = true → ∃ t u, exec .resetAsserted s = .next t ∧ exec .restart s = .next u ∧
    u = { t with
      config := { s.config with pendingReset := .warm }
      roster := { t.roster with listenDeadline := some (s.now + 6000000) }
      attention := { t.attention with events := u.attention.events, thawDoneAtRelease := [] }
      port := { Port.reset with clockedOut := [0x01, 0x00] } } ∧
    ∀ e, e ∈ u.attention.events ↔ e = ⟨.restarted, 1⟩ ∨ ∃ c ∈ t.attention.thawDoneAtRelease, e = ⟨.thawDone, c⟩

/-- In OFF, READING and HOLDING no command but the configuration block's own does anything: a transfer only clocks out FULL and
zeros, and in OFF not even that (R156, R158, R177). -/
def Obligations.HeldPartTakesNothing : Prop :=
  ∀ (c : Instr) (s : State), s.config.state ≠ .run → configures c = false → c.wellFormed = true →
    ∃ out, exec c s = .next { s with port := { s.port with clockedOut := out } } ∧
      (isTransfer c = false ∨ s.config.state = .off → out = s.port.clockedOut) ∧
      (isTransfer c = true → s.config.state ≠ .off → ∃ n, out = 0x02 :: List.replicate n 0)

/-! ## Reception (chapter 1) -/

/-- START_TONE_CONFIRMED in SEARCH with no record to adopt: a chart is originated in the lowest free slot, its record OPEN with
offset 0 and bound, its OPEN queued, CHART_OPENED posted, and the unit is in START TONE bound to it (R9, R77, R79, R80, R82).
With every slot in use the CLOSED record of hold NONE and the lowest close order is released first, as DiscardReleasesSlot says
of a release, and the chart is made in its slot; with no such record DIRECTORY_FULL is posted and the reception is unbound
(R78). That the sequence number is spent even then is the model's reading (log entry 19, DEDUCED). A number whose key a record holds
is skipped, or is freed by the release of that record where it is CLOSED with hold NONE (R79). The OPEN joins its queue as
AttemptStartsAndLoses says, in a full one in place of the oldest CLOSE not in flight; where it is dropped, as it is under MUTE, the
own OPEN is DONE (R54, R55, R82).
A record is adoptable when it is OPEN, not bound, without self as an ENDED contributor, and its OPEN was heard from a peer within
the last 10 s (R80), exactly 10 s ago included, which is the model's choice (log entry 17, DESIGN CHOICE).
In PHASING or IMAGE the reception ends first with NEW, as StopToneEndsReception says of an end, and the unit in SEARCH then acts on
the same confirmation as here, or as StartToneAdoptsChart says (R16). -/
def Obligations.StartToneOriginatesChart : Prop :=
  (∀ s : State, s.config.state = .run → s.reception.state = .phasing ∨ s.reception.state = .image →
     s.reception.startDue = true →
     let t := s.endReception .newStart
     exec .startToneConfirmed s = exec .startToneConfirmed t ∧
       t.config = s.config ∧ t.reception.state = .search ∧ t.reception.binding = none ∧ t.reception.startDue = true) ∧
  ∀ (s u : State) (q : Byte) (c : Nat), s.config.state = .run → s.reception.state = .search → s.reception.startDue = true →
    s.TablesOrdered →
    (∀ p ∈ s.slots, ¬(p.2.record.state = .opened ∧ p.2.record.bound = false ∧
      (∀ x ∈ p.2.record.contributors, x.station = s.self → x.ended = none) ∧
      ∃ t, p.2.record.lastOpenHeard = some t ∧ s.now ≤ t + 10000000)) →
    originates s q u →
    let key : Key := { origin := s.self, sequence := q }
    let link := fun (v : State) => v.link.queueOpenClose (.chartOpen
      { key := key, rate := s.config.settings.rate, width := s.config.settings.width, late := false, split := false
        reannounce := false, highest := 0 })
    let fresh : Slot :=
      { record :=
          { key := key, state := .opened, hold := .none, bound := true, offset := some 0, expected := none, late := false
            rate := s.config.settings.rate, contributors := [{ station := s.self, ended := none }], highest := none
            lastOwn := none, ownLinesHanded := false, ownOpen := if (link s).isSome then .queued else .done
            lastOpenHeard := none, lastTally := none
            quietDeadline := some (s.now + 32 * s.linePeriod), quietFlag := false, lastCloseReason := none
            closeReason := none, closeOrder := none }
        entries := [], rows := [] }
    let started := fun (r : Reception) (binding : Option Nat) => { r with
      state := .startTone, startRun := r.startRun.map (fun x => { x with confirmed := true })
      lateCount := 0, unphased := false, origin := 0, binding := binding }
    let originated := fun (v : State) => State.settle { v with
      originSequence := q + 1
      slots := Sparse.put v.slots c fresh
      link := (link v).getD v.link
      attention := { v.attention with events := insertEvent ⟨.chartOpened, c⟩ v.attention.events }
      reception := started v.reception (some c) }
    (u.slot? c = none → (∀ b < c, (u.slot? b).isSome) → c < s.slotCount →
      exec .startToneConfirmed s = .next (originated u)) ∧
    ((∀ b < s.slotCount, (u.slot? b).isSome) →
      (∀ r, u.record? c = some r → r.state = .closed → r.hold = .none →
        (∀ p ∈ u.slots, p.1 ≠ c → p.2.record.state = .closed → p.2.record.hold = .none →
          r.closeOrder.getD 0 < p.2.record.closeOrder.getD 0) →
        exec .startToneConfirmed s = .next (originated (u.releaseSlot c))) ∧
      ((∀ p ∈ u.slots, p.2.record.state = .closed → p.2.record.hold ≠ .none) →
        exec .startToneConfirmed s = .next (State.settle { u with
          originSequence := q + 1
          attention := { u.attention with events := insertEvent ⟨.directoryFull, 0⟩ u.attention.events }
          reception := started u.reception none })))

/-- START_TONE_CONFIRMED in SEARCH with records to adopt: of the adoptable records the one whose OPEN was heard latest becomes
bound and ALIGNING with expected offset 0, self an ACTIVE contributor, and the ALIGNMENT UNIT collects for it (R9, R80, R86,
R98). Fetches for it are retired, an ASK still queued being withdrawn, and a migration that was running ends, its lines dropped
(R60, R98, R119); that a write queued for a dropped line's pool entry fills no entry is the model's reading (log entry 13, DEDUCED).
A record is adoptable when it is OPEN, not bound, without self as an ENDED contributor, and its OPEN was heard from a peer
within the last 10 s, exactly 10 s ago included, which is the model's choice (log entry 17, DESIGN CHOICE). -/
def Obligations.StartToneAdoptsChart : Prop :=
  ∀ (s : State) (c : Nat) (r : ChartRecord) (heard : Nat), s.config.state = .run → s.reception.state = .search →
    s.reception.startDue = true → s.TablesOrdered → s.record? c = some r →
    let adoptable := fun (r : ChartRecord) (heard : Nat) => r.state = .opened ∧ r.bound = false ∧
      (∀ x ∈ r.contributors, x.station = s.self → x.ended = none) ∧ r.lastOpenHeard = some heard ∧
      s.now ≤ heard + 10000000
    adoptable r heard → (∀ p ∈ s.slots, p.1 ≠ c → ∀ h, adoptable p.2.record h → h < heard) →
    exec .startToneConfirmed s = .next (State.settle { takenUp s c r.key 0 with
      slots := Sparse.modify s.slots c (fun sl => { sl with record := { sl.record with
        state := .aligning, bound := true, expected := some 0, offset := none, ownLinesHanded := false
        contributors := contributorActive s.self sl.record.contributors } })
      reception := { s.reception with
        state := .startTone, startRun := s.reception.startRun.map (fun x => { x with confirmed := true })
        lateCount := 0, unphased := false, origin := 0, binding := some c } })

/-- STOP_TONE_CONFIRMED in PHASING or IMAGE: the line or period in progress is discarded and the unit searches again (R16, R17).
The chart of a bound reception is unbound, self ENDED by CLOSE, and a CLOSE with the reason and the last own line is queued (R86,
R91), in a full queue in place of the oldest CLOSE not in flight, else dropped there, as under MUTE, as AttemptStartsAndLoses says
(R54, R55). The end of a reception does the same for every reason (R17).
The chart of a bound reception that is still ALIGNING is abandoned as well: a waiting split clear is withdrawn, the held lines'
pool entries are freed with the stores to them cancelled or dropped, the record is OPEN with no offset, ALIGN_ABANDONED is posted
and the ALIGNMENT UNIT is idle (R90, R91, R109); that its count of lines handed and its expected offset are then 0 is the model's
choice (log entry 43, DESIGN CHOICE).
A batch that stands for the chart is then queued, as BatchIsTallied says (R91, R113). Last, the chart closes where no contributor is
ACTIVE any more, with the reason, or where the quiet flag is set, with QUIET: the next close order, no expected offset, no quiet
timer, CHART_CLOSED posted (R91, R92). -/
def Obligations.StopToneEndsReception : Prop :=
  let ended := fun (r : Reception) => { r with
    state := .search, lateCount := 0, origin := 0, unphased := false, binding := none, skip := 0, endDue := false
    assembler := { sums := [], envelope := 0, position := r.linePosition } }
  (∀ s : State, s.config.state = .run → s.reception.state = .phasing ∨ s.reception.state = .image →
     s.reception.stopDue = true →
     exec .stopToneConfirmed s = .next (State.settle (State.endReception { s with reception := { s.reception with
       stopRun := s.reception.stopRun.map (fun x => { x with confirmed := true }) } } .stop))) ∧
  ∀ (s : State) (reason : CloseReason),
    (s.reception.binding = none → s.endReception reason = { s with reception := ended s.reception }) ∧
    ∀ c r, s.reception.binding = some c → s.record? c = some r →
      let link := (s.link.queueOpenClose (.chartClose { key := r.key, reason := reason, lastLine := r.lastOwn })).getD s.link
      let closes := (∀ x ∈ r.contributors, x.station = s.self ∨ x.ended ≠ none) ∨ r.quietFlag = true
      let closed := fun (r : ChartRecord) => if closes then
          { r with
            state := .closed, expected := none, quietDeadline := none, closeOrder := some (s.highestCloseOrder + 1)
            closeReason := some (if ∀ x ∈ r.contributors, x.ended ≠ none then reason else .quiet) }
        else r
      let unbound := fun (r : ChartRecord) => { r with
        bound := false, contributors := contributorEnds s.self .close r.contributors, lastCloseReason := some reason }
      let posted := fun (events : List Event) => if closes then insertEvent ⟨.chartClosed, c⟩ events else events
      let flushed := fun (x : State) => if s.fetch.batch.any (fun b => b.slot = c) then x.queueBatch else x
      (r.state = .opened → s.endReception reason = flushed { s with
        reception := ended s.reception
        slots := Sparse.modify s.slots c (fun sl => { sl with record := closed (unbound sl.record) })
        link := link
        attention := { s.attention with events := posted s.attention.events } }) ∧
      (r.state = .aligning →
        let t := s.endReception reason
        let held := s.alignment.provisional.map HeldLine.entry
        t = flushed (State.startNext { s with
          reception := ended s.reception
          memory := t.memory, interruptedWrites := t.interruptedWrites
          lineTable := { s.lineTable with
            requests := s.lineTable.requests.filter (fun q => q != QuietRequest.splitClear c)
            store := s.lineTable.store.filter (fun st => !held.contains st.entry)
            queue := s.lineTable.queue.filter (fun w => !held.any w.intoPool)
            started := s.lineTable.started && s.lineTable.queue.head?.any (fun w => !held.any w.intoPool) }
          pool := s.pool.filter (fun p => !held.contains p.1)
          slots := Sparse.modify s.slots c (fun sl => { sl with record := closed { unbound sl.record with
            state := .opened, offset := none, expected := none } })
          link := link
          alignment :=
            { state := .idle, slot := none, key := none, expected := 0, handed := 0, provisional := [], references := []
              migration := [] }
          attention := { s.attention with
            events := posted (insertEvent ⟨.alignAbandoned, c⟩ s.attention.events) } }) ∧
        ∀ a, (∀ w, s.lineTable.started = true → s.lineTable.queue.head? = some w → held.any w.intoPool = true →
            a < s.writeAddress w ∨ s.writeAddress w + (s.writeBytes w).length ≤ a) →
          Memory.readByte t.memory a = Memory.readByte s.memory a)

/-- END_OF_START_TONE: the sample that ended the tone is sample 0 of phasing period 0, and the phasing record is cleared (R2,
R10).
SEARCH_PERIOD_END short of the eighth clear period in a row: the late-entry count grows by 1 when fewer than a quarter of
the pixels are invalid and returns to 0 otherwise (R8). At the eighth the unit enters IMAGE, unphased, at own line 0: bound to the
joinable record whose TALLY arrived latest, at expected offset L + a + 1 + k, the reception ending with LENGTH where that passes
line 2047; else to a chart of its own with the late flag, in the lowest free slot, or with every slot in use in that of the CLOSED
record of hold NONE and the lowest close order, released first, or unbound with DIRECTORY_FULL (R13, R14, R78, R81). The joined chart
is taken up, and the own chart's number found and its OPEN queued, as a start tone does it (R55, R79, R82, R98, R119). The sample positions compared are the sample counts as they
stand: the model's choice (log entry 18, DESIGN CHOICE). That the sequence number is spent even where no slot can be had is the
model's reading (log entry 19, DEDUCED).
PHASING_PERIOD_END: a pulse period adds its position to the last four and a pulseless one only counts (R11). Phasing ends at
a pulseless period after a pulse or at period 80: the origin is the last position when 8 or more pulses came and the last four
spread over at most floor(W / 64), else 0 with the unphased flag set, and image line 0 starts after ceil(origin × N / W)
samples (R2, R12). That this condition alone decides at period 80 too, where R12 also names pulses still arriving as a case of origin
0, is the model's choice (log entry 48, DESIGN CHOICE). Line 0's length is tested when it is about to start, there or after the last sample before it (R14); that the
row of that sample tests it is the model's reading (log entry 26, DEDUCED). -/
def Obligations.PeriodsAreCounted : Prop :=
  let cleared : Assembler := { sums := [], envelope := 0, position := 0 }
  let beyond := fun (s : State) (own : Nat) => ∃ c r, s.reception.binding = some c ∧ s.record? c = some r ∧
    (2047 : Int) < own + r.offset.getD (r.expected.getD 0 : Nat)
  (∀ s : State, s.config.state = .run → s.reception.state = .startTone → ToneRun.endDue s.reception.startRun = true →
     exec .endOfStartTone s = .next { s with reception := { s.reception with
       state := .phasing, startRun := none, linePosition := 1, endDue := false
       phasing := { periods := 0, pulses := 0, positions := [] }
       assembler :=
         { sums := [(0, { total := s.reception.lastFrequency, count := 1 })], envelope := s.reception.lastEnvelope
           position := 1 } } }) ∧
  (∀ s : State, s.config.state = .run → s.reception.state = .search → s.reception.endDue = true →
     let e := invalidCount s.lineTones
     let start := s.reception.sampleCount
     let joinable := fun (r : ChartRecord) => r.state = .opened ∧ r.bound = false ∧
       isEnded s.self r.contributors = false ∧ ∃ t, r.lastTally = some t ∧ start < t.sample + 4 * s.samples
     let entered := fun (binding : Option Nat) => { s.reception with
       state := .image, endDue := false, assembler := cleared, lateCount := 0, origin := 0, unphased := true
       ownIndex := 0, fadeCount := 0, skip := 0, binding := binding }
     (¬(4 * e < s.width ∧ 7 ≤ s.reception.lateCount) →
       exec .searchPeriodEnd s = .next (State.settle { s with reception := { s.reception with
         endDue := false, assembler := cleared
         lateCount := if 4 * e < s.width then s.reception.lateCount + 1 else 0 } })) ∧
     (4 * e < s.width → 7 ≤ s.reception.lateCount → s.TablesOrdered →
       (∀ c r t, s.record? c = some r → joinable r → r.lastTally = some t →
         (∀ p ∈ s.slots, p.1 ≠ c → joinable p.2.record → ∀ x, p.2.record.lastTally = some x → x.time < t.time) →
         let offset := t.lastLine + t.age + 1 + (start - t.sample) / s.samples
         let bound : State := { takenUp s c r.key offset with
           slots := Sparse.modify s.slots c (fun sl => { sl with record := { sl.record with
             state := .aligning, bound := true, expected := some offset, offset := none, ownLinesHanded := false
             late := true, contributors := contributorActive s.self sl.record.contributors } })
           reception := entered (some c) }
         (offset ≤ 2047 → exec .searchPeriodEnd s = .next bound.settle) ∧
         (2047 < offset → exec .searchPeriodEnd s = .next (bound.endReception .length).settle)) ∧
       (∀ (q : Byte) (u : State), (∀ p ∈ s.slots, ¬joinable p.2.record) → originates s q u →
         let key : Key := { origin := s.self, sequence := q }
         let link := fun (v : State) => v.link.queueOpenClose (.chartOpen
           { key := key, rate := s.config.settings.rate, width := s.config.settings.width, late := true, split := false
             reannounce := false, highest := 0 })
         let originated := fun (v : State) (c : Nat) => State.settle { v with
           originSequence := q + 1
           slots := Sparse.put v.slots c
             { record :=
                 { key := key, state := .opened, hold := .none, bound := true, offset := some 0, expected := none
                   late := true, rate := s.config.settings.rate, contributors := [{ station := s.self, ended := none }]
                   highest := none, lastOwn := none, ownLinesHanded := false
                   ownOpen := if (link s).isSome then .queued else .done, lastOpenHeard := none
                   lastTally := none, quietDeadline := some (s.now + 32 * s.linePeriod), quietFlag := false
                   lastCloseReason := none, closeReason := none, closeOrder := none }
               entries := [], rows := [] }
           link := (link v).getD v.link
           attention := { v.attention with events := insertEvent ⟨.chartOpened, c⟩ v.attention.events }
           reception := { entered (some c) with buffers := v.reception.buffers } }
         (∀ c, u.slot? c = none → (∀ b < c, (u.slot? b).isSome) → c < s.slotCount →
           exec .searchPeriodEnd s = .next (originated u c)) ∧
         ((∀ b < s.slotCount, (u.slot? b).isSome) → ∀ c r, u.record? c = some r → r.state = .closed → r.hold = .none →
           (∀ p ∈ u.slots, p.1 ≠ c → p.2.record.state = .closed → p.2.record.hold = .none →
             r.closeOrder.getD 0 < p.2.record.closeOrder.getD 0) →
           exec .searchPeriodEnd s = .next (originated (u.releaseSlot c) c)) ∧
         ((∀ b < s.slotCount, (u.slot? b).isSome) →
           (∀ p ∈ u.slots, p.2.record.state = .closed → p.2.record.hold ≠ .none) →
           exec .searchPeriodEnd s = .next (State.settle { u with
             originSequence := q + 1
             attention := { u.attention with events := insertEvent ⟨.directoryFull, 0⟩ u.attention.events }
             reception := { entered none with buffers := u.reception.buffers } }))))) ∧
  (∀ s : State, s.config.state = .run → s.reception.state = .phasing → s.reception.endDue = true →
     let ph := s.reception.phasing
     let pulse := pulsePosition (grays 0 s.lineTones) s.width
     let ph' : Phasing :=
       { periods := ph.periods + 1
         pulses := ph.pulses + (if pulse = none then 0 else 1)
         positions := match pulse with
           | none => ph.positions
           | some x => (if ph.positions.length < 4 then ph.positions else ph.positions.drop 1) ++ [x] }
     let ends := (pulse = none ∧ 1 ≤ ph.pulses) ∨ 80 ≤ ph.periods + 1
     let good := 8 ≤ ph'.pulses ∧ spread ph'.positions ≤ s.width / 64
     let origin := ph'.positions.getLast?.getD 0
     let imaged := fun (origin o : Nat) (unphased : Bool) => ({ s with reception := { s.reception with
       state := .image, endDue := false, assembler := cleared, phasing := ph'
       origin := origin, unphased := unphased, ownIndex := 0, fadeCount := 0, skip := o } } : State)
     let o := (origin * s.samples + s.width - 1) / s.width
     (¬ends → exec .phasingPeriodEnd s = .next (State.settle { s with reception := { s.reception with
       endDue := false, assembler := cleared, phasing := ph' } })) ∧
     (ends → good → ph'.positions ≠ [] → (o ≠ 0 ∨ ¬beyond s 0) →
       exec .phasingPeriodEnd s = .next (imaged origin o false).settle) ∧
     (ends → good → ph'.positions ≠ [] → o = 0 → beyond s 0 →
       exec .phasingPeriodEnd s = .next ((imaged origin 0 false).endReception .length).settle) ∧
     (ends → ¬good → ¬beyond s 0 → exec .phasingPeriodEnd s = .next (imaged 0 0 true).settle) ∧
     (ends → ¬good → beyond s 0 → exec .phasingPeriodEnd s = .next ((imaged 0 0 true).endReception .length).settle)) ∧
  (∀ (s : State) (audio : BitVec 16) (quadrature : Int), s.config.state = .run → s.reception.anythingDue = false →
     s.reception.state = .image → s.reception.skip = 1 → s.reception.ownIndex ≤ 2047 →
     let t : State := { s with reception := s.reception.sample s.width s.samples audio quadrature }
     (¬beyond s s.reception.ownIndex → exec (.audioSample audio quadrature) s = .next t.settle) ∧
     (beyond s s.reception.ownIndex → exec (.audioSample audio quadrature) s = .next (t.endReception .length).settle))

/-- IMAGE_LINE_END. The line is handed on; then the next own line follows, or the reception ends: with FADE at the 16th
faded line in a row, with LENGTH where the next line would lie beyond chart line 2047; a tone confirmed at the line's last sample
ends it with its own reason instead (R14 to R16).
An unbound reception's line is discarded (R18). The line of a reception bound to an OPEN chart, whatever its hold, is reported to
the directory and offered as a candidate: with both buffers empty, a write place free and no store waiting the LINE TABLE takes it
at once, as CandidatesAreJudged says; otherwise it joins the line buffers last, the oldest dropped if both are
full (R18, R19, R27, R31, R89). One that the replacement rule accepts for a chart not held, while nothing else waits, is queued as
a COMPOSITE write that starts at once and starts a batch (R25, R26, R28, R112). A line whose chart line is below 0 is dropped
(R18) and not reported (log entry 20, DEDUCED); the model reads the same for one above 2047 (log entry 46, DEDUCED).
The line of a chart still ALIGNING is reported without a last own line, counted, and held on the provisional list with a new
PROVISIONAL entry; its store is queued as a POOL write, or with no write place free or a store waiting takes the waiting place,
where the store that waits is dropped with its entry and line (R30, R100). With the pool full or 64 PROVISIONAL entries taken
the line is only counted, in SPLIT WAIT with 64 handed not even that. In COLLECTING the trial offsets are then evaluated
(TallyUpdatesChart); while one has fewer than six distances and fewer than 64 lines were handed nothing is decided (R89, R99, R103).
A split clear of a quiet slot and the first migrating line's taking, due at once, come in this row. That lines behind it wait
(log entry 41, DEDUCED), a write queued for a dropped store's entry fills none (log entry 13, DEDUCED) and FADE leaves the own index
unchanged (log entry 47, DESIGN CHOICE) is the model's own. -/
def Obligations.ImageLineIsHandedOn : Prop :=
  ∀ s : State, s.config.state = .run → s.reception.state = .image → s.reception.endDue = true →
    let l := s.finishedLine
    let own := s.reception.ownIndex
    let fade := if s.width < 2 * l.invalid then s.reception.fadeCount + 1 else 0
    let emptied : Reception := { s.reception with endDue := false, assembler := { sums := [], envelope := 0, position := 0 } }
    let line : Reception := { emptied with fadeCount := fade }
    let bumped := fun (x : State) => ({ x with reception := { x.reception with ownIndex := own + 1 } } : State)
    let ended := fun (nextLine : State → Int) (x : State) => State.settle (
      if s.reception.toneDue then bumped x
      else if 16 ≤ fade then x.endReception .fade
      else if 2047 < nextLine (bumped x) then (bumped x).endReception .length
      else bumped x)
    (s.reception.binding = none → s.alignment.state ≠ .splitWait →
      exec .imageLineEnd s = .next (ended (fun _ => own + 1) { s with reception := line })) ∧
    (∀ c r (d : Int), s.alignment.state ≠ .splitWait → s.reception.binding = some c → s.record? c = some r →
      r.state = .opened → r.offset = some d →
      (own + d < 0 ∨ 2047 < own + d →
        exec .imageLineEnd s = .next (ended (fun _ => own + 1 + d) { s with reception := line })) ∧
      ∀ n : Nat, (n : Int) = own + d → n ≤ 2047 → s.NoReads → s.lineTable.requests = [] →
        let report := fun (x : ChartRecord) =>
          ({ x with ownLinesHanded := true, lastOwn := some n } : ChartRecord).restartQuiet (s.now + 32 * s.linePeriod)
        let reported := Sparse.modify s.slots c (fun sl => { sl with record := report sl.record })
        let buffered : BufferedLine :=
          { slot := c, line := n, ownIndex := own, grade := l.grade, fingerprint := l.fingerprint, pixels := l.pixels }
        (s.reception.buffers ≠ [] ∨ 4 ≤ s.lineTable.queue.length ∨ s.lineTable.store ≠ none →
          exec .imageLineEnd s = .next (ended (fun _ => n + 1) { s with
            slots := reported
            reception := { line with buffers :=
              (if s.reception.buffers.length < 2 then s.reception.buffers else s.reception.buffers.drop 1) ++
                [buffered] } })) ∧
        (s.reception.buffers = [] → s.lineTable.queue.length < 4 → s.lineTable.store = none →
          let taken := State.takeCandidate { s with slots := reported, reception := emptied }
            { slot := c, line := n, grade := l.grade, source := s.self, origin := .own, width := s.width
              content := some l.pixels, fingerprint := some l.fingerprint, frees := none }
          exec .imageLineEnd s = .next (ended State.nextChartLine (State.takeArrival
            { taken with reception := { taken.reception with fadeCount := fade } } s.candidateWaits)))) ∧
    (∀ c r (d : Int) (n : Nat),
      let reported := fun (x : ChartRecord) =>
        ({ x with ownLinesHanded := true, lastOwn := some n } : ChartRecord).restartQuiet (s.now + 32 * s.linePeriod)
      let batch : Batch :=
        { slot := c, first := n, lines := [{ grade := l.grade, fingerprint := l.fingerprint }]
          deadline := some (s.now + 8 * s.linePeriod), lastTaken := s.now, waiting := false }
      let e := s.entry c n
      s.alignment.state ≠ .splitWait →
      s.reception.binding = some c → s.record? c = some r → r.state = .opened → r.offset = some d →
      (n : Int) = own + d → n ≤ 2047 → r.hold = .none →
      s.reception.buffers = [] → s.lineTable.store = none → s.lineTable.queue = [] → s.lineTable.requests = [] →
      s.lineTable.started = false → s.NoReads → s.fetch.batch = none →
      (e.committed = 0 ∧ e.pending = none ∨
        e.pending.getD e.committed < l.grade ∧ e.pending.getD e.committed + s.config.settings.margin ≤ l.grade) →
      exec .imageLineEnd s = .next (ended (fun _ => n + 1) { s with
        reception := line
        lineTable := { s.lineTable with
          queue :=
            [{ order := s.lineTable.nextOrder, kind := .composite, slot := c, target := n, grade := l.grade
               source := s.self, origin := some .own, content := some l.pixels, frees := none }]
          started := true, nextOrder := s.lineTable.nextOrder + 1 }
        slots := Sparse.modify s.slots c (fun sl =>
          ({ sl with record := reported sl.record } : Slot).setEntry n { sl.entry n with pending := some l.grade })
        fetch := { s.fetch with batch := some batch } })) ∧
    ∀ c r, s.reception.binding = some c → s.record? c = some r → r.state = .aligning → r.offset = none →
      let reported := fun (sl : Slot) => ({ sl with record :=
        ({ sl.record with ownLinesHanded := true } : ChartRecord).restartQuiet (s.now + 32 * s.linePeriod) } : Slot)
      let counted := { s.alignment with handed := s.alignment.handed + 1 }
      let provisional := (s.pool.filter (fun p => p.2.kind = .provisional)).length
      let refused : State := { s with
        reception := emptied, slots := Sparse.modify s.slots c reported, alignment := counted }
      let entry := fun (pending : Option Nat) => ({ kind := .provisional, slot := c, line := own, written := none
                                                    pending := pending, source := none, origin := none
                                                    merging := false } : PoolEntry)
      let listed := fun (n : Nat) => s.alignment.provisional ++
        [({ ownIndex := own, grade := l.grade, fingerprint := l.fingerprint, entry := n } : HeldLine)]
      let held := fun (n : Nat) => State.startNext { refused with
        pool := Sparse.put s.pool n (entry (some l.grade))
        alignment := { counted with provisional := listed n }
        lineTable := { s.lineTable with
          nextOrder := s.lineTable.nextOrder + 1
          queue := s.lineTable.queue ++
            [({ order := s.lineTable.nextOrder, kind := .pool, slot := c, target := n, grade := l.grade, source := s.self
                origin := none, content := some l.pixels, frees := none } : Write)] } }
      let waiting := fun (n : Nat) =>
        let store := some { slot := c, entry := n, grade := l.grade, pixels := l.pixels }
        match s.lineTable.store with
        | none => ({ refused with
            pool := Sparse.put s.pool n (entry none)
            alignment := { counted with provisional := listed n }
            lineTable := { s.lineTable with store := store } } : State)
        | some old => { refused with
            pool := Sparse.erase (Sparse.put s.pool n (entry none)) old.entry
            alignment := { counted with provisional := (listed n).filter (fun h => h.entry != old.entry) }
            lineTable := { s.lineTable with
              store := store
              queue := s.lineTable.queue.map (fun w => if w.intoPool old.entry then { w with stale := true } else w) } }
      let faded := fun (x : State) => ({ x with reception := { x.reception with fadeCount := fade } } : State)
      let decided := fun (x : State) => ended State.nextChartLine ((faded x.evaluate).splitAtOnce.takeArrival s.candidateWaits)
      let undecided := fun (list : List HeldLine) => s.alignment.handed < 63 ∧
        ∃ d : Int, (d - s.alignment.expected).natAbs ≤ 2 ∧
          (trialDistances s.alignThreshold list s.alignment.references d).length < 6
      (s.alignment.state = .splitWait → 64 ≤ s.alignment.handed →
        exec .imageLineEnd s = .next (decided { refused with alignment := s.alignment })) ∧
      (Sparse.Rising s.pool → s.alignment.state = .collecting ∨ s.alignment.state = .splitWait ∧ s.alignment.handed < 64 →
      (∀ n, provisional < 64 → n < 512 → Sparse.find s.pool n = none → (∀ m < n, Sparse.find s.pool m ≠ none) →
        let kept := if s.lineTable.queue.length < 4 ∧ s.lineTable.store = none then held n else waiting n
        exec .imageLineEnd s = .next (decided kept) ∧
        (s.alignment.state = .collecting → undecided kept.alignment.provisional →
          exec .imageLineEnd s = .next (ended (fun _ => own + 1 + r.expected.getD 0) (faded kept)))) ∧
      (64 ≤ provisional ∨ (∀ n < 512, Sparse.find s.pool n ≠ none) →
        exec .imageLineEnd s = .next (decided refused) ∧
        (s.alignment.state = .collecting → undecided s.alignment.provisional →
          exec .imageLineEnd s = .next (ended (fun _ => own + 1 + r.expected.getD 0) (faded refused)))))

/-! ## The line table and the holds (chapters 2 and 8) -/

/-- COMPOSITE_WRITE_COMPLETE, with no read waiting for writes: the entry takes the write's grade, source and origin, its pending grade goes
where it is that write's, LINES_IMPROVED is posted, the highest line is raised, the write leaves the queue and the next starts,
but not while a split clear or a freeze waits, which comes before it (R37);
the line reads back as the content and every byte outside it as before (R28, R29, R88, R163). A completed merge frees its shadow
entry and a completed migrating line its PROVISIONAL entry, whatever the hold (R29, R35, R147): a store that waits for the entry
goes, and that a write still queued for it fills no entry is the model's reading (log entry 13, DEDUCED). A THAWING slot left
without a SHADOW entry is thawed (R149). -/
def Obligations.CompositeWriteCompletes : Prop :=
  ∀ (s : State) (w : Write) (rest : List Write), s.config.state = .run → s.lineTable.started = true →
    s.lineTable.queue = w :: rest → s.NoReads → w.kind ≠ .pool →
    let lineTable := { s.lineTable with
      queue := rest.map (fun x => if w.frees.any x.intoPool then { x with stale := true } else x)
      store := s.lineTable.store.filter (fun st => w.frees != some st.entry)
      started := false }
    let written := fun (e : LineEntry) =>
      ({ committed := w.grade, source := some w.source, origin := w.origin
         pending := if e.pending = some w.grade then none else e.pending } : LineEntry)
    let pool := match w.frees with
      | some n => Sparse.erase s.pool n
      | none => s.pool
    let thawed := s.hold w.slot = .thawing ∧ ∀ p ∈ pool, ¬(p.2.kind = .shadow ∧ p.2.slot = w.slot)
    let slots := fun (hold : ChartRecord → Hold) => Sparse.modify s.slots w.slot (fun sl =>
      { sl.setEntry w.target (written (sl.entry w.target)) with
        record := { sl.record.raise w.target with hold := hold sl.record } })
    let improved := insertEvent ⟨.linesImproved, w.slot⟩ s.attention.events
    ∃ m, (∀ a, a < s.lineAddress w.slot w.target ∨ s.lineAddress w.slot w.target + (s.writeBytes w).length ≤ a →
        Memory.readByte m a = Memory.readByte s.memory a) ∧
      (∀ p, w.content = some p → p.length = s.width → State.readLine { s with memory := m } w.slot w.target = p) ∧
      (¬thawed → exec .compositeWriteComplete s = .next (State.settle (State.startNext { s with
        memory := m, slots := slots ChartRecord.hold, pool := pool, lineTable := lineTable
        attention := { s.attention with events := improved } }))) ∧
      (thawed → exec .compositeWriteComplete s = .next (State.settle (State.startNext { s with
        memory := m, slots := slots (fun _ => .none), pool := pool, lineTable := lineTable
        attention := { s.attention with events := insertEvent ⟨.thawDone, w.slot⟩ improved } })))

/-- POOL_WRITE_COMPLETE, with no read waiting for writes: the pool entry takes the write's grade and source, and a SHADOW entry its
origin; the pending grade goes where it is that write's; the write leaves the queue and the next starts, but not while a split clear
or a freeze waits, which comes before it (R37); no entry of a chart changes, and no byte outside the pool entry (R30, R140, R141). A
redirected migrating line frees the entry it came from (R35), and a store that waits for that entry goes. A write whose entry was
freed while it was queued sets no entry's fields: the model's choice (log entry 13, DEDUCED). -/
def Obligations.PoolWriteCompletes : Prop :=
  ∀ (s : State) (w : Write) (rest : List Write), s.config.state = .run → s.lineTable.started = true →
    s.lineTable.queue = w :: rest → s.NoReads → w.kind = .pool →
    let pool := if w.stale then s.pool else Sparse.modify s.pool w.target (fun e => { e with
      written := some w.grade, source := some w.source, origin := if e.kind = .shadow then w.origin else none
      pending := if e.pending = some w.grade then none else e.pending })
    ∃ m, (∀ a, a < s.poolAddress w.target ∨ s.poolAddress w.target + (s.writeBytes w).length ≤ a →
        Memory.readByte m a = Memory.readByte s.memory a) ∧
      (∀ p, w.content = some p → p.length = s.width → State.readPool { s with memory := m } w.target = p) ∧
      exec .poolWriteComplete s = .next (State.settle (State.startNext { s with
        memory := m
        pool := match w.frees with
          | some n => Sparse.erase pool n
          | none => pool
        lineTable := { s.lineTable with
          queue := rest.map (fun x => if w.frees.any x.intoPool then { x with stale := true } else x)
          store := s.lineTable.store.filter (fun st => w.frees != some st.entry)
          started := false } }))

/-- What taking a candidate does, as R24 to R27, R36, R144 and R145 state it: one of grade below 3 is rejected; one for the
composite, its chart not held or THAWING with the line's SHADOW entry merged or absent, is judged against the pending grade or
else the committed grade; one for a FROZEN line, or a THAWING one still UNMERGED, against the SHADOW entry's grade too. Accepted
into the composite it is queued as a COMPOSITE write mapped to W and its grade is pending; accepted for a held line it is queued
as a POOL write to the line's SHADOW entry, a new one where it has none, or dropped with SHADOW_FULL where the pool is full. An
accepted own or migrating line goes to the tally batcher. Rejected or dropped it leaves nothing behind, but that a migrating
line's pool entry is free (R35): a store waiting for it goes, and that a write still queued for it stays in the queue and fills no
entry is the model's reading (log entry 13, DEDUCED).
The next write starts only where none is in progress and no request waits; one that names a pool entry takes its content
from it then (R28, R35, R37). -/
def Obligations.CandidatesAreJudged : Prop :=
  (∀ (s : State) (c : Candidate), Sparse.Rising s.pool →
     let e := s.entry c.slot c.line
     let reference := e.pending.getD e.committed
     let empty := e.committed = 0 ∧ e.pending = none
     let beats := fun (r : Nat) => r < c.grade ∧ r + s.config.settings.margin ≤ c.grade
     let write := fun (kind : WriteKind) (target : Nat) => ({ s.lineTable with
       nextOrder := s.lineTable.nextOrder + 1
       queue := s.lineTable.queue ++
         [({ order := s.lineTable.nextOrder, kind := kind, slot := c.slot, target := target, grade := c.grade
             source := c.source, origin := some c.origin
             content := c.content.map (fun p =>
               if c.width = s.width then p else (List.range s.width).map (fun j => p.getD (j * c.width / s.width) 0))
             frees := c.frees } : Write)] } : LineTable)
     let tallied := fun (x : State) => match c.fingerprint with
       | some fp => x.tallyLine c.slot c.line c.grade fp
       | none => x
     let dropped := fun (x : State) => match c.frees with
       | none => x
       | some n => { x with
           pool := Sparse.erase x.pool n
           lineTable := { x.lineTable with
             store := x.lineTable.store.filter (fun st => st.entry != n)
             queue := x.lineTable.queue.map (fun w => if w.intoPool n then { w with stale := true } else w) } }
     (c.grade < 3 → s.takeCandidate c = dropped s) ∧
     (3 ≤ c.grade →
       s.hold c.slot = .none ∨
         s.hold c.slot = .thawing ∧ (∀ n x, s.shadow? c.slot c.line = some (n, x) → x.merging = true) →
       (empty ∨ beats reference → s.takeCandidate c =
         tallied (State.modifyEntry (State.startNext { s with lineTable := write .composite c.line }) c.slot c.line
           (fun e => { e with pending := some c.grade }))) ∧
       (¬empty → ¬beats reference → s.takeCandidate c = dropped s)) ∧
     (∀ n x, 3 ≤ c.grade → s.shadow? c.slot c.line = some (n, x) →
       s.hold c.slot = .frozen ∨ s.hold c.slot = .thawing ∧ x.merging = false →
       let higher := max reference (x.pending.getD (x.written.getD 0))
       (beats higher → s.takeCandidate c = tallied (State.startNext { s with
         pool := Sparse.modify s.pool n (fun x => { x with pending := some c.grade })
         lineTable := write .pool n })) ∧
       (¬beats higher → s.takeCandidate c = dropped s)) ∧
     (3 ≤ c.grade → s.hold c.slot = .frozen → s.shadow? c.slot c.line = none →
       (¬empty → ¬beats reference → s.takeCandidate c = dropped s) ∧
       (empty ∨ beats reference →
         (∀ n, n < 512 → Sparse.find s.pool n = none → (∀ m < n, Sparse.find s.pool m ≠ none) →
           s.takeCandidate c = tallied (State.startNext { s with
             pool := Sparse.put s.pool n
               { kind := .shadow, slot := c.slot, line := c.line, written := none, pending := some c.grade, source := none
                 origin := none, merging := false }
             lineTable := write .pool n })) ∧
         ((∀ n < 512, Sparse.find s.pool n ≠ none) →
           s.takeCandidate c = dropped { s with
             attention := { s.attention with events := insertEvent ⟨.shadowFull, c.slot⟩ s.attention.events } })))) ∧
  (∀ s : State,
     (s.lineTable.queue = [] → s.startNext = { s with lineTable := { s.lineTable with started := false } }) ∧
     ∀ w rest, s.lineTable.queue = w :: rest →
       (s.lineTable.started = true ∨ s.lineTable.requests ≠ [] → s.startNext = s) ∧
       (s.lineTable.started = false → s.lineTable.requests = [] → s.startNext = { s with lineTable := { s.lineTable with
         started := true
         queue := { w with content := match w.content, w.frees with
           | some p, _ => some p
           | none, some n => some (s.readPool n)
           | none, none => none } :: rest } }))

/-- CANDIDATE_TAKEN, with a write place free and nothing owed: the waiting provisional store is taken first, then the oldest
buffered own line, then a waiting body, its sender the first after the one last served, then the next migrating line, then the
next merge line, the UNMERGED SHADOW entry of a THAWING slot with the lowest slot and line, each as R31 orders them (R30, R31, R32, R106,
R133, R147). That the lowest slot goes first where several are THAWING is the model's choice (log entry 14, DESIGN CHOICE). What a
candidate then comes to is CandidatesAreJudged. With its last migrating line the ALIGNMENT UNIT is IDLE; that its count of lines
handed and its expected offset stand then is the model's choice (log entry 43, DESIGN CHOICE). -/
def Obligations.CandidatesAreTakenInOrder : Prop :=
  ∀ s : State, s.config.state = .run → s.lineTable.queue.length < 4 → s.NoReads → s.lineTable.requests = [] →
    let lt := s.lineTable
    let bodyWaits := fun (n : Nat) => ∃ c slot, Sparse.find s.fetch.contexts n = some c ∧ c.waitingSlot = some slot
    let merges := fun (p : Nat × PoolEntry) => p.2.kind = .shadow ∧ p.2.merging = false ∧ s.hold p.2.slot = .thawing
    (∀ st, lt.store = some st → exec .candidateTaken s = .next (State.settle (State.startNext { s with
      pool := Sparse.modify s.pool st.entry (fun e => { e with pending := some st.grade })
      lineTable := { lt with
        store := none, nextOrder := lt.nextOrder + 1
        queue := lt.queue ++
          [({ order := lt.nextOrder, kind := .pool, slot := st.slot, target := st.entry, grade := st.grade, source := s.self
              origin := none, content := some st.pixels, frees := none } : Write)] } }))) ∧
    (lt.store = none → ∀ b rest, s.reception.buffers = b :: rest →
      exec .candidateTaken s = .next (State.settle
        (State.takeCandidate { s with reception := { s.reception with buffers := rest } }
          { slot := b.slot, line := b.line, grade := b.grade, source := s.self, origin := .own, width := s.width
            content := some b.pixels, fingerprint := some b.fingerprint, frees := none }))) ∧
    (lt.store = none → s.reception.buffers = [] →
      (∀ i c slot, i < 8 → (∀ j < i, ¬bodyWaits ((lt.lastServed.val + 1 + j) % 8)) →
        Sparse.find s.fetch.contexts ((lt.lastServed.val + 1 + i) % 8) = some c → c.waitingSlot = some slot →
        let base : State := { s with
          fetch := { s.fetch with contexts := Sparse.erase s.fetch.contexts ((lt.lastServed.val + 1 + i) % 8) }
          lineTable := { lt with lastServed := Fin.ofNat 8 ((lt.lastServed.val + 1 + i) % 8) } }
        exec .candidateTaken s = .next (State.settle
          (if (s.record? slot).map ChartRecord.key = some c.key then
             base.takeCandidate
               { slot := slot, line := c.line, grade := c.grade, source := c.source, origin := .peer
                 width := widthOfCode c.width, content := some c.pixels, fingerprint := none, frees := none }
           else base))) ∧
      ((∀ n < 8, ¬bodyWaits n) →
        (∀ h target rest slot, s.alignment.state = .migrating → s.alignment.migration = (h, target) :: rest →
          s.alignment.slot = some slot →
          exec .candidateTaken s = .next (State.settle (State.settleMigration (State.takeCandidate
            { s with alignment := { s.alignment with migration := rest } }
            { slot := slot, line := target, grade := h.grade, source := s.self, origin := .own, width := s.width
              content := none, fingerprint := some h.fingerprint, frees := some h.entry })))) ∧
        (s.alignment.state ≠ .migrating → ∀ n e, (n, e) ∈ s.pool → merges (n, e) →
          (∀ p ∈ s.pool, merges p → p ≠ (n, e) → e.slot * 2048 + e.line < p.2.slot * 2048 + p.2.line) →
          exec .candidateTaken s = .next (State.settle (State.modifyEntry (State.startNext { s with
            pool := Sparse.modify s.pool n (fun e => { e with merging := true })
            lineTable := { lt with
              nextOrder := lt.nextOrder + 1
              queue := lt.queue ++
                [({ order := lt.nextOrder, kind := .merge, slot := e.slot, target := e.line, grade := e.reference
                    source := ((s.newestWrite (fun w => w.intoPool n)).map Write.source).getD
                      (e.source.getD (Config.absentSource e.line))
                    origin := some .merged, content := none, frees := some n } : Write)] } })
            e.slot e.line (fun x => { x with pending := some e.reference }))))))

/-- SPLIT_CLEAR of a quiet slot: the entries of origin PEER are emptied, the rows go,
the record takes a new key of this station, as a start tone finds it, and is OPEN with offset 0, CLOSE (split) and OPEN (split) are
queued in that order, or dropped, as AttemptStartsAndLoses says, CHART_OPENED and ALIGN_SPLIT are posted, and the held lines migrate
to the chart lines of their own indexes (R38, R55, R79, R82, R90, R108).
With writes queued, those of origin PEER to the slot's composite are cancelled, and those of any kind to an entry of origin PEER: a
cancelled MERGE leaves its SHADOW entry UNMERGED, a cancelled migrating line frees its pool entry, and each pending grade is that of
the newest write left for its line (R35, R38). Then the UNMERGED SHADOW entries of origin PEER are freed with the writes to them
cancelled, one in progress being cut short, and a thaw that this ends is ended (R149, R151). That a SHADOW entry not yet written
counts by its newest write (log entry 35, DESIGN CHOICE), and that other writes queued for a freed entry fill none (log entry 13,
DEDUCED), is the model's own.
Where no candidate waited before it the first migrating line is taken as it arrives (R31, R106); that the lines behind it wait is
the model's reading (log entry 41, DEDUCED). With no line left to move the ALIGNMENT UNIT is IDLE, and that its lines handed and
expected offset stand there is the model's choice (log entry 43, DESIGN CHOICE). -/
def Obligations.SplitClearGivesNewChart : Prop :=
  (∀ (s : State) (c : Nat) (r : ChartRecord), s.config.state = .run → s.alignment.state = .splitWait →
    s.alignment.slot = some c → s.record? c = some r → s.lineTable.queue = [] →
    s.lineTable.requests = [QuietRequest.splitClear c] → s.NoReads →
    (∀ p ∈ s.pool, ¬(p.2.kind = .shadow ∧ p.2.slot = c)) → r.hold ≠ .thawing →
    (∀ p ∈ s.slots, p.2.record.key ≠ { origin := s.self, sequence := s.originSequence }) →
    s.link.mute = false → s.link.openClose.length ≤ 2 → s.alignment.provisional ≠ [] →
    let key : Key := { origin := s.self, sequence := s.originSequence }
    let cleared := fun (sl : Slot) => (sl.entries.map (fun (p : Nat × LineEntry) => (p.1,
      if p.2.origin = some .peer then LineEntry.empty else { p.2 with pending := none }))).filter
        (fun p => p.2 != LineEntry.empty)
    let close : Payload := .chartClose { key := r.key, reason := .splitAway, lastLine := none }
    let announce : Payload := .chartOpen
      { key := key, rate := r.rate, width := s.config.settings.width, late := r.late, split := true, reannounce := false
        highest := 0 }
    let record := fun (sl : Slot) => { sl.record with
      key := key, state := .opened, offset := some 0, expected := none
      contributors := [({ station := s.self, ended := none } : Contributor)]
      lastOpenHeard := none, lastTally := none, lastCloseReason := none, ownLinesHanded := true, ownOpen := .queued
      highest := Slot.highestFilled { sl with entries := cleared sl } }
    let split : State := { s with
      originSequence := s.originSequence + 1
      lineTable := { s.lineTable with requests := [], started := false }
      slots := Sparse.modify s.slots c (fun sl => { record := record sl, entries := cleared sl, rows := [] })
      link := { s.link with openClose := s.link.openClose ++ [QueuedFrame.fresh close, QueuedFrame.fresh announce] }
      fetch := { s.fetch with timers := s.fetch.timers.filter (fun t => t.key != r.key) }
      attention := { s.attention with
        events := insertEvent ⟨.alignSplit, c⟩ (insertEvent ⟨.chartOpened, c⟩ s.attention.events) }
      alignment := { s.alignment with
        state := .migrating, provisional := [], references := []
        migration := s.alignment.provisional.map (fun h => (h, h.ownIndex)) } }
    (s.candidateWaits = true → exec .splitClear s = .next split.settle) ∧
    ∀ h rest, s.candidateWaits = false → s.alignment.provisional = h :: rest →
      exec .splitClear s = .next (State.settle (State.settleMigration (State.takeCandidate
        { split with alignment := { split.alignment with migration := rest.map (fun h => (h, h.ownIndex)) } }
        (s.migrationCandidate c h h.ownIndex))))) ∧
  ∀ (s : State) (c : Nat) (r : ChartRecord) (before after : List QuietRequest), s.config.state = .run →
    s.alignment.state = .splitWait → s.alignment.slot = some c → s.record? c = some r → r.state = .aligning →
    s.lineTable.requests = before ++ QuietRequest.splitClear c :: after →
    QuietRequest.splitClear c ∉ before → QuietRequest.freeze c ∉ before →
    (∀ w rest, s.lineTable.queue = w :: rest → s.lineTable.started = true → w.kind = .pool ∨ w.slot ≠ c) → s.NoReads →
    s.TablesOrdered →
    let lt := s.lineTable
    let cancelled := fun (w : Write) => decide (w.kind ≠ .pool ∧ w.slot = c ∧
      (w.kind = .composite ∧ w.origin = some .peer ∨ (s.entry c w.target).origin = some .peer))
    let kept := lt.queue.filter (fun w => !cancelled w)
    let frees := fun (merge : Bool) (n : Nat) =>
      lt.queue.any (fun w => cancelled w && (w.kind == .merge) == merge && w.frees == some n)
    let queue := kept.map (fun w =>
      if w.kind = .pool ∧ frees false w.target = true then { w with stale := true } else w)
    let cleared := fun (sl : Slot) => (sl.entries.map (fun (p : Nat × LineEntry) => (p.1,
      { (if p.2.origin = some .peer then LineEntry.empty else p.2) with
        pending := ((kept.filter (fun w => w.kind ≠ .pool ∧ w.slot = c ∧ w.target = p.1)).getLast?).map
          Write.grade }))).filter (fun p => p.2 != LineEntry.empty)
    let lines := (s.pool.filter (fun p => !frees false p.1)).map (fun (p : Nat × PoolEntry) =>
      (p.1, if frees true p.1 then { p.2 with merging := false } else p.2))
    let shadow := fun (p : Nat × PoolEntry) => p.2.kind = .shadow ∧ p.2.slot = c ∧ p.2.merging = false ∧
      (p.2.origin = some .peer ∨ p.2.origin = none ∧
        ((queue.filter (fun w => w.intoPool p.1)).getLast?).bind Write.origin = some .peer)
    let dropped := fun (n : Nat) => lines.any (fun p => p.1 == n && decide (shadow p))
    let pool := lines.filter (fun p => !dropped p.1)
    let thawed := r.hold = .thawing ∧ ∀ p ∈ pool, ¬(p.2.kind = .shadow ∧ p.2.slot = c)
    let intoDropped := fun (w : Write) => w.kind == .pool && !w.stale && dropped w.target
    ∃ m i,
      (∀ a, (∀ w, lt.started = true → lt.queue.head? = some w → intoDropped w = true →
          a < s.writeAddress w ∨ s.writeAddress w + (s.writeBytes w).length ≤ a) →
        Memory.readByte m a = Memory.readByte s.memory a) ∧
      let x : State := { s with
        memory := m, interruptedWrites := i, pool := pool
        lineTable := { lt with
          requests := lt.requests.filter (fun y => y != QuietRequest.splitClear c)
          queue := queue.filter (fun w => !intoDropped w)
          started := lt.started && lt.queue.head?.any (fun w => !intoDropped w)
          store := lt.store.filter (fun st => !frees false st.entry && !dropped st.entry) }
        slots := Sparse.modify s.slots c (fun sl =>
          { record := { sl.record with hold := if thawed then .none else sl.record.hold }
            entries := cleared sl, rows := [] })
        fetch := { s.fetch with timers := s.fetch.timers.filter (fun t => t.key != r.key) }
        attention := { s.attention with
          events := if thawed then insertEvent ⟨.thawDone, c⟩ s.attention.events else s.attention.events } }
      ∀ (q : Byte) (u : State), originates x q u →
      let key : Key := { origin := s.self, sequence := q }
      let closed := (u.link.queueOpenClose (.chartClose
        { key := r.key, reason := .splitAway, lastLine := none })).getD u.link
      let opened := closed.queueOpenClose (.chartOpen
        { key := key, rate := r.rate, width := s.config.settings.width, late := r.late, split := true, reannounce := false
          highest := 0 })
      exec .splitClear s = .next (State.settle (State.takeArrival (State.startNext { u with
        originSequence := q + 1
        slots := Sparse.modify u.slots c (fun sl => { sl with record := { sl.record with
          key := key, state := .opened, offset := some 0, expected := none
          contributors := [({ station := s.self, ended := none } : Contributor)]
          lastOpenHeard := none, lastTally := none, lastCloseReason := none, ownLinesHanded := true
          ownOpen := if opened.isSome then .queued else .done, highest := sl.highestFilled } })
        link := opened.getD closed
        attention := { u.attention with
          events := insertEvent ⟨.alignSplit, c⟩ (insertEvent ⟨.chartOpened, c⟩ u.attention.events) }
        alignment := { s.alignment with
          state := if s.alignment.provisional = [] then .idle else .migrating
          slot := if s.alignment.provisional = [] then none else some c
          key := if s.alignment.provisional = [] then none else s.alignment.key
          provisional := [], references := []
          migration := s.alignment.provisional.map (fun h => (h, h.ownIndex)) } }) s.candidateWaits))

/-- FREEZE_CARRIED_OUT of a quiet slot whose freeze waits: its pending grades become absent, the queued writes are gone through in
their order, the hold is FROZEN and the answer joins the response queue (R39, R143, R181). With no write into its composite queued
the queue stands.
One write gone through: a POOL write, or one of another slot, keeps its place. A MERGE write is cancelled and its SHADOW entry is
UNMERGED again. A COMPOSITE write that beats the committed grade, and the line's SHADOW entry where it has one, becomes a POOL
write in its place, to that entry or to a new one; one that loses is cancelled, and so, with SHADOW_FULL, is one that finds the
pool full; with either a migrating line's pool entry is free (R35, R39, R143 to R145): a store waiting for it goes, and that a
write queued for it fills no entry is the model's reading (log entry 13, DEDUCED). -/
def Obligations.FreezeIsCarriedOut : Prop :=
  (∀ (s : State) (c : Nat), s.config.state = .run → s.lineTable.requests = [QuietRequest.freeze c] →
     s.quiet c = true → s.NoReads →
     let entries := fun (sl : Slot) =>
       (sl.entries.map (fun (q : Nat × LineEntry) => (q.1, { q.2 with pending := none }))).filter
         (fun q => q.2 != LineEntry.empty)
     let frozen := fun (x : State) => State.settle (State.startNext { x with
       slots := Sparse.modify x.slots c (fun sl => { sl with record := { sl.record with hold := .frozen } })
       port := { x.port with queue := x.port.queue ++ [.ack 0x03 .ok 0x00] } })
     let start : State := { s with
       slots := Sparse.modify s.slots c (fun sl => { sl with entries := entries sl })
       lineTable := { s.lineTable with requests := [], queue := [] } }
     exec (.freezeCarriedOut c) s = .next (frozen (s.lineTable.queue.foldl (fun x w => x.redirectWrite c w) start)) ∧
     ((∀ w ∈ s.lineTable.queue, w.kind = .pool ∨ w.slot ≠ c) →
       exec (.freezeCarriedOut c) s = .next (frozen { start with
         lineTable := { s.lineTable with requests := [] } }))) ∧
  ∀ (x : State) (c : Nat) (w : Write), Sparse.Rising x.pool →
    let e := x.entry c w.target
    let empty := e.committed = 0 ∧ e.pending = none
    let reference := e.pending.getD e.committed
    let beats := fun (r : Nat) => r < w.grade ∧ r + x.config.settings.margin ≤ w.grade
    let kept := fun (w : Write) => ({ x.lineTable with queue := x.lineTable.queue ++ [w] } : LineTable)
    let cancelled := fun (x : State) => match w.frees with
      | none => x
      | some n => { x with
          pool := Sparse.erase x.pool n
          lineTable := { x.lineTable with
            store := x.lineTable.store.filter (fun st => st.entry != n)
            queue := x.lineTable.queue.map (fun w => if w.intoPool n then { w with stale := true } else w) } }
    (w.kind = .pool ∨ w.slot ≠ c → x.redirectWrite c w = { x with lineTable := kept w }) ∧
    (w.kind = .merge → w.slot = c → x.redirectWrite c w = { x with pool := match w.frees with
      | some n => Sparse.modify x.pool n (fun p => { p with merging := false })
      | none => x.pool }) ∧
    (w.kind = .composite → w.slot = c → 1 ≤ w.grade →
      (∀ n p, x.shadow? c w.target = some (n, p) →
        let higher := max reference (p.pending.getD (p.written.getD 0))
        (beats higher → x.redirectWrite c w = { x with
          pool := Sparse.modify x.pool n (fun p => { p with pending := some w.grade })
          lineTable := kept { w with kind := .pool, target := n } }) ∧
        (¬beats higher → x.redirectWrite c w = cancelled x)) ∧
      (x.shadow? c w.target = none →
        (¬empty → ¬beats reference → x.redirectWrite c w = cancelled x) ∧
        (empty ∨ beats reference →
          (∀ n, n < 512 → Sparse.find x.pool n = none → (∀ m < n, Sparse.find x.pool m ≠ none) →
            x.redirectWrite c w = { x with
              pool := Sparse.put x.pool n
                { kind := .shadow, slot := c, line := w.target, written := none, pending := some w.grade, source := none
                  origin := none, merging := false }
              lineTable := kept { w with kind := .pool, target := n } }) ∧
          ((∀ n < 512, Sparse.find x.pool n ≠ none) → x.redirectWrite c w = cancelled { x with
            attention := { x.attention with events := insertEvent ⟨.shadowFull, c⟩ x.attention.events } }))))

/-! ## Reads, snapshots and tallies (chapters 2 and 7) -/

/-- READ_LINES: refused with BAD_REQUEST, BUSY_READ or, as a LINES response, BAD_SLOT; otherwise it is pending until no write to
its slot queued before it stands, at once or at READ_LINES_READ, and its LINES response then gives 1 to 16 lines up to line 2047
with their grades, held flags, sources, origins and pixels (R33, R34, R179, R180). -/
def Obligations.ReadLinesAnswersLines : Prop :=
  ∀ (s : State) (slot : Byte) (first : BitVec 16) (count : Byte),
    let c := slot.toNat
    let n := min (max 1 (min count.toNat 16)) (2048 - first.toNat)
    let item := fun (i : Nat) =>
      ({ line := first.toNat + i, grade := (s.entry c (first.toNat + i)).committed
         held := s.pool.any (fun p => p.2.kind = .shadow && p.2.slot = c && p.2.line = first.toNat + i)
         source := (s.entry c (first.toNat + i)).source, origin := (s.entry c (first.toNat + i)).origin
         pixels := s.readLine c (first.toNat + i) } : LineItem)
    let answered := fun (read : Option PendingRead) (answers : List Response) =>
      ({ s with port := { s.port with
        read := read, queue := s.port.queue ++ answers, clockedOut := [0x01, 0, 0, 0, 0, 0] } } : State)
    (s.portReady = true → exec (.readLines slot first count) s = .next
      (if 2047 < first.toNat then answered s.port.read [.ack 0x01 .badRequest 0]
       else if s.port.read.isSome then answered s.port.read [.ack 0x01 .busyRead 0]
       else if s.slotCount ≤ c ∨ s.slot? c = none then answered none [.lines .badSlot slot first.toNat []]
       else if s.lineTable.queue.any (fun w => w.slot = c && w.order < s.lineTable.nextOrder) then
         answered (some { slot := c, first := first.toNat, count := n, asked := s.lineTable.nextOrder }) []
       else answered none [.lines .ok slot first.toNat ((List.range n).map item)])) ∧
    ∀ asked, s.config.state = .run → s.port.read = some { slot := c, first := first.toNat, count := n, asked := asked } →
      (∀ w ∈ s.lineTable.queue, w.slot = c → asked ≤ w.order) →
      exec .readLinesRead s = .next { s with port := { s.port with
        read := none, queue := s.port.queue ++ [.lines .ok slot first.toNat ((List.range n).map item)] } }

/-- BODY_SNAPSHOT, once no write queued before the body was asked for stands for its slot: the snapshot is the composite's grade,
source and pixels, or those of the written SHADOW entry of a held chart's line; the head body's segments are formed and queued,
another body keeps its snapshot until it is the head (R33, R59, R127, R153).
The segments of a body: W/128 of them, numbered from 0, each with 64 pixel bytes, the end mark on the last, the header on
segment 0; together their pixels are the snapshot's W grays in order (R51, R59, R127). -/
def Obligations.BodySnapshotIsMade : Prop :=
  (∀ (s : State) (b : SendBody), s.config.state = .run → b.snapshot = none → b.formed = false →
     (∀ w ∈ s.lineTable.queue, w.slot = b.slot → b.asked ≤ w.order) →
     let composite : Snapshot :=
       { grade := (s.entry b.slot b.line).committed, source := (s.entry b.slot b.line).source
         pixels := s.readLine b.slot b.line }
     ∃ snap, ((s.hold b.slot = .none ∨ s.shadow? b.slot b.line = none) → snap = composite) ∧
       (∀ n e, s.hold b.slot ≠ .none → s.shadow? b.slot b.line = some (n, e) →
         snap = match e.written with
           | some g => { grade := g, source := e.source, pixels := s.readPool n }
           | none => composite) ∧
       (∀ rest, s.fetch.bodies = b :: rest → exec (.bodySnapshot 0) s = .next (State.settle { s with
         fetch := { s.fetch with bodies := { b with snapshot := some snap, formed := true } :: rest }
         link := { s.link with segments := s.link.segments ++
           (bodySegments b snap s.config.settings.width).map (fun g => QueuedFrame.fresh (.body g)) } })) ∧
       ∀ head rest, s.fetch.bodies = head :: b :: rest → (head.snapshot = none ∨ head.formed = true) →
         exec (.bodySnapshot 1) s = .next (State.settle { s with
           fetch := { s.fetch with bodies := head :: { b with snapshot := some snap } :: rest } })) ∧
  (∀ (b : SendBody) (snap : Snapshot) (width : Code), snap.pixels.length = widthOfCode width →
     let segments := bodySegments b snap width
     segments.length = widthOfCode width / 128 ∧
     (segments.flatMap (fun g => unpackGrays g.pixels)) = snap.pixels ∧
     ∀ i (h : i < segments.length),
       segments[i].key = b.key ∧ segments[i].line = b.line ∧ segments[i].number = i ∧
       segments[i].count = segments.length ∧ segments[i].pixels.length = 64 ∧
       (segments[i].endMark = true ↔ i + 1 = segments.length) ∧
       segments[i].header = if i = 0 then
           some
             { grade := BitVec.ofNat 8 snap.grade, source := snap.source.getD (Config.absentSource b.line), width := width
               requester := b.requester }
         else none)

/-- A batch is queued as a TALLY: its key, first line and entries, and the whole line periods since its last line was taken, 7 at
most, as its age; with the TALLY queue full it waits, and under MUTE it is dropped (R57, R113, R114). TALLY_REQUEUE queues a waiting
batch again, BATCH_TIMER_EXPIRY one whose timer runs out.
An accepted own line starts a batch where none stands, with the timer at 8 line periods. While the batch collects, the next line of
its slot joins it, and the eighth line queues it; another line first queues it, and starts a new batch where it left, else is not
tallied. While the batch waits, the next line of its slot joins it short of eight, and no other line is tallied (R112, R113). A
timer's command acts at its deadline, which station time reaches with it: the model's choice (log entry 10, DESIGN CHOICE). -/
def Obligations.BatchIsTallied : Prop :=
  (∀ (s : State) (slot line grade : Nat) (fp : Fingerprint),
     let x : BatchLine := { grade := grade, fingerprint := fp }
     let new : Batch :=
       { slot := slot, first := line, lines := [x], deadline := some (s.now + 8 * s.linePeriod), lastTaken := s.now
         waiting := false }
     let started := fun (t : State) => ({ t with fetch := { t.fetch with batch := some new } } : State)
     (s.fetch.batch = none → s.tallyLine slot line grade fp = started s) ∧
     ∀ b, s.fetch.batch = some b →
       let next := b.slot = slot ∧ line = b.first + b.lines.length
       let more := { b with lines := b.lines ++ [x], lastTaken := s.now }
       let joined : State := { s with fetch := { s.fetch with batch := some more } }
       (b.waiting = true → s.tallyLine slot line grade fp = if next ∧ b.lines.length < 8 then joined else s) ∧
       (b.waiting = false → next →
         s.tallyLine slot line grade fp = if b.lines.length = 7 then joined.queueBatch else joined) ∧
       (b.waiting = false → ¬next →
         (s.queueBatch.fetch.batch = none → s.tallyLine slot line grade fp = started s.queueBatch) ∧
         (s.queueBatch.fetch.batch ≠ none → s.tallyLine slot line grade fp = s.queueBatch))) ∧
  ∀ (s : State) (b : Batch) (r : ChartRecord), s.fetch.batch = some b → s.record? b.slot = some r →
    let tally := fun (now : Nat) => QueuedFrame.fresh (.tally
      { key := r.key, first := b.first, age := Fin.ofNat 8 (min 7 ((now - b.lastTaken) / s.linePeriod))
        entries := b.lines.map (fun l => { grade := BitVec.ofNat 8 l.grade, fingerprint := l.fingerprint }) })
    let sent := fun (now : Nat) => ({ s with
      now := now, link := { s.link with tally := s.link.tally ++ [tally now] }
      fetch := { s.fetch with batch := none } } : State)
    (s.link.mute = false → s.link.tally.length < 4 → s.queueBatch = sent s.now) ∧
    (s.link.mute = false → 4 ≤ s.link.tally.length → s.queueBatch = { s with
      fetch := { s.fetch with batch := some { b with waiting := true, deadline := none } } }) ∧
    (s.link.mute = true → s.queueBatch = { s with fetch := { s.fetch with batch := none } }) ∧
    (s.config.state = .run → b.waiting = true → s.link.tally.length < 4 →
      exec .tallyRequeue s = .next (State.settle s.queueBatch)) ∧
    ∀ t, s.config.state = .run → b.deadline = some t →
      (s.link.mute = false → s.link.tally.length < 4 →
        exec .batchTimerExpiry s = .next (sent (max s.now t)).settle) ∧
      (s.link.mute = false → 4 ≤ s.link.tally.length →
        exec .batchTimerExpiry s = .next (State.settle { s with
          now := max s.now t, fetch := { s.fetch with batch := some { b with waiting := true, deadline := none } } })) ∧
      (s.link.mute = true → exec .batchTimerExpiry s = .next (State.settle { s with
        now := max s.now t, fetch := { s.fetch with batch := none } }))

/-! ## The station link (chapter 3) -/

/-- TRANSMIT_START on an idle line: the oldest frame of the lowest waiting class is on the line as the attempt (R49, R61); with
none waiting any more the transmitter returns to FREE.
While the attempt is ARBITRATING each idle step lets 1 µs pass, the model's choice (log entry 10, DESIGN CHOICE); once the start
bit and the 8 bits of byte 0 have passed the transmitter is SENDING, and arbitration is not lost any more (R46, R50).
ARBITRATION_LOST at a recessive bit of byte 0 that has not passed: the transmitter is FREE, and the frame
stays at the head of its queue with its fault count, unless it was withdrawn in flight (R50, R60). R50 makes it FREE at once; that
station time stands at the end of that bit then is the model's choice (log entry 32, DESIGN CHOICE), and so is that the command
changes nothing while SENDING (log entry 2, DESIGN CHOICE). A lost HAIL gives way to its replacement (R58).
The queues: under MUTE nothing joins (R54). An OPEN or CLOSE joins the tail of its queue of 4, and an ASK of its queue of 8; in a
full one it takes the tail in place of the oldest CLOSE or DECLINE that is not in flight, and without one it is dropped (R55, R56). A
frame that is withdrawn leaves its queue, and one in flight stays there marked withdrawn: an ASK by its key and line, an own OPEN by
its key with the re-announce flag clear (R60). -/
def Obligations.AttemptStartsAndLoses : Prop :=
  (∀ l : Link,
     let flying := fun (c : FrameClass) => if l.attempt = some c then 1 else 0
     let joined := fun (places : Nat) (gives : QueuedFrame → Bool) (inFlight : Nat) (q : List QueuedFrame) (p : Payload) =>
       if q.length < places then some (q ++ [QueuedFrame.fresh p])
       else if (q.drop inFlight).any gives then
         some (q.take inFlight ++ (q.drop inFlight).eraseP gives ++ [QueuedFrame.fresh p])
       else none
     let isClose := fun (f : QueuedFrame) => match f.payload with
       | .chartClose _ => true
       | _ => false
     let isDecline := fun (f : QueuedFrame) => match f.payload with
       | .decline _ => true
       | _ => false
     let isAsk := fun (k : Key) (n : Nat) (f : QueuedFrame) => match f.payload with
       | .ask a => a.key == k && a.line == n && !f.withdrawn
       | _ => false
     let isOwnOpen := fun (k : Key) (f : QueuedFrame) => match f.payload with
       | .chartOpen o => o.key == k && !o.reannounce
       | _ => false
     let withdrawn := fun (goes : QueuedFrame → Bool) (inFlight : Nat) (q : List QueuedFrame) =>
       (q.take inFlight).map (fun f => if goes f then { f with withdrawn := true } else f) ++
         (q.drop inFlight).filter (fun f => !goes f)
     (∀ p, l.queueOpenClose p = if l.mute then none
       else (joined 4 isClose (flying .openClose) l.openClose p).map (fun q => { l with openClose := q })) ∧
     (∀ a, l.queueAsk a = if l.mute then none
       else (joined 8 isDecline (flying .askDecline) l.askDecline (.ask a)).map (fun q => { l with askDecline := q })) ∧
     (∀ goes headInFlight q, withdrawFrom goes headInFlight q = withdrawn goes (if headInFlight then 1 else 0) q) ∧
     (∀ k n f, QueuedFrame.isAsk k n f = isAsk k n f) ∧
     (∀ k n, l.withdrawAsk k n =
       { l with askDecline := withdrawn (isAsk k n) (flying .askDecline) l.askDecline }) ∧
     ∀ k, l.withdrawOpen k = { l with openClose := withdrawn (isOwnOpen k) (flying .openClose) l.openClose }) ∧
  (∀ s : State, s.config.state = .run → s.link.transmitter = .waiting → s.link.mute = false → s.roster.state = .joined →
     s.link.framing = .idleCount → 12 ≤ s.link.recessive →
     (∀ c : FrameClass, s.link.waiting c ≠ [] → (∀ d : FrameClass, d.number < c.number → s.link.waiting d = []) →
       exec .transmitStart s = .next { s with link := { s.link with
         transmitter := .arbitrating, attempt := some c, framing := .inFrame, recessive := 0, frameStart := s.now } }) ∧
     ((∀ c : FrameClass, s.link.waiting c = []) →
       exec .transmitStart s = .next { s with link := { s.link with transmitter := .free } })) ∧
  (∀ (s : State) (c : FrameClass) (f : QueuedFrame) (rest : List QueuedFrame) (bit : Fin 8), s.config.state = .run →
     s.link.transmitter = .arbitrating → s.link.attempt = some c → s.link.waiting c = f :: rest →
     (byteZero { sender := s.self, payload := f.payload }).getLsbD bit.val = true →
     s.now < s.link.frameStart + (9 - bit.val) →
     let now := s.link.frameStart + (9 - bit.val)
     (f.withdrawn = false → c ≠ .hail ∨ s.link.hailReplacement = none →
       exec (.arbitrationLost bit) s = .next (State.settle { s with
         now := now, link := { s.link with transmitter := .free, attempt := none } })) ∧
     (∀ g, c = .hail → s.link.hailReplacement = some g → exec (.arbitrationLost bit) s = .next (State.settle { s with
       now := now
       link := { s.link with transmitter := .free, attempt := none, hail := some g, hailReplacement := none } })) ∧
     (f.withdrawn = true → c ≠ .hail ∨ s.link.hailReplacement = none →
       ∃ l, exec (.arbitrationLost bit) s = .next (State.settle { s with now := now, link := l }) ∧
       l.waiting c = rest ∧ (∀ d, d ≠ c → l.waiting d = s.link.waiting d) ∧ l.transmitter = .free ∧ l.attempt = none ∧
       l.hailReplacement = s.link.hailReplacement ∧ l.framing = s.link.framing ∧ l.recessive = s.link.recessive ∧ l.taken = s.link.taken ∧
       l.mute = s.link.mute ∧ l.frameStart = s.link.frameStart)) ∧
  (∀ s : State, s.pending = [] → s.link.transmitter = .arbitrating →
     step s = .next { s with
       now := s.now + 1
       link := { s.link with
         transmitter := if s.link.frameStart + 9 ≤ s.now + 1 then .sending else .arbitrating } }) ∧
  (∀ (s : State) (bit : Fin 8), s.link.transmitter = .sending → exec (.arbitrationLost bit) s = .next s)

/-- COLLISION_FAULT: the transmitter is FREE and the frame's fault count rises; at 3 the frame is dropped and LINE_FAULT posted,
and the block that queued it is told: an own OPEN is DONE, an ASK's fetch is retired, and a body is abandoned, the next one's segments
being formed where its snapshot is made; a CLOSE, a re-announced OPEN, a DECLINE and a TALLY do nothing more (R50, R54, R59, R62, R82,
R120). A frame that was withdrawn in flight leaves as withdrawn, with no LINE_FAULT (R60).
A HAIL that collides short of its third fault gives way to its replacement (R58). That one at its third fault leaves with LINE_FAULT
and the replacement then takes the place is the model's reading (log entry 24, DEDUCED). That station time stands still at a fault is
its choice (log entry 32, DESIGN CHOICE). -/
def Obligations.CollisionFaultCounts : Prop :=
  ∀ (s : State) (f : QueuedFrame) (rest : List QueuedFrame), s.config.state = .run →
    s.link.transmitter = .arbitrating ∨ s.link.transmitter = .sending →
    let faulted := { f with faults := f.faults + 1 }
    let free := { s.link with transmitter := .free, attempt := none }
    let posted := { s.attention with events := insertEvent ⟨.lineFault, 0⟩ s.attention.events }
    (f.withdrawn = true →
      (s.link.attempt = some .openClose → s.link.openClose = f :: rest →
        exec .collisionFault s = .next (State.settle { s with link := { free with openClose := rest } })) ∧
      (s.link.attempt = some .askDecline → s.link.askDecline = f :: rest →
        exec .collisionFault s = .next (State.settle { s with link := { free with askDecline := rest } })) ∧
      (s.link.attempt = some .body → s.link.segments = f :: rest →
        exec .collisionFault s = .next (State.settle { s with link := { free with segments := rest } }))) ∧
    (f.withdrawn = false →
    (s.link.attempt = some .tally → s.link.tally = f :: rest →
      (f.faults < 2 → exec .collisionFault s = .next (State.settle { s with
        link := { free with tally := faulted :: rest } })) ∧
      (∀ t, f.payload = .tally t → 2 ≤ f.faults → exec .collisionFault s = .next (State.settle { s with
        link := { free with tally := rest }, attention := posted }))) ∧
    (s.link.attempt = some .openClose → s.link.openClose = f :: rest →
      (f.faults < 2 → exec .collisionFault s = .next (State.settle { s with
        link := { free with openClose := faulted :: rest } })) ∧
      ((∃ x, f.payload = .chartClose x) ∨ (∃ o, f.payload = .chartOpen o ∧ o.reannounce = true) → 2 ≤ f.faults →
        exec .collisionFault s = .next (State.settle { s with
          link := { free with openClose := rest }, attention := posted })) ∧
      (∀ o, f.payload = .chartOpen o → o.reannounce = false → 2 ≤ f.faults → s.TablesOrdered →
        (∀ p ∈ s.slots, ∀ q ∈ s.slots, p.2.record.key = q.2.record.key → p = q) →
        exec .collisionFault s = .next (State.settle { s with
          link := { free with openClose := rest }, attention := posted
          slots := s.slots.map (fun (p : Nat × Slot) =>
            if p.2.record.key = o.key ∧ p.2.record.ownOpen = .queued then
              (p.1, { p.2 with record := { p.2.record with ownOpen := .done } })
            else p) }))) ∧
    (s.link.attempt = some .askDecline → s.link.askDecline = f :: rest →
      (f.faults < 2 → exec .collisionFault s = .next (State.settle { s with
        link := { free with askDecline := faulted :: rest } })) ∧
      (∀ d, f.payload = .decline d → 2 ≤ f.faults → exec .collisionFault s = .next (State.settle { s with
        link := { free with askDecline := rest }, attention := posted })) ∧
      (∀ a e, f.payload = .ask a → 2 ≤ f.faults → (∀ g ∈ rest, g.isAsk a.key a.line = false) →
        s.fetch.fetches.filter (fun x => x.isFor a.key a.line && x.phase = .askQueued) = [e] →
        exec .collisionFault s = .next (State.settle { s with
          link := { free with askDecline := rest }, attention := posted
          fetch := { s.fetch with fetches := s.fetch.fetches.filter (fun x => x != e) } }))) ∧
    (s.link.attempt = some .body → s.link.segments = f :: rest →
      (f.faults < 2 → exec .collisionFault s = .next (State.settle { s with
        link := { free with segments := faulted :: rest } })) ∧
      (∀ b x, f.payload = .body b → 2 ≤ f.faults → s.fetch.bodies = [x] →
        exec .collisionFault s = .next (State.settle { s with
          link := { free with segments := [] }, attention := posted, fetch := { s.fetch with bodies := [] } })) ∧
      (∀ b x y more, f.payload = .body b → 2 ≤ f.faults → s.fetch.bodies = x :: y :: more → y.formed = false →
        (y.snapshot = none → exec .collisionFault s = .next (State.settle { s with
          link := { free with segments := [] }, attention := posted, fetch := { s.fetch with bodies := y :: more } })) ∧
        ∀ snap, y.snapshot = some snap → exec .collisionFault s = .next (State.settle { s with
          link := { free with segments :=
            (bodySegments y snap s.config.settings.width).map (fun g => QueuedFrame.fresh (.body g)) }
          attention := posted, fetch := { s.fetch with bodies := { y with formed := true } :: more } }))) ∧
    (s.link.attempt = some .hail → s.link.hail = some f →
      let replacement := s.link.hailReplacement
      (f.faults < 2 → exec .collisionFault s = .next (State.settle { s with
        link := { free with hail := some (replacement.getD faulted), hailReplacement := none } })) ∧
      (∀ h, f.payload = .hail h → 2 ≤ f.faults → exec .collisionFault s = .next (State.settle { s with
        link := { free with hail := replacement, hailReplacement := none }, attention := posted }))))

/-- FRAME_SENT: 1 + 9 × (payload + 4) bit times after its start bit the frame leaves its queue, the transmitter is FREE and the checker counts
idle bits from 0. A CLOSE, a re-announced OPEN, a DECLINE, a TALLY and a segment before the end do nothing more; an own OPEN is
DONE, an ASK's fetch awaits its first body for 150 ms, the joining HAIL's sending clears joining pending, and a body is served
when its end segment is sent (R46, R47, R59, R62, R72, R82, R120). The replacement takes the place of a HAIL that is sent (R58), and
loses its joining flag where that HAIL was a joining one (R72). -/
def Obligations.FrameSentLeavesQueue : Prop :=
  ∀ (s : State) (f : QueuedFrame) (rest : List QueuedFrame), s.config.state = .run →
    s.link.transmitter = .arbitrating ∨ s.link.transmitter = .sending → s.link.framing = .inFrame →
    let now := max s.now (s.link.frameStart + (1 + 9 * (f.payload.bytes.length + 4)))
    let l := { s.link with transmitter := .free, attempt := none, framing := .idleCount, recessive := 0, taken := [] }
    (s.link.attempt = some .tally → s.link.tally = f :: rest → ∀ t, f.payload = .tally t →
      exec .frameSent s = .next (State.settle { s with now := now, link := { l with tally := rest } })) ∧
    (s.link.attempt = some .openClose → s.link.openClose = f :: rest →
      (∀ c, f.payload = .chartClose c →
        exec .frameSent s = .next (State.settle { s with now := now, link := { l with openClose := rest } })) ∧
      (∀ o, f.payload = .chartOpen o → o.reannounce = true ∨ s.slotOfKey o.key = none →
        exec .frameSent s = .next (State.settle { s with now := now, link := { l with openClose := rest } })) ∧
      (∀ o c, f.payload = .chartOpen o → o.reannounce = false → s.slotOfKey o.key = some c →
        exec .frameSent s = .next (State.settle { s with
          now := now, link := { l with openClose := rest }
          slots := Sparse.modify s.slots c (fun sl => { sl with record := { sl.record with
            ownOpen := if sl.record.ownOpen = .queued then .done else sl.record.ownOpen } }) }))) ∧
    (s.link.attempt = some .hail → s.link.hail = some f → ∀ h, f.payload = .hail h →
      let roster := { s.roster with joiningPending := if h.joining then false else s.roster.joiningPending }
      (s.link.hailReplacement = none → exec .frameSent s = .next (State.settle { s with
        now := now, link := { l with hail := none }, roster := roster })) ∧
      ∀ g h', s.link.hailReplacement = some g → g.payload = .hail h' →
        let next := { g with payload := .hail { h' with joining := h'.joining && !h.joining } }
        exec .frameSent s = .next (State.settle { s with
          now := now, link := { l with hail := some next, hailReplacement := none }, roster := roster })) ∧
    (s.link.attempt = some .body → s.link.segments = f :: rest → ∀ b, f.payload = .body b → f.withdrawn = false →
      (b.endMark = false →
        exec .frameSent s = .next (State.settle { s with now := now, link := { l with segments := rest } })) ∧
      (∀ x, b.endMark = true → s.fetch.bodies = [x] → exec .frameSent s = .next (State.settle { s with
        now := now, link := { l with segments := rest }, fetch := { s.fetch with bodies := [] } }))) ∧
    (s.link.attempt = some .askDecline → s.link.askDecline = f :: rest →
      (∀ d, f.payload = .decline d →
        exec .frameSent s = .next (State.settle { s with now := now, link := { l with askDecline := rest } })) ∧
      (∀ a e, f.payload = .ask a → f.withdrawn = false → s.fetchFor a.key a.line = some e → e.phase = .askQueued →
        exec .frameSent s = .next (State.settle { s with
          now := now, link := { l with askDecline := rest }
          fetch := { s.fetch with fetches := s.fetch.fetches.map (fun x =>
            if x = e then { e with phase := .awaitingFirst, deadline := some (now + 150000) } else x) } })))

/-- The station time at which a frame of `n` bytes ends on the line: 1 + 9 × n bit times after its start bit, which is behind
where the checker is IN FRAME and now otherwise (R46, R47). -/
def frameArrival (s : State) (n : Nat) : Nat :=
  if s.link.framing = .inFrame then max s.now (s.link.frameStart + (1 + 9 * n)) else s.now + (1 + 9 * n)

/-- RECEIVE_FRAME_DISCARDED: a frame whose last resync bit taken is dominant, or whose length byte exceeds 96, is given up there
and the checker waits for idle; one taken to its second CRC byte that fails the CRC or the validity checks sends it back to IDLE
COUNT; no block sees either. LINE_IDLE: 12 recessive bit times on, the line is idle (R46 to R48, R52). -/
def Obligations.DiscardedFrameReachesNoBlock : Prop :=
  ∀ s : State, s.config.state = .run →
    (∀ (frame : List Byte) (resyncDominant : Bool), s.link.attempt = none →
      (s.link.framing = .inFrame ∨ s.link.framing = .idleCount ∧ 12 ≤ s.link.recessive) →
      let announced := (frame.getD 1 0).toNat
      (resyncDominant = true ∧ 1 ≤ frame.length ∧ (frame.length ≤ 2 ∨ announced ≤ 96 ∧ frame.length ≤ announced + 4) ∨
        resyncDominant = false ∧ frame.length = 2 ∧ 96 < announced →
        exec (.receiveFrameDiscarded frame resyncDominant) s = .next { s with
          now := frameArrival s frame.length
          link := { s.link with framing := .waitForIdle, recessive := 0, taken := [] } }) ∧
      (resyncDominant = false → announced ≤ 96 → frame.length = announced + 4 → decodeFrame frame = none →
        exec (.receiveFrameDiscarded frame resyncDominant) s = .next { s with
          now := frameArrival s frame.length
          link := { s.link with framing := .idleCount, recessive := 0, taken := [] } })) ∧
    (s.link.framing = .waitForIdle ∨ s.link.framing = .idleCount ∧ s.link.recessive < 12 →
      exec .lineIdle s = .next { s with
        now := s.now + 12, link := { s.link with framing := .idleCount, recessive := 12 } })

/-- OWN_NUMBER_FRAME: the station sets MUTE, abandons its attempt, clears every transmit queue and its fetches, timers and
bodies, settles its queued OPENs as DONE and posts STATION_CONFLICT; further ones under MUTE change nothing more (R63, R74, R82,
R136). -/
def Obligations.OwnNumberFrameMutes : Prop :=
  ∀ (s : State) (frame : List Byte) (f : Frame), s.config.state = .run → s.link.attempt = none →
    (s.link.framing = .inFrame ∨ s.link.framing = .idleCount ∧ 12 ≤ s.link.recessive) →
    decodeFrame frame = some f → f.sender = s.self →
    let now := frameArrival s frame.length
    let l := { s.link with framing := .idleCount, recessive := 0, taken := [] }
    (s.link.mute = true → exec (.ownNumberFrame frame) s = .next { s with now := now, link := l }) ∧
    (s.link.mute = false → exec (.ownNumberFrame frame) s = .next { s with
      now := now
      link := { l with
        mute := true, transmitter := .free, openClose := [], askDecline := [], tally := [], segments := [], hail := none
        hailReplacement := none }
      fetch := { s.fetch with fetches := [], timers := [], bodies := [] }
      slots := s.slots.map (fun (p : Nat × Slot) => (p.1, { p.2 with record := { p.2.record with
        ownOpen := if p.2.record.ownOpen = .queued then .done else p.2.record.ownOpen } }))
      attention := { s.attention with events := insertEvent ⟨.stationConflict, 0⟩ s.attention.events } })

/-! ## Frames from peers (chapters 4 to 7) -/

/-- What every valid frame from a peer does before its kind acts: its bit times pass, the checker counts idle bits from 0, the
sender is LIVE with its loss timer at 6 s, and PEER_JOINED is posted when it was not LIVE before (R46, R47, R66).
HAIL_RECEIVED: the sender's entry keeps the HAIL's width, rate and bound key; a joining HAIL makes the bound OPEN record's
OPEN go out again, with the re-announce flag and the highest line, where none waits yet; it joins its queue as
AttemptStartsAndLoses says (R54, R55, R66, R67, R73). That the ASKs which the peer's return allows go out after the frame has acted
is the model's choice, here and at every frame below (log entry 40, DESIGN CHOICE). -/
def Obligations.HailIsKept : Prop :=
  (∀ (s : State) (frame : List Byte) (peer : Station),
     let now := frameArrival s frame.length
     let old := s.rosterEntry peer
     let heard := { old with state := .live, lossDeadline := some (now + 6000000) }
     (s.arrive frame).peerHeard peer = { s with
       now := now
       link := { s.link with framing := .idleCount, recessive := 0, taken := [] }
       roster := { s.roster with peers := Sparse.put s.roster.peers peer.val heard }
       attention := { s.attention with
         events := if old.state = .live then s.attention.events
           else insertEvent ⟨.peerJoined, peer.val⟩ s.attention.events } }) ∧
  (∀ (s : State) (frame : List Byte) (f : Frame) (h : Hail), s.config.state = .run → s.link.canTakeFrame = true →
     decodeFrame frame = some f → f.payload = .hail h → f.sender ≠ s.self →
     let b := (s.arrive frame).peerHeard f.sender
     let entry :=
       { b.rosterEntry f.sender with lastHail := some { width := h.width, rate := h.rate, boundKey := h.boundKey } }
     let kept := { b.roster with peers := Sparse.put b.roster.peers f.sender.val entry }
     (h.joining = false ∨ s.reception.binding = none →
       exec (.hailReceived frame) s = .next (State.settle { b with roster := kept })) ∧
     ∀ c r, h.joining = true → s.reception.binding = some c → s.record? c = some r →
       let waits := ∃ g ∈ s.link.openClose, ∃ o, g.payload = .chartOpen o ∧ o.key = r.key ∧ o.reannounce = true
       (r.state ≠ .opened ∨ waits → exec (.hailReceived frame) s = .next (State.settle { b with roster := kept })) ∧
       (r.state = .opened → ¬waits → exec (.hailReceived frame) s = .next (State.settle { b with
         roster := kept
         link := (b.link.queueOpenClose (.chartOpen
           { key := r.key, rate := r.rate, width := s.config.settings.width, late := r.late, split := false
             reannounce := true, highest := r.highest.getD 0 })).getD b.link })))

/-- OPEN_RECEIVED: with another line rate nothing more happens. A known chart not CLOSED takes the sender as ACTIVE, the time of
the OPEN, and a re-announced highest line; a CLOSED one takes a re-announcement likewise but for the time, and is otherwise
released for a new record when its hold is NONE, the OPEN being ignored when it is held (R84, R85). An unknown key re-keys a bound
OPEN record whose own OPEN still waits, whose late flag is clear and which was handed no own line, and otherwise, with no record
bound or a bound one that fails one of these, makes a record in the lowest free slot; with every slot in use the CLOSED
record of hold NONE and the lowest close order is released for it, as DiscardReleasesSlot says of a release, and with no such
record DIRECTORY_FULL is posted (R60, R77, R78, R83, R84, R86, R98). That the bodies waiting for a record in their contexts take
the heard key with it is the model's reading (log entry 36, DEDUCED). A re-keyed record is taken up as an adopted one is: fetches for
it are retired and a migration that was running ends (R98, R119; log entry 13, DEDUCED). The ASKs that follow go out after the frame
has acted (log entry 40, DESIGN CHOICE). -/
def Obligations.OpenMakesOrJoinsChart : Prop :=
  ∀ (s : State) (frame : List Byte) (f : Frame) (o : ChartOpen), s.config.state = .run → s.link.canTakeFrame = true →
    decodeFrame frame = some f → f.payload = .chartOpen o → f.sender ≠ s.self →
    let b := (s.arrive frame).peerHeard f.sender
    let joined := fun (r : ChartRecord) => { r with
      contributors := contributorActive f.sender r.contributors
      highest := if o.reannounce then some (max (r.highest.getD 0) o.highest) else r.highest }
    let fresh : ChartRecord :=
      { key := o.key, state := .opened, hold := .none, bound := false, offset := none, expected := none, late := o.late
        rate := s.config.settings.rate, contributors := [{ station := f.sender, ended := none }]
        highest := if o.reannounce then some o.highest else none
        lastOwn := none, ownLinesHanded := false, ownOpen := .none, lastOpenHeard := some b.now, lastTally := none
        quietDeadline := some (b.now + 32 * s.linePeriod), quietFlag := false, lastCloseReason := none
        closeReason := none, closeOrder := none }
    let made := fun (u : State) (c : Nat) => State.settle { u with
      slots := Sparse.put u.slots c { record := fresh, entries := [], rows := [] }
      attention := { u.attention with events := insertEvent ⟨.chartOpened, c⟩ u.attention.events } }
    let rekeyed := fun (u : State) (c : Nat) (r : ChartRecord) => State.settle (takenUp { u with
      link := u.link.withdrawOpen r.key
      slots := Sparse.modify u.slots c (fun sl => { sl with record := { sl.record with
        key := o.key, state := .aligning, expected := some 0, offset := none, late := o.late
        contributors := [({ station := s.self, ended := none } : Contributor), { station := f.sender, ended := none }]
        lastOpenHeard := some b.now, ownOpen := .none
        highest := if o.reannounce then some o.highest else sl.record.highest } })
      fetch := { u.fetch with contexts := u.fetch.contexts.map (fun (p : Nat × Context) =>
        if p.2.waitingSlot = some c then (p.1, { p.2 with key := o.key }) else p) } } c o.key 0)
    let qualifies := fun (c : Nat) (r : ChartRecord) => s.reception.binding = some c ∧ s.record? c = some r ∧ r.bound = true ∧
      r.state = .opened ∧ r.ownOpen = .queued ∧ r.late = false ∧ r.ownLinesHanded = false
    (o.rate ≠ s.config.settings.rate → exec (.openReceived frame) s = .next b.settle) ∧
    (o.rate = s.config.settings.rate → s.TablesOrdered →
      (∀ c r, s.slotOfKey o.key = some c → s.record? c = some r →
        (r.state ≠ .closed →
          exec (.openReceived frame) s = .next (State.settle { b with slots := Sparse.modify s.slots c (fun sl =>
            { sl with record := { joined sl.record with lastOpenHeard := some b.now } }) })) ∧
        (r.state = .closed → o.reannounce = true →
          exec (.openReceived frame) s = .next (State.settle { b with slots := Sparse.modify s.slots c (fun sl =>
            { sl with record := joined sl.record }) })) ∧
        (r.state = .closed → o.reannounce = false → r.hold ≠ .none → exec (.openReceived frame) s = .next b.settle) ∧
        (r.state = .closed → o.reannounce = false → r.hold = .none →
          (∀ d, (∀ k x, ¬qualifies k x) → (d = c ∨ s.slot? d = none) → (∀ k < d, k ≠ c ∧ (s.slot? k).isSome) →
            d < s.slotCount → exec (.openReceived frame) s = .next (made (b.releaseSlot c) d)) ∧
          (∀ d x, qualifies d x → exec (.openReceived frame) s = .next (rekeyed (b.releaseSlot c) d x)))) ∧
      (∀ c r, s.slotOfKey o.key = none → qualifies c r → exec (.openReceived frame) s = .next (rekeyed b c r)) ∧
      (s.slotOfKey o.key = none → (∀ k x, ¬qualifies k x) →
        (∀ c, s.slot? c = none → (∀ d < c, (s.slot? d).isSome) → c < s.slotCount →
          exec (.openReceived frame) s = .next (made b c)) ∧
        ((∀ d < s.slotCount, (s.slot? d).isSome) →
          (∀ c r, s.record? c = some r → r.state = .closed → r.hold = .none →
            (∀ p ∈ s.slots, p.1 ≠ c → p.2.record.state = .closed → p.2.record.hold = .none →
              r.closeOrder.getD 0 < p.2.record.closeOrder.getD 0) →
            exec (.openReceived frame) s = .next (made (b.releaseSlot c) c)) ∧
          ((∀ p ∈ s.slots, p.2.record.state = .closed → p.2.record.hold ≠ .none) →
            exec (.openReceived frame) s = .next (State.settle { b with
              attention := { b.attention with events := insertEvent ⟨.directoryFull, 0⟩ b.attention.events } })))))

/-- CLOSE_RECEIVED: the highest line rises to the frame's; a sender that was an ACTIVE contributor is ENDED by CLOSE and its
reason kept, and the record closes with that reason and the next close order when no contributor is ACTIVE any more and it is not
bound (R86, R88, R92). The ASKs that follow go out after the frame has acted (log entry 40, DESIGN CHOICE).
Of the contributors: an OPEN or a binding lists a station as ACTIVE, and so does a TALLY, but that one ENDED by CLOSE stays ENDED
through it; an end with a cause makes a listed ACTIVE station ENDED with it, and changes nothing for another (R86). -/
def Obligations.CloseEndsContributor : Prop :=
  (∀ (st : Station) (l : List Contributor),
     let changed := fun (f : Option EndCause → Option EndCause) =>
       l.map (fun x => if x.station = st then { x with ended := f x.ended } else x)
     let added := l ++ [{ station := st, ended := none }]
     ((∀ x ∈ l, x.station ≠ st) → contributorActive st l = added ∧ contributorTallied st l = added) ∧
     ((∃ x ∈ l, x.station = st) → contributorActive st l = changed (fun _ => none) ∧
       contributorTallied st l = changed (fun e => if e = some .close then e else none)) ∧
     (∀ cause, contributorEnds st cause l = changed (fun e => some (e.getD cause))) ∧
     (isActive st l = true ↔ ∃ x ∈ l, x.station = st ∧ x.ended = none) ∧
     (isEnded st l = true ↔ ∃ x ∈ l, x.station = st ∧ x.ended ≠ none) ∧
     (allEnded l = true ↔ ∀ x ∈ l, x.ended ≠ none)) ∧
  ∀ (s : State) (frame : List Byte) (f : Frame) (x : ChartClose) (c : Nat) (r : ChartRecord), s.config.state = .run →
    s.link.canTakeFrame = true → decodeFrame frame = some f → f.payload = .chartClose x → f.sender ≠ s.self →
    s.slotOfKey x.key = some c → s.record? c = some r →
    let b := (s.arrive frame).peerHeard f.sender
    let highest := fun (h : Option Nat) => match x.lastLine with
      | some n => some (max (h.getD 0) n)
      | none => h
    let ended := fun (r : ChartRecord) => { r with
      highest := highest r.highest, contributors := contributorEnds f.sender .close r.contributors
      lastCloseReason := some x.reason }
    (isActive f.sender r.contributors = false →
      exec (.closeReceived frame) s = .next (State.settle { b with slots := Sparse.modify s.slots c (fun sl =>
        { sl with record := { sl.record with highest := highest sl.record.highest } }) })) ∧
    (isActive f.sender r.contributors = true →
      (∃ y ∈ r.contributors, y.station ≠ f.sender ∧ y.ended = none) → r.quietFlag = false →
      exec (.closeReceived frame) s = .next (State.settle { b with slots := Sparse.modify s.slots c (fun sl =>
        { sl with record := ended sl.record }) })) ∧
    (isActive f.sender r.contributors = true → (∀ y ∈ r.contributors, y.station = f.sender ∨ y.ended ≠ none) →
      r.state = .opened → r.bound = false →
      exec (.closeReceived frame) s = .next (State.settle { b with
        slots := Sparse.modify s.slots c (fun sl => { sl with record := { ended sl.record with
          state := .closed, expected := none, quietDeadline := none, closeOrder := some (s.highestCloseOrder + 1)
          closeReason := some (if allEnded (ended sl.record).contributors then x.reason else .quiet) } })
        attention := { b.attention with events := insertEvent ⟨.chartClosed, c⟩ b.attention.events } }))

/-- TALLY_RECEIVED for a known chart: the sender is a contributor, the last tally is kept, the highest line rises, the quiet timer
restarts, and each entry of a grade not 0 updates its line's row (R86 to R88, R93, R115). Its sample
position is the sample count as it stands (log entry 18, DESIGN CHOICE). The ALIGNMENT UNIT takes the TALLY after the directory (log entry 44,
DESIGN CHOICE), and ASKs go out last (log entry 40, DESIGN CHOICE).
For the chart the ALIGNMENT UNIT collects for, each entry of grade A_thr or more for a line from e − 2 to e + 65 becomes
the sender's reference for its line, and when there is one the trial offsets are evaluated (R101, R103).
The evaluation: the distance of a held line of grade A_thr or more at a trial offset is the number of bits in which it and its
chart line's best reference differ, the one of the highest grade and then the lowest station; the decision comes once every offset
from e − 2 to e + 2 has six or more distances, or 64 lines were handed; the eligible offset of the smallest mean distance wins,
then the nearer to e, then the smaller (R103, R104). A mean of at most 3 accepts it: the record is OPEN with it, CHART_ALIGNED is
posted, the held lines migrate and those beyond the chart are freed (R90, R105); otherwise a split clear is asked for (R107). A write
queued for a freed line fills no entry (log entry 13, DEDUCED), and with no line to move the lines handed and the expected offset
stand in IDLE (log entry 43, DESIGN CHOICE).
In a row a listed sender takes the new grade and the better holder stands first; an unlisted one enters as
best, as second or not at all, ties keeping the incumbent; a different best holder clears the attempts and the exhausted flag
(R115). Entry i goes to the row of line first + i, one of grade 0 is passed over, and every other row stands.
A split clear of a quiet slot and the first migrating line's taking, due at once, are done in the same row; the lines behind it wait
(log entry 41, DEDUCED). -/
def Obligations.TallyUpdatesChart : Prop :=
  (∀ (s : State) (frame : List Byte) (f : Frame) (t : Tally) (c : Nat), s.config.state = .run → s.link.canTakeFrame = true →
     decodeFrame frame = some f → f.payload = .tally t → f.sender ≠ s.self →
     let b := (s.arrive frame).peerHeard f.sender
     let last := t.first + t.entries.length - 1
     let unserved := s.alignment.state = .idle ∨ s.alignment.state = .migrating ∨
       s.alignment.state = .splitWait ∧ (∀ d, s.alignment.slot = some d → s.quiet d = false) ∨
       s.alignment.state = .collecting ∧ s.alignment.key ≠ some t.key
     (unserved → s.slotOfKey t.key = none → exec (.tallyReceived frame) s = .next b.settle) ∧
     (s.slotOfKey t.key = some c →
       let record := fun (r : ChartRecord) => { r with
         contributors := contributorTallied f.sender r.contributors
         lastTally := some { time := b.now, sample := s.reception.sampleCount, lastLine := last, age := t.age.val }
         highest := some (max (r.highest.getD 0) last)
         quietDeadline := if r.state = .closed then r.quietDeadline else some (b.now + 32 * s.linePeriod)
         quietFlag := if r.state = .closed then r.quietFlag else false }
       let taken : State := { b with slots := Sparse.modify s.slots c (fun sl =>
         ({ sl with record := record sl.record } : Slot).tallyRows f.sender t.first t.entries) }
       (unserved → exec (.tallyReceived frame) s = .next taken.settle) ∧
       (s.alignment.state = .collecting → s.alignment.key = some t.key →
         let refers := fun (i : Nat) (x : TallyEntry) => t.entries[i]? = some x ∧ s.alignThreshold ≤ x.grade.toNat ∧
           s.alignment.expected ≤ t.first + i + 2 ∧ t.first + i ≤ s.alignment.expected + 65 ∧ t.first + i ≤ 2047
         ((∀ i x, ¬refers i x) → exec (.tallyReceived frame) s = .next taken.settle) ∧
         ∀ i x, refers i x → ∃ references,
           (∀ y, y ∈ references ↔
             (y ∈ s.alignment.references ∧ ¬(y.station = f.sender ∧ ∃ i x, refers i x ∧ y.line = t.first + i)) ∨
             ∃ i x, refers i x ∧ y =
               { line := t.first + i, station := f.sender, grade := x.grade.toNat, fingerprint := x.fingerprint }) ∧
           exec (.tallyReceived frame) s = .next (State.settle (State.takeArrival (State.splitAtOnce (State.evaluate
             { taken with alignment := { s.alignment with references := references } })) s.candidateWaits))))) ∧
  (∀ (s : State) (c : Nat), s.alignment.state = .collecting → s.alignment.slot = some c →
     let a := s.alignment
     let near := fun (d : Int) => (d - a.expected).natAbs ≤ 2
     let distances := trialDistances s.alignThreshold a.provisional a.references
     let due := 64 ≤ a.handed ∨ ∀ d, near d → 6 ≤ (distances d).length
     let split : State := { s with
       alignment := { a with state := .splitWait }
       lineTable := { s.lineTable with requests := s.lineTable.requests ++ [QuietRequest.splitClear c] } }
     let better := fun (d d' : Int) =>
       let mean := (distances d).sum * (distances d').length
       let mean' := (distances d').sum * (distances d).length
       let distance := (d - a.expected).natAbs
       let distance' := (d' - a.expected).natAbs
       mean < mean' ∨ mean = mean' ∧ (distance < distance' ∨ distance = distance' ∧ d < d')
     (¬due → s.evaluate = s) ∧
     (due → (∀ d, near d → (distances d).length < 6) → s.evaluate = split) ∧
     ∀ d : Int, due → near d → 6 ≤ (distances d).length →
       (∀ d', near d' → d' ≠ d → 6 ≤ (distances d').length → better d d') →
       (3 * (distances d).length < (distances d).sum → s.evaluate = split) ∧
       ((distances d).sum ≤ 3 * (distances d).length →
         let inChart := fun (h : HeldLine) => decide (0 ≤ h.ownIndex + d ∧ h.ownIndex + d ≤ 2047)
         let moving := (a.provisional.filter inChart).map (fun h => (h, (h.ownIndex + d).toNat))
         let gone := (a.provisional.filter (fun h => !inChart h)).map HeldLine.entry
         s.evaluate = { s with
           slots := Sparse.modify s.slots c (fun sl => { sl with record := { sl.record with
             state := .opened, offset := some d, expected := none } })
           attention := { s.attention with events := insertEvent ⟨.chartAligned, c⟩ s.attention.events }
           pool := s.pool.filter (fun p => !gone.contains p.1)
           lineTable := { s.lineTable with
             store := s.lineTable.store.filter (fun st => !gone.contains st.entry)
             queue := s.lineTable.queue.map (fun w => if gone.any w.intoPool then { w with stale := true } else w) }
           alignment := { a with
             state := if moving = [] then .idle else .migrating
             slot := if moving = [] then none else some c
             key := if moving = [] then none else a.key
             provisional := [], references := [], migration := moving } })) ∧
  (∀ (threshold : Nat) (held : List HeldLine) (references : List Reference) (d : Int),
     trialDistances threshold held references d = held.filterMap (fun h =>
       if threshold ≤ h.grade ∧ 0 ≤ h.ownIndex + d ∧ h.ownIndex + d ≤ 2047 then
         (bestReference references (h.ownIndex + d).toNat).map (fun r =>
           ((List.range 16).filter (fun i => h.fingerprint.getLsbD i != r.fingerprint.getLsbD i)).length)
       else none)) ∧
  (∀ (references : List Reference) (n : Nat),
     (bestReference references n = none ↔ ∀ x ∈ references, x.line ≠ n) ∧
     ∀ r, bestReference references n = some r → r ∈ references ∧ r.line = n ∧
       ∀ x ∈ references, x.line = n → x.grade < r.grade ∨ x.grade = r.grade ∧ r.station.val ≤ x.station.val) ∧
  (∀ (sl : Slot) (s : Station) (first : Nat) (entries : List TallyEntry), Sparse.Rising sl.rows →
     let t := sl.tallyRows s first entries
     t = { sl with rows := t.rows } ∧ Sparse.Rising t.rows ∧
     (∀ i x, entries[i]? = some x →
       t.row (first + i) = if x.grade = 0 then sl.row (first + i) else (sl.row (first + i)).tallied s x.grade.toNat) ∧
     ∀ n, n < first ∨ first + entries.length ≤ n → t.row n = sl.row n) ∧
  (∀ (r : HolderRow) (s : Station) (g : Nat),
     let t := r.tallied s g
     (r.best = none → r.second = none → t = { r with best := some ⟨s, g⟩, attempts := 0, exhausted := false }) ∧
     (∀ b, r.best = some b → b.station ≠ s → (∀ x, r.second = some x → x.station ≠ s) →
       (b.grade < g → t = { r with
         best := some ⟨s, g⟩, second := some b, attempts := 0, exhausted := false }) ∧
       (g ≤ b.grade → (∀ x, r.second = some x → x.grade < g) → t = { r with second := some ⟨s, g⟩ }) ∧
       (∀ x, g ≤ b.grade → r.second = some x → g ≤ x.grade → t = r)) ∧
     (∀ b, r.best = some b → b.station = s →
       ((∀ x, r.second = some x → x.station ≠ s ∧ x.grade ≤ g) → t = { r with best := some ⟨s, g⟩ }) ∧
       (∀ x, r.second = some x → x.station ≠ s → g < x.grade → t = { r with
         best := some x, second := some ⟨s, g⟩, attempts := 0, exhausted := false })) ∧
     (∀ b x, r.best = some b → r.second = some x → b.station ≠ s → x.station = s →
       (g ≤ b.grade → t = { r with second := some ⟨s, g⟩ }) ∧
       (b.grade < g → t = { r with best := some ⟨s, g⟩, second := some b, attempts := 0, exhausted := false })))

/-- ASK_RECEIVED: the line is deferred for 550 ms unless this station fetches it; as primary this station declines with
UNKNOWN_CHART, NO_LINE or BUSY, does nothing more where the body is queued already, or queues the body, its snapshot made at once
when no write to the slot is queued; as fallback it starts a timer of 150 ms, restarts the line's with the new fields, or with four
of other lines running starts none; an ASK that names it as neither only defers (R33, R59, R125, R126, R128). A DECLINE is dropped
where its queue is full (R56), and under MUTE an ASK only defers (R126, R136). The ASKs that follow go out after the frame has acted (log
entry 40, DESIGN CHOICE). -/
def Obligations.AskIsServed : Prop :=
  ∀ (s : State) (frame : List Byte) (f : Frame) (a : Ask), s.config.state = .run → s.link.canTakeFrame = true →
    decodeFrame frame = some f → f.payload = .ask a → f.sender ≠ s.self →
    let b := (s.arrive frame).peerHeard f.sender
    let deferred := fun (c : Nat) =>
      if (s.fetchFor a.key a.line).isNone then
        Sparse.modify s.slots c (fun sl => sl.setRow a.line { sl.row a.line with
          deferral := some (max ((sl.row a.line).deferral.getD 0) (b.now + 550000)) })
      else s.slots
    let declined := fun (slots : List (Nat × Slot)) (reason : DeclineReason) => State.settle { b with
      slots := slots
      link := if s.link.askDecline.length < 8 then
          { b.link with askDecline := s.link.askDecline ++ [QueuedFrame.fresh (.decline
            { key := a.key, line := a.line, requester := f.sender, reason := reason })] }
        else b.link }
    let entry := fun (c : Nat) => s.entry c a.line
    let slots := match s.slotOfKey a.key with
      | some c => deferred c
      | none => s.slots
    (s.link.mute = true → exec (.askReceived frame) s = .next (State.settle { b with slots := slots })) ∧
    (s.link.mute = false → a.primary = s.self → s.slotOfKey a.key = none →
      exec (.askReceived frame) s = .next (declined s.slots .unknownChart)) ∧
    (s.link.mute = false → a.primary = s.self → ∀ c r, s.slotOfKey a.key = some c → s.record? c = some r →
      (r.state = .aligning → exec (.askReceived frame) s = .next (declined (deferred c) .noLine)) ∧
      (r.state ≠ .aligning → (∃ x ∈ s.fetch.bodies, x.key = a.key ∧ x.line = a.line) →
        exec (.askReceived frame) s = .next (State.settle { b with slots := deferred c })) ∧
      (r.state ≠ .aligning → (∀ x ∈ s.fetch.bodies, ¬(x.key = a.key ∧ x.line = a.line)) →
        ((entry c).committed ≤ 1 → s.shadow? c a.line = none →
          exec (.askReceived frame) s = .next (declined (deferred c) .noLine)) ∧
        ((1 < (entry c).committed ∨ s.shadow? c a.line ≠ none) → 2 ≤ s.fetch.bodies.length →
          exec (.askReceived frame) s = .next (declined (deferred c) .busy)) ∧
        (1 < (entry c).committed → s.fetch.bodies = [] → r.hold = .none →
          (∀ w ∈ s.lineTable.queue, w.slot = c → s.lineTable.nextOrder ≤ w.order) →
          let snap : Snapshot :=
            { grade := (entry c).committed, source := (entry c).source, pixels := s.readLine c a.line }
          let body : SendBody :=
            { slot := c, key := a.key, line := a.line, requester := f.sender, snapshot := some snap
              asked := s.lineTable.nextOrder, formed := true }
          exec (.askReceived frame) s = .next (State.settle { b with
            slots := deferred c
            fetch := { s.fetch with bodies := [body] }
            link := { b.link with segments := s.link.segments ++
              (bodySegments body snap s.config.settings.width).map (fun g => QueuedFrame.fresh (.body g)) } })))) ∧
    (s.link.mute = false → a.primary ≠ s.self →
      let timer : FallbackTimer :=
        { key := a.key, line := a.line, primary := a.primary, requester := f.sender, expiry := b.now + 150000 }
      let runs := fun (t : FallbackTimer) => t.key = a.key ∧ t.line = a.line
      let timed := fun (timers : List FallbackTimer) => State.settle { b with
        slots := slots, fetch := { s.fetch with timers := timers } }
      (a.fallback ≠ some s.self → exec (.askReceived frame) s = .next (State.settle { b with slots := slots })) ∧
      (a.fallback = some s.self →
        ((∃ t ∈ s.fetch.timers, runs t) → exec (.askReceived frame) s = .next
          (timed (s.fetch.timers.map (fun t => if runs t then timer else t)))) ∧
        ((∀ t ∈ s.fetch.timers, ¬runs t) → exec (.askReceived frame) s = .next
          (timed (if s.fetch.timers.length < 4 then s.fetch.timers ++ [timer] else s.fetch.timers)))))

/-- DECLINE_RECEIVED: a fallback timer whose primary sent it goes; addressed to this station it retires the fetch it answers,
removes the sender from the row with an attempt counted, or after BUSY defers the line for 550 ms (R116, R123 to R125, R128). One
that finds no entry still removes its sender or defers the line, with no attempt counted (R123); that it does the same where an entry
for the line stands which it does not end is the model's reading (log entry 22, DEDUCED). For an unknown chart no row changes.
With the best holder removed the second becomes best, and a station that the row does not list leaves it as it is (R116). The ASKs
that follow go out after the frame has acted (log entry 40, DESIGN CHOICE). -/
def Obligations.DeclineRetiresFetch : Prop :=
  (∀ (r : HolderRow) (st : Station),
     (∀ x, r.best = some x → x.station = st → r.remove st = { r with best := r.second, second := none }) ∧
     ((∀ x, r.best = some x → x.station ≠ st) →
       (∀ y, r.second = some y → y.station = st → r.remove st = { r with second := none }) ∧
       ((∀ y, r.second = some y → y.station ≠ st) → r.remove st = r))) ∧
  ∀ (s : State) (frame : List Byte) (f : Frame) (d : Decline), s.config.state = .run → s.link.canTakeFrame = true →
    decodeFrame frame = some f → f.payload = .decline d → f.sender ≠ s.self →
    let b := (s.arrive frame).peerHeard f.sender
    let timers := s.fetch.timers.filter (fun t => !(t.isFor d.key d.line && t.primary == f.sender))
    (d.requester ≠ s.self →
      exec (.declineReceived frame) s = .next (State.settle { b with fetch := { s.fetch with timers := timers } })) ∧
    (d.requester = s.self →
      (∀ e, s.fetchFor d.key d.line = some e →
        ¬(e.phase ≠ .askQueued ∧ (e.target = f.sender ∨ e.fallback = some f.sender))) →
      let late := fun (slots : List (Nat × Slot)) => State.settle { b with
        fetch := { s.fetch with timers := timers }, slots := slots }
      (s.slotOfKey d.key = none → exec (.declineReceived frame) s = .next (late s.slots)) ∧
      ∀ c, s.slotOfKey d.key = some c →
        exec (.declineReceived frame) s = .next (late (Sparse.modify s.slots c (fun sl => sl.setRow d.line
          (if d.reason = .busy then
             { sl.row d.line with deferral := some (max ((sl.row d.line).deferral.getD 0) (b.now + 550000)) }
           else (sl.row d.line).remove f.sender))))) ∧
    (d.requester = s.self → ∀ e c, s.fetchFor d.key d.line = some e → e.phase ≠ .askQueued →
      (e.target = f.sender ∨ e.fallback = some f.sender) → s.slotOfKey d.key = some c →
      let retired := fun (row : HolderRow → HolderRow) => State.settle { b with
        fetch := { s.fetch with timers := timers, fetches := s.fetch.fetches.filter (fun x => x != e) }
        slots := Sparse.modify s.slots c (fun sl => sl.setRow d.line (row (sl.row d.line))) }
      (d.reason = .busy → exec (.declineReceived frame) s = .next (retired (fun r => { r with
        deferral := some (max (r.deferral.getD 0) (b.now + 550000)) }))) ∧
      (d.reason ≠ .busy → exec (.declineReceived frame) s = .next (retired (fun r =>
        let removed := r.remove f.sender
        { removed with
          attempts := min 3 (r.attempts + 1), exhausted := r.exhausted || decide (2 ≤ r.attempts) }))))

/-- BODY_SEGMENT_RECEIVED. Segment 0 cancels a fallback timer of its line whose primary sent it, moves a fetch it answers to
RECEIVING for 400 ms, and opens its sender's context, or with the end mark leaves it idle; the next segment in its place goes on;
any other abandons the body (R121, R128, R130, R131). While the sender's last body waits its segments are dropped, a segment 0
being consulted for fetches and timers first, which is the model's reading (log entry 21, DEDUCED).
The last segment completes the body. For an unknown key it is discarded and the timers of its line go (R128, R132). Otherwise the
fetches of its line are retired, an ASK still queued being withdrawn, the timers of its line go, the line's row takes the grade
and loses its deferral, and the body is taken as a candidate, its context idle, where a write place is free and no store, own line
or body waits; else it waits in its context (R31, R32, R60, R119, R122, R128, R132, R133). That its sender counts as the one last
served even then is the model's reading (log entry 23, DEDUCED).
A row takes the grade for a station it lists, as best or second, and for no other; the two change places where the second's grade is
then the higher, and nothing else of the row changes (R116). The ASKs that follow go out after the frame has acted (log entry 40,
DESIGN CHOICE). -/
def Obligations.BodySegmentsAssemble : Prop :=
  (∀ (r : HolderRow) (st : Station) (g : Nat),
     let given := fun (h : Option Holder) => h.map (fun x => if x.station = st then { x with grade := g } else x)
     (r.lists st = true ↔ ∃ x, (r.best = some x ∨ r.second = some x) ∧ x.station = st) ∧
     (∀ b x, given r.best = some b → given r.second = some x →
       r.regrade st g = if b.grade < x.grade then { r with best := some x, second := some b }
         else { r with best := some b, second := some x }) ∧
     (r.best = none ∨ r.second = none → r.regrade st g = { r with best := given r.best, second := given r.second })) ∧
  ∀ (s : State) (frame : List Byte) (f : Frame) (g : Segment), s.config.state = .run → s.link.canTakeFrame = true →
    decodeFrame frame = some f → f.payload = .body g → f.sender ≠ s.self →
    let b := (s.arrive frame).peerHeard f.sender
    let n := f.sender.val
    let context := Sparse.find s.fetch.contexts n
    let ended := fun (t : FallbackTimer) => t.key = g.key ∧ t.line = g.line
    (∀ h, g.header = some h →
      let opened : Context :=
        { key := g.key, line := g.line, count := g.count, next := 1, grade := h.grade.toNat, source := h.source
          width := h.width, requester := h.requester, pixels := unpackGrays g.pixels, waitingSlot := none }
      let answers := fun (e : FetchEntry) => (e.phase = .awaitingFirst ∨ e.phase = .awaitingFallback) ∧
        (f.sender = e.target ∨ e.fallback = some f.sender ∨ h.requester = s.self)
      let consulted := fun (fetches : List FetchEntry) (contexts : List (Nat × Context)) => State.settle { b with
        fetch := { s.fetch with
          timers := s.fetch.timers.filter (fun t => !decide (ended t ∧ t.primary = f.sender))
          fetches := fetches, contexts := contexts } }
      ∀ contexts,
        (∃ c, context = some c ∧ c.waitingSlot ≠ none) ∧ contexts = s.fetch.contexts ∨
          (∀ c, context = some c → c.waitingSlot = none) ∧ contexts =
            (if g.endMark then Sparse.erase s.fetch.contexts n else Sparse.put s.fetch.contexts n opened) →
        ((∀ e, s.fetchFor g.key g.line = some e → ¬answers e) →
          exec (.bodySegmentReceived frame) s = .next (consulted s.fetch.fetches contexts)) ∧
        (∀ e, s.fetchFor g.key g.line = some e → answers e →
          exec (.bodySegmentReceived frame) s = .next (consulted (s.fetch.fetches.map (fun x =>
            if x = e then { e with phase := .receiving, deadline := some (b.now + 400000) } else x)) contexts))) ∧
    (g.header = none →
      (context = none ∨ (∃ c, context = some c ∧ c.waitingSlot ≠ none) →
        exec (.bodySegmentReceived frame) s = .next b.settle) ∧
      ∀ c, context = some c → c.waitingSlot = none →
        let fits := c.key = g.key ∧ c.line = g.line ∧ c.count = g.count ∧ c.next = g.number
        let grown := { c with pixels := c.pixels ++ unpackGrays g.pixels, next := c.next + 1 }
        let idle := Sparse.erase s.fetch.contexts n
        let timers := s.fetch.timers.filter (fun t => !decide (ended t))
        (fits → g.number + 1 ≠ g.count → g.endMark = false → exec (.bodySegmentReceived frame) s = .next (State.settle
          { b with fetch := { s.fetch with contexts := Sparse.put s.fetch.contexts n grown } })) ∧
        (¬fits ∨ (g.endMark = true ↔ g.number + 1 ≠ g.count) →
          exec (.bodySegmentReceived frame) s = .next (State.settle { b with
            fetch := { s.fetch with contexts := idle } })) ∧
        (fits → g.number + 1 = g.count → g.endMark = true →
          (s.slotOfKey g.key = none → exec (.bodySegmentReceived frame) s = .next (State.settle { b with
            fetch := { s.fetch with timers := timers, contexts := idle } })) ∧
          ∀ slot r, s.slotOfKey g.key = some slot → s.record? slot = some r → r.key = g.key → s.NoReads →
            s.lineTable.requests = [] →
            let complete := fun (contexts : List (Nat × Context)) (last : Station) => ({ b with
              slots := Sparse.modify s.slots slot (fun sl => sl.setRow g.line
                (if (sl.row g.line).lists f.sender then { sl.row g.line with deferral := none }.regrade f.sender c.grade
                 else { sl.row g.line with deferral := none }))
              fetch := { s.fetch with
                timers := timers, contexts := contexts
                fetches := s.fetch.fetches.filter (fun e => !decide (e.key = g.key ∧ e.line = g.line)) }
              link := if ∃ e ∈ s.fetch.fetches, e.key = g.key ∧ e.line = g.line ∧ e.phase = .askQueued then
                  b.link.withdrawAsk g.key g.line
                else b.link
              lineTable := { s.lineTable with lastServed := last } } : State)
            let otherWaits := s.lineTable.store ≠ none ∨ s.reception.buffers ≠ [] ∨
              ∃ m < 8, ∃ x, Sparse.find s.fetch.contexts m = some x ∧ x.waitingSlot ≠ none
            (s.lineTable.queue.length < 4 → ¬otherWaits →
              exec (.bodySegmentReceived frame) s = .next (State.settle (State.takeCandidate (complete idle f.sender)
                { slot := slot, line := g.line, grade := c.grade, source := c.source, origin := .peer
                  width := widthOfCode c.width, content := some grown.pixels, fingerprint := none, frees := none }))) ∧
            (4 ≤ s.lineTable.queue.length ∨ otherWaits →
              exec (.bodySegmentReceived frame) s = .next (State.settle (complete
                (Sparse.put s.fetch.contexts n { grown with waitingSlot := some slot }) s.lineTable.lastServed)))))

/-! ## Timers (chapters 4, 5 and 7) -/

/-- LOSS_TIMER_EXPIRY of a LIVE peer: the peer is LOST, PEER_LOST is posted, it is ENDED by LOSS in every record that lists it
ACTIVE, its fetch is retired with an attempt counted, its ASK withdrawn where it waits unsent, and its context in RECEIVING is
dropped (R60, R68, R86, R119, R124, R134). Of the records that listed it ACTIVE those close that are not bound and have no ACTIVE
contributor left or the quiet flag set: in ascending slot order they take the next close orders, each with CHART_CLOSED and as its
reason the last CLOSE reason, or QUIET (R86, R92). A timer's command acts at
its deadline, which station time reaches with it: the model's choice (log entry 10, DESIGN CHOICE). -/
def Obligations.LostPeerLeavesCharts : Prop :=
  ∀ (s : State) (peer : Station) (e : RosterEntry) (deadline : Nat), s.config.state = .run → s.rosterEntry peer = e →
    e.state = .live → e.lossDeadline = some deadline → s.TablesOrdered →
    let lost := { e with state := .lost, lossDeadline := none }
    let noneLeft := fun (r : ChartRecord) => r.contributors.all (fun x => x.station == peer || x.ended.isSome)
    let closes := fun (p : Nat × Slot) => isActive peer p.2.record.contributors && p.2.record.state != .closed &&
      !p.2.record.bound && (noneLeft p.2.record || p.2.record.quietFlag)
    let order := fun (c : Nat) => s.highestCloseOrder + 1 + (s.slots.filter (fun p => decide (p.1 < c) && closes p)).length
    let ended := fun (p : Nat × Slot) => { p.2.record with
      contributors := contributorEnds peer .loss p.2.record.contributors }
    let closed := fun (p : Nat × Slot) => { ended p with
      state := .closed, expected := none, quietDeadline := none, closeOrder := some (order p.1)
      closeReason := some (if noneLeft p.2.record then p.2.record.lastCloseReason.getD .quiet else .quiet) }
    let slots := s.slots.map (fun p => (p.1, ({ p.2 with record := if closes p then closed p else ended p } : Slot)))
    let left := { s with
      now := max s.now deadline
      roster := { s.roster with peers := Sparse.put s.roster.peers peer.val lost }
      attention := { s.attention with
        events := (s.slots.filter closes).foldl (fun events p => insertEvent ⟨.chartClosed, p.1⟩ events)
          (insertEvent ⟨.peerLost, peer.val⟩ s.attention.events) }
      slots := slots
      fetch := { s.fetch with contexts := s.fetch.contexts.filter (fun p =>
        p.1 != peer.val || p.2.waitingSlot.isSome) } }
    (s.fetchOf peer = none → exec (.lossTimerExpiry peer) s = .next (State.settle left)) ∧
    ∀ x, s.fetch.fetches.filter (fun y => y.target == peer) = [x] →
      exec (.lossTimerExpiry peer) s = .next (State.settle { left with
        link := if x.phase = .askQueued then s.link.withdrawAsk x.key x.line else s.link
        fetch := { left.fetch with fetches := s.fetch.fetches.filter (fun y => y != x) }
        slots := Sparse.modify slots x.slot (fun sl => sl.setRow x.line { sl.row x.line with
          attempts := min 3 ((sl.row x.line).attempts + 1)
          exhausted := (sl.row x.line).exhausted || decide (2 ≤ (sl.row x.line).attempts) }) })

/-- LISTEN_TIMER_EXPIRY: the station is JOINED, a joining HAIL is queued and the HAIL timer runs for 2 s; HAIL_TIMER_EXPIRY: a
HAIL with the joining flag as pending is queued and the timer runs for another 2 s from its expiry; under MUTE the HAIL is dropped
(R54, R71, R72). The HAIL takes the place of one that waits, and becomes the replacement, in place of an earlier one, while the held
HAIL is in flight (R58). A timer's command acts at its deadline, which station time reaches with it: the model's choice (log entry 10,
DESIGN CHOICE). -/
def Obligations.HailTimersQueueHails : Prop :=
  ∀ (s : State) (deadline : Nat), s.config.state = .run →
    let now := max s.now deadline
    let hail := fun (joining : Bool) => QueuedFrame.fresh (.hail
      { joining := joining, width := s.config.settings.width, rate := s.config.settings.rate
        boundKey := (s.reception.binding.bind s.record?).map ChartRecord.key })
    let queued := fun (joining : Bool) =>
      if s.link.mute then s.link
      else if s.link.hail ≠ none ∧ s.link.attempt = some .hail then { s.link with hailReplacement := some (hail joining) }
      else { s.link with hail := some (hail joining) }
    (s.roster.state = .listen → s.roster.listenDeadline = some deadline →
      exec .listenTimerExpiry s = .next (State.settle { s with
        now := now, link := queued true
        roster := { s.roster with
          state := .joined, listenDeadline := none, joiningPending := true, hailDeadline := some (deadline + 2000000) } })) ∧
    (s.roster.hailDeadline = some deadline →
      exec .hailTimerExpiry s = .next (State.settle { s with
        now := now, link := queued s.roster.joiningPending
        roster := { s.roster with hailDeadline := some (deadline + 2000000) } }))

/-- QUIET_TIMER_EXPIRY: the quiet flag is set; a bound or CLOSED record stands otherwise, another closes, with QUIET or, when
every contributor is ENDED, the last CLOSE reason, and CHART_CLOSED is posted (R92, R93). DEFERRAL_EXPIRY: the row has no
deferral any more (R125). A timer's command acts at
its deadline, which station time reaches with it: the model's choice (log entry 10, DESIGN CHOICE). -/
def Obligations.ChartTimersExpire : Prop :=
  ∀ (s : State) (c deadline : Nat) (r : ChartRecord), s.config.state = .run → s.record? c = some r →
    (r.quietDeadline = some deadline →
      (r.bound = true ∨ r.state = .closed → exec (.quietTimerExpiry c) s = .next (State.settle { s with
        now := max s.now deadline
        slots := Sparse.modify s.slots c (fun sl => { sl with record := { sl.record with
          quietFlag := true, quietDeadline := none } }) })) ∧
      (r.bound = false → r.state ≠ .closed → exec (.quietTimerExpiry c) s = .next (State.settle { s with
        now := max s.now deadline
        slots := Sparse.modify s.slots c (fun sl => { sl with record := { sl.record with
          quietFlag := true, quietDeadline := none, state := .closed, expected := none
          closeOrder := some (s.highestCloseOrder + 1)
          closeReason := some (if allEnded sl.record.contributors then sl.record.lastCloseReason.getD .quiet else .quiet) } })
        attention := { s.attention with events := insertEvent ⟨.chartClosed, c⟩ s.attention.events } }))) ∧
    ∀ line row, (s.slot? c).map (fun sl => sl.row line) = some row → row.deferral = some deadline →
      exec (.deferralExpiry c line) s = .next (State.settle { s with
        now := max s.now deadline
        slots := Sparse.modify s.slots c (fun sl => sl.setRow line { sl.row line with deferral := none }) })

/-- FETCH_FIRST_DEADLINE: a fetch with a fallback awaits it for another 150 ms, one without times out; FETCH_TIMEOUT: the fetch
is retired; a time-out counts an attempt, and the third exhausts the line (R119, R121, R124). A timer's command acts at
its deadline, which station time reaches with it: the model's choice (log entry 10, DESIGN CHOICE). -/
def Obligations.FetchTimersExpire : Prop :=
  ∀ (s : State) (target : Station) (e : FetchEntry) (deadline : Nat), s.config.state = .run → s.fetchOf target = some e →
    e.deadline = some deadline →
    let now := max s.now deadline
    let timedOut := State.settle { s with
      now := now
      fetch := { s.fetch with fetches := s.fetch.fetches.filter (fun x => x != e) }
      slots := Sparse.modify s.slots e.slot (fun sl => sl.setRow e.line { sl.row e.line with
        attempts := min 3 ((sl.row e.line).attempts + 1)
        exhausted := (sl.row e.line).exhausted || decide (2 ≤ (sl.row e.line).attempts) }) }
    (e.phase = .awaitingFirst → e.fallback ≠ none →
      exec (.fetchFirstDeadline target) s = .next (State.settle { s with
        now := now
        fetch := { s.fetch with fetches := s.fetch.fetches.map (fun x =>
          if x = e then { e with phase := .awaitingFallback, deadline := some (now + 150000) } else x) } })) ∧
    (e.phase = .awaitingFirst → e.fallback = none → exec (.fetchFirstDeadline target) s = .next timedOut) ∧
    (e.phase = .awaitingFallback ∨ e.phase = .receiving → exec (.fetchTimeout target) s = .next timedOut)

/-- FALLBACK_TIMER_EXPIRY: the timer goes and this station serves its requester as if the ASK had named it primary: a body is
queued with its snapshot, or a DECLINE, which is dropped where its queue is full (R56, R126 to R128). A timer's command acts at
its deadline, which station time reaches with it: the model's choice (log entry 10, DESIGN CHOICE). -/
def Obligations.FallbackTimerServes : Prop :=
  ∀ (s : State) (before after : List FallbackTimer) (t : FallbackTimer), s.config.state = .run →
    s.fetch.timers = before ++ t :: after → (∀ x ∈ before ++ after, x.isFor t.key t.line = false) → s.link.mute = false →
    let declined := fun (reason : DeclineReason) => State.settle { s with
      now := max s.now t.expiry, fetch := { s.fetch with timers := before ++ after }
      link := if s.link.askDecline.length < 8 then
          { s.link with askDecline := s.link.askDecline ++ [QueuedFrame.fresh (.decline
            { key := t.key, line := t.line, requester := t.requester, reason := reason })] }
        else s.link }
    (s.slotOfKey t.key = none → exec (.fallbackTimerExpiry t.key t.line) s = .next (declined .unknownChart)) ∧
    ∀ c r, s.slotOfKey t.key = some c → s.record? c = some r → r.state ≠ .aligning → s.fetch.bodies = [] →
      ((s.entry c t.line).committed ≤ 1 → s.shadow? c t.line = none →
        exec (.fallbackTimerExpiry t.key t.line) s = .next (declined .noLine)) ∧
      (1 < (s.entry c t.line).committed → r.hold = .none →
        (∀ w ∈ s.lineTable.queue, w.slot = c → s.lineTable.nextOrder ≤ w.order) →
        let snap : Snapshot :=
          { grade := (s.entry c t.line).committed, source := (s.entry c t.line).source, pixels := s.readLine c t.line }
        let body : SendBody :=
          { slot := c, key := t.key, line := t.line, requester := t.requester, snapshot := some snap
            asked := s.lineTable.nextOrder, formed := true }
        exec (.fallbackTimerExpiry t.key t.line) s = .next (State.settle { s with
          now := max s.now t.expiry
          fetch := { s.fetch with timers := before ++ after, bodies := [body] }
          link := { s.link with segments := s.link.segments ++
            (bodySegments body snap s.config.settings.width).map (fun g => QueuedFrame.fresh (.body g)) } }))

/-! ## The chart port and the attention unit (chapters 10 and 11) -/

/-- FREEZE: refused with BAD_SLOT or HELD; a slot that is not quiet makes it wait, holding its place; a quiet slot without a
write queued for its composite is FROZEN at once and answered OK (R37, R142, R143, R178, R181).
THAW: refused with BAD_SLOT or NOT_HELD; otherwise answered OK at once, the hold THAWING while the slot has SHADOW entries,
else NONE with THAW_DONE posted (R146). Where no candidate waited before it the first merge line is taken as it arrives, its MERGE
write queued without a test (R27, R31, R147); that the lines behind it wait is the model's reading (log entry 41, DEDUCED). -/
def Obligations.HoldRequestsAreAnswered : Prop :=
  (∀ (s : State) (slot : Byte), s.portReady = true →
     let c := slot.toNat
     let answered := fun (x : State) => State.clockOut x.settle [0x01, 0, 0]
     let refused := fun (result : Result) =>
       answered { s with port := { s.port with queue := s.port.queue ++ [.ack 0x03 result 0] } }
     (s.slotCount ≤ c ∨ s.slot? c = none → exec (.freeze slot) s = .next (refused .badSlot)) ∧
     ∀ r, c < s.slotCount → s.record? c = some r →
       (r.hold = .frozen ∨ QuietRequest.freeze c ∈ s.lineTable.requests → exec (.freeze slot) s = .next (refused .held)) ∧
       (r.hold ≠ .frozen → QuietRequest.freeze c ∉ s.lineTable.requests →
         (s.quiet c = false → exec (.freeze slot) s = .next (answered { s with
           lineTable := { s.lineTable with requests := s.lineTable.requests ++ [QuietRequest.freeze c] } })) ∧
         (s.quiet c = true → s.lineTable.requests = [] → s.NoReads →
           (∀ w ∈ s.lineTable.queue, w.kind = .pool ∨ w.slot ≠ c) →
           (∀ p ∈ s.slots, p.1 = c → ∀ q ∈ p.2.entries, q.2.pending = none ∧ q.2 ≠ LineEntry.empty) →
           exec (.freeze slot) s = .next (answered (State.startNext { s with
             slots := Sparse.modify s.slots c (fun sl => { sl with record := { sl.record with hold := .frozen } })
             port := { s.port with queue := s.port.queue ++ [.ack 0x03 .ok 0] } }))))) ∧
  (∀ (s : State) (slot : Byte), s.portReady = true →
     let c := slot.toNat
     let answered := fun (x : State) (result : Result) => State.clockOut (State.settle { x with
       port := { s.port with queue := s.port.queue ++ [.ack 0x04 result 0] } }) [0x01, 0, 0]
     let held := fun (h : Hold) =>
       ({ s with slots := Sparse.modify s.slots c (fun sl => { sl with record := { sl.record with hold := h } }) } : State)
     (s.slotCount ≤ c ∨ s.slot? c = none → exec (.thaw slot) s = .next (answered s .badSlot)) ∧
     ∀ r, c < s.slotCount → s.record? c = some r →
       (r.hold ≠ .frozen → exec (.thaw slot) s = .next (answered s .notHeld)) ∧
       (r.hold = .frozen → (∃ p ∈ s.pool, p.2.kind = .shadow ∧ p.2.slot = c) →
         s.candidateWaits = true ∨ 4 ≤ s.lineTable.queue.length →
         exec (.thaw slot) s = .next (answered (held .thawing) .ok)) ∧
       (∀ n e, r.hold = .frozen → Sparse.find s.pool n = some e → e.kind = .shadow → e.slot = c → e.merging = false →
         (∀ p ∈ s.pool, p.1 ≠ n → p.2.kind = .shadow → p.2.slot = c → p.2.merging = false → e.line < p.2.line) →
         Sparse.Rising s.pool → s.candidateWaits = false → s.lineTable.queue.length < 4 → s.NoReads →
         s.lineTable.requests = [] →
         exec (.thaw slot) s = .next (State.clockOut (State.settle (State.modifyEntry (State.startNext { held .thawing with
           pool := Sparse.modify s.pool n (fun e => { e with merging := true })
           port := { s.port with queue := s.port.queue ++ [.ack 0x04 .ok 0] }
           lineTable := { s.lineTable with
             nextOrder := s.lineTable.nextOrder + 1
             queue := s.lineTable.queue ++
               [({ order := s.lineTable.nextOrder, kind := .merge, slot := c, target := e.line
                   grade := e.pending.getD (e.written.getD 0)
                   source := ((s.newestWrite (fun w => w.intoPool n)).map Write.source).getD
                     (e.source.getD (Config.absentSource e.line))
                   origin := some .merged, content := none, frees := some n } : Write)] } })
           c e.line (fun x => { x with pending := some (e.pending.getD (e.written.getD 0)) }))) [0x01, 0, 0])) ∧
       (r.hold = .frozen → (∀ p ∈ s.pool, ¬(p.2.kind = .shadow ∧ p.2.slot = c)) →
         exec (.thaw slot) s = .next (answered { held .none with
           attention := { s.attention with events := insertEvent ⟨.thawDone, c⟩ s.attention.events } } .ok)))

/-- DISCARD: refused with BAD_SLOT, ACTIVE or HELD in that order, changing nothing else; otherwise the slot is released and the
answer is OK (R94).
A release, at one instant (R40, R95): the record leaves with its entries and rows, and the close orders above its own fall by 1; a
READ_LINES that waits for the slot is answered as the lines stand; every write, request, buffered own line, store and pool entry
of the slot goes, a write in progress being cut short; its fetches are retired, an ASK still queued being withdrawn; its fallback
timers, batch, waiting bodies and bodies to send go, the head body's segments being withdrawn, one in flight when its attempt
ends; a migration into it ends; its events leave the pending set; a freeze that waits for it is answered BAD_SLOT (R60, R106, R119,
R135, R142, R152, R174, R180, R181). The next write starts, and the next body's segments are formed.
That the body behind a withdrawn head is the head at once (log entry 39, DESIGN CHOICE), that the answers stand in the order LINES,
the freeze's BAD_SLOT, the DISCARD's own (log entry 38, DESIGN CHOICE), and that the alignment's count of lines handed and its
expected offset are 0 after its slot's release (log entry 43, DESIGN CHOICE), is the model's choice. -/
def Obligations.DiscardReleasesSlot : Prop :=
  (∀ (s : State) (slot : Byte), s.portReady = true →
    let c := slot.toNat
    let answered := fun (x : State) (result : Result) => State.clockOut (State.settle { x with
      port := { x.port with queue := x.port.queue ++ [.ack 0x05 result 0] } }) [0x01, 0, 0]
    (s.slotCount ≤ c ∨ s.slot? c = none → exec (.discard slot) s = .next (answered s .badSlot)) ∧
    ∀ r, c < s.slotCount → s.record? c = some r →
      (r.state ≠ .closed → exec (.discard slot) s = .next (answered s .active)) ∧
      (r.state = .closed → r.hold ≠ .none → exec (.discard slot) s = .next (answered s .held)) ∧
      (r.state = .closed → r.hold = .none → exec (.discard slot) s = .next (answered (s.releaseSlot c) .ok))) ∧
  ∀ (s : State) (c : Nat) (r : ChartRecord), s.record? c = some r →
    let t := s.releaseSlot c
    let asked := s.fetch.fetches.filter (fun e => e.slot = c ∧ e.phase = .askQueued)
    let remaining := s.fetch.bodies.filter (fun b => b.slot != c)
    let headGoes := ∃ b, s.fetch.bodies.head? = some b ∧ b.slot = c ∧ b.formed = true
    let segments := if headGoes then
        if s.link.attempt = some .body then (s.link.segments.take 1).map (fun f => { f with withdrawn := true }) else []
      else s.link.segments
    t = State.startNext { s with
      memory := t.memory, interruptedWrites := t.interruptedWrites
      slots := (Sparse.erase s.slots c).map (fun (p : Nat × Slot) => (p.1, { p.2 with record := { p.2.record with
        closeOrder := p.2.record.closeOrder.map (fun o => if r.closeOrder.getD 0 < o then o - 1 else o) } }))
      pool := s.pool.filter (fun p => p.2.slot != c)
      lineTable := { s.lineTable with
        requests := s.lineTable.requests.filter (fun q => q != QuietRequest.splitClear c && q != QuietRequest.freeze c)
        store := s.lineTable.store.filter (fun st => st.slot != c)
        queue := s.lineTable.queue.filter (fun w => w.slot != c)
        started := s.lineTable.started && s.lineTable.queue.head?.any (fun w => w.slot != c) }
      reception := { s.reception with buffers := s.reception.buffers.filter (fun b => b.slot != c) }
      link := { s.link with
        segments := t.link.segments
        askDecline := withdrawFrom (fun q => asked.any (fun e => q.isAsk e.key e.line)) (s.link.attempt = some .askDecline)
          s.link.askDecline }
      fetch :=
        { batch := s.fetch.batch.filter (fun b => b.slot != c)
          fetches := s.fetch.fetches.filter (fun e => e.slot != c)
          timers := s.fetch.timers.filter (fun t => t.key != r.key)
          bodies := t.fetch.bodies
          contexts := s.fetch.contexts.filter (fun p => p.2.waitingSlot != some c) }
      alignment := if s.alignment.slot = some c then
          { state := .idle, slot := none, key := none, expected := 0, handed := 0, provisional := [], references := []
            migration := [] }
        else s.alignment
      attention := { s.attention with
        events := s.attention.events.filter (fun e => !(e.kind.slotKind && e.argument == c)) }
      port := { s.port with
        read := s.port.read.filter (fun x => x.slot != c)
        queue := s.port.queue ++
          (match s.port.read with
           | some x => if x.slot = c then
               [.lines .ok (BitVec.ofNat 8 c) x.first ((List.range x.count).map (fun i => s.lineItem c (x.first + i)))]
             else []
           | none => []) ++
          (if QuietRequest.freeze c ∈ s.lineTable.requests then [.ack 0x03 .badSlot 0] else []) } } ∧
    (∀ a, (∀ w, s.lineTable.started = true → s.lineTable.queue.head? = some w → w.slot = c →
        a < s.writeAddress w ∨ s.writeAddress w + (s.writeBytes w).length ≤ a) →
      Memory.readByte t.memory a = Memory.readByte s.memory a) ∧
    ((∀ b, remaining.head? = some b → b.snapshot = none ∨ b.formed = true) →
      t.fetch.bodies = remaining ∧ t.link.segments = segments) ∧
    ∀ b rest snap, remaining = b :: rest → b.snapshot = some snap → b.formed = false →
      t.fetch.bodies = { b with formed := true } :: rest ∧
      t.link.segments = segments ++
        (bodySegments b snap s.config.settings.width).map (fun g => QueuedFrame.fresh (.body g))

/-- One pending entry ranks above another, as R168 says: by effective level, then promoted kinds in the order of their
promotion, then the order of the table of kinds, then the lower argument. -/
def ranksAbove (promotions : List EventKind) (a b : Event) : Prop :=
  let level := fun (e : Event) => if e.kind ∈ promotions then 6 else e.kind.level
  let place := fun (e : Event) => promotions.idxOf e.kind
  level b < level a ∨ level a = level b ∧ (place a < place b ∨ place a = place b ∧
    (a.kind.code < b.kind.code ∨ a.kind.code = b.kind.code ∧ a.argument < b.argument))

/-- ATTENTION is asserted while some pending entry's effective level exceeds the mask (R169).
TAKE and POLL: the entry that ranks above all others of the named effective level, or of the whole set, leaves the set and
is the answer; with none there the answer is SPURIOUS or NONE and nothing leaves (R168, R172, R173). -/
def Obligations.EventsAreTakenByRank : Prop :=
  ∀ s : State, s.portReady = true → s.EventsDistinct → s.attention.promotions.length ≤ 2 →
    let p := s.attention.promotions
    let level := fun (e : Event) => if e.kind ∈ p then 6 else e.kind.level
    let answered := fun (events : List Event) (bytes : List Byte) (response : Response) => ({ s with
      attention := { s.attention with events := events }
      port := { s.port with queue := s.port.queue ++ [response], clockedOut := bytes } } : State)
    (s.attentionOutput = true ↔ ∃ e ∈ s.attention.events, s.attention.mask < level e) ∧
    (∀ n : Byte, (∀ e ∈ s.attention.events, level e ≠ n.toNat) →
      exec (.take n) s = .next (answered s.attention.events [0x01, 0, 0] (.event 0x06 .spurious))) ∧
    (∀ (n : Byte) (e : Event), e ∈ s.attention.events → level e = n.toNat →
      (∀ x ∈ s.attention.events, level x = n.toNat → x = e ∨ ranksAbove p e x) →
      exec (.take n) s = .next
        (answered (s.attention.events.filter (fun x => x != e)) [0x01, 0, 0] (.event 0x06 (.event e)))) ∧
    (s.attention.events = [] → exec .poll s = .next (answered [] [0x01, 0] (.event 0x07 .none))) ∧
    ∀ e, e ∈ s.attention.events → (∀ x ∈ s.attention.events, x = e ∨ ranksAbove p e x) →
      exec .poll s = .next (answered (s.attention.events.filter (fun x => x != e)) [0x01, 0] (.event 0x07 (.event e)))

/-- SET_MASK takes 0 to 6 as it stands and 7 as 6, refuses more, and answers the mask in force (R170, R179, R182); that the
refusing answer carries it too is the model's reading (log entry 25, DEDUCED). PROMOTE with a kind
code that names no kind or a level-7 kind is refused whole; otherwise the kinds given, 00 for absent, are the promotion list, a
repeated one once (R171). -/
def Obligations.MaskAndPromotionsAreSet : Prop :=
  ∀ s : State, s.portReady = true →
    let answered := fun (a : Attention) (bytes : List Byte) (response : Response) => ({ s with
      attention := a, port := { s.port with queue := s.port.queue ++ [response], clockedOut := bytes } } : State)
    let kinds : List EventKind :=
      [.restarted, .lineFault, .directoryFull, .shadowFull, .alignSplit, .alignAbandoned, .chartOpened, .chartClosed,
       .chartAligned, .thawDone, .peerLost, .peerJoined, .linesImproved]
    let named := fun (code : Byte) => kinds[code.toNat - 3]?
    let refused := fun (code : Byte) => code.toNat = 1 ∨ code.toNat = 2 ∨ 15 < code.toNat
    (∀ mask : Byte, mask.toNat ≤ 7 → exec (.setMask mask) s = .next
      (answered { s.attention with mask := min mask.toNat 6 } [0x01, 0, 0]
        (.ack 0x08 .ok (BitVec.ofNat 8 (min mask.toNat 6))))) ∧
    (∀ mask : Byte, 7 < mask.toNat → exec (.setMask mask) s = .next
      (answered s.attention [0x01, 0, 0] (.ack 0x08 .badRequest (BitVec.ofNat 8 s.attention.mask)))) ∧
    (∀ first second : Byte, refused first ∨ refused second → exec (.promote first second) s = .next
      (answered s.attention [0x01, 0, 0, 0] (.ack 0x09 .badKind 0))) ∧
    (∀ first second : Byte, ¬refused first → ¬refused second →
      let list := match (if first = 0 then none else named first), (if second = 0 then none else named second) with
        | some a, some b => if a = b then [a] else [a, b]
        | some a, none => [a]
        | none, some b => [b]
        | none, none => []
      exec (.promote first second) s = .next
        (answered { s.attention with promotions := list } [0x01, 0, 0, 0] (.ack 0x09 .ok 0)))

/-- READ_DIRECTORY, STATUS and READ_STRAPS join their report to the response queue and change nothing else: one place per slot
with the record, the filled lines and the pool entries; the station's state, roster and counts; the latched bits and the
effective settings (R45, R63, R76, R97, R138, R155, R179, R184). -/
def Obligations.ReportsChangeNothing : Prop :=
  ∀ s : State, s.portReady = true →
    let answered := fun (response : Response) => ({ s with port := { s.port with
      queue := s.port.queue ++ [response], clockedOut := [0x01, 0] } } : State)
    (∃ slots, exec .readDirectory s = .next (answered (.directory slots)) ∧ slots.length = s.slotCount ∧
      ∀ c, c < s.slotCount → slots[c]? = some ((s.slot? c).map (fun sl =>
        { record := sl.record, filled := (sl.entries.filter (fun p => p.2.committed != 0)).length
          pool := (s.pool.filter (fun p => p.2.slot = c)).length }))) ∧
    (∃ report, exec .status s = .next (answered (.status report)) ∧
      report.state = (if s.link.mute then .mute else if s.roster.state = .listen then .listen else .joined) ∧
      report.station = s.self ∧ report.binding = s.reception.binding ∧ report.unphased = s.reception.unphased ∧
      report.demodulator = s.reception.state ∧ report.poolInUse = s.pool.length ∧
      report.provisionalInUse = (s.pool.filter (fun p => p.2.kind = .provisional)).length ∧
      report.fetchesInUse = s.fetch.fetches.length ∧ report.slotCount = s.slotCount ∧
      report.width = s.config.settings.width ∧ report.causes = s.config.causes ∧ report.roster.length = 8 ∧
      ∀ i : Station, report.roster[i.val]? = some (if i = s.self then .self else .peer (s.rosterEntry i))) ∧
    exec .readStraps s = .next (answered (.straps s.config.latched s.config.settings))

/-- BAD_REQUEST: a request of bad form is answered by an ACK with its kind byte and BAD_REQUEST (R179, R182). That the answer
carries the mask in force where the kind byte is SET_MASK's, whatever the message's length, is the model's reading (log entry
25, DEDUCED). Any request written while the port reads FULL in RUN is ignored (R177). -/
def Obligations.BadAndLateRequestsChangeNothing : Prop :=
  ∀ s : State, s.config.state = .run →
    (∀ (kind : Byte) (rest : List Byte), s.portReady = true → requestFormGood (kind :: rest) = false →
      exec (.badRequest (kind :: rest)) s = .next { s with port := { s.port with
        queue := s.port.queue ++ [.ack kind .badRequest (if kind = 0x08 then BitVec.ofNat 8 s.attention.mask else 0)]
        clockedOut := 0x01 :: List.replicate (rest.length + 1) 0 } }) ∧
    (4 ≤ s.port.queue.length + s.placesHeld → ∀ c : Instr, isTransfer c = true → (∀ clocking, c ≠ .readTransfer clocking) →
      c.wellFormed = true →
      ∃ n, exec c s = .next { s with port := { s.port with clockedOut := 0x02 :: List.replicate n 0 } })

/-- READ_TRANSFER in RUN: after the status the head response is clocked out in its byte layout, zeros following it, and leaves
the queue with its first byte; with no response waiting zeros are clocked out. A transfer whose first byte names neither WRITE
nor READ is IGNORED: zeros are clocked out and nothing leaves the queue (R177, R182).
The bytes of a response are those of the tables of R182: a kind byte, a two-byte count of the bytes that follow, and the body. Of a
LINES response the end mark stands on the last item only (R180); READ_STRAPS gives the latched bits in stream order, bit 0 in bit 7
of the first byte, and the nine effective codes in the order of the fields (R184). Bits to which chapter 11 gives no meaning, which the
model sends as 0 (log entry 37), are not stated, but for the event kind byte of an answer SPURIOUS or NONE: that it is 0 is the
model's choice (log entry 37, DESIGN CHOICE), and no rule's. -/
def Obligations.ReadTransferTakesHead : Prop :=
  let octet := fun (l : List Byte) (i : Nat) => l.getD i 0
  let field := fun (b : Byte) (low width : Nat) => b.toNat / 2 ^ low % 2 ^ width
  let word := fun (l : List Byte) (i : Nat) => 256 * (octet l i).toNat + (octet l (i + 1)).toNat
  let code := fun (r : Result) => BitVec.ofNat 8
    ([Result.ok, .badSlot, .held, .notHeld, .active, .busyRead, .badKind, .badRequest].idxOf r)
  (∀ r : Response, r.bytes.length < 65539 → word r.bytes 1 + 3 = r.bytes.length) ∧
  (∀ (request : Byte) (result : Result) (value : Byte), (Response.ack request result value).bytes =
     [0x83, 0, 3, request, code result, value]) ∧
  (∀ request : Byte,
     let kinds : List EventKind :=
       [.stationConflict, .configFault, .restarted, .lineFault, .directoryFull, .shadowFull, .alignSplit, .alignAbandoned,
        .chartOpened, .chartClosed, .chartAligned, .thawDone, .peerLost, .peerJoined, .linesImproved]
     (∀ e : Event, (Response.event request (.event e)).bytes =
       [0x84, 0, 4, request, 0, BitVec.ofNat 8 (kinds.idxOf e.kind + 1), BitVec.ofNat 8 e.argument]) ∧
     (Response.event request .spurious).bytes = [0x84, 0, 4, request, 1, 0, 0] ∧
     (Response.event request .none).bytes = [0x84, 0, 4, request, 2, 0, 0]) ∧
  (∀ (result : Result) (slot : Byte) (first : Nat) (items : List LineItem) (half : Nat),
     (∀ x ∈ items, x.pixels.length = 2 * half) →
     let b := (Response.lines result slot first items).bytes
     b.length = 8 + items.length * (4 + half) ∧ octet b 0 = 0x81 ∧ octet b 3 = code result ∧ octet b 4 = slot ∧
       word b 5 = first % 65536 ∧ octet b 7 = BitVec.ofNat 8 items.length ∧
       ∀ i x, items[i]? = some x →
         let o := 8 + i * (4 + half)
         word b o = x.line % 65536 ∧ octet b (o + 2) = BitVec.ofNat 8 x.grade ∧
           ((octet b (o + 3)).getLsbD 7 = true ↔ i + 1 = items.length) ∧ (octet b (o + 3)).getLsbD 6 = x.held ∧
           (octet b (o + 3)).getLsbD 5 = x.source.isSome ∧
           field (octet b (o + 3)) 3 2 = [none, some Origin.own, some .peer, some .merged].idxOf x.origin ∧
           (∀ st, x.source = some st → field (octet b (o + 3)) 0 3 = st.val) ∧
           ∀ j, j < half → field (octet b (o + 4 + j)) 4 4 = (x.pixels.getD (2 * j) 0).toNat ∧
             field (octet b (o + 4 + j)) 0 4 = (x.pixels.getD (2 * j + 1) 0).toNat) ∧
  (∀ slots : List (Option SlotReport),
     let b := (Response.directory slots).bytes
     b.length = 4 + 23 * slots.length ∧ octet b 0 = 0x82 ∧ octet b 3 = BitVec.ofNat 8 slots.length ∧
       (∀ i, slots[i]? = some none → ∀ j, j < 23 → octet b (4 + 23 * i + j) = 0) ∧
       ∀ i p, slots[i]? = some (some p) →
         let o := 4 + 23 * i
         let r := p.record
         ((octet b o).getLsbD 7 = true ∧ (octet b o).getLsbD 6 = r.bound ∧ (octet b o).getLsbD 5 = r.late ∧
           field (octet b o) 3 2 = [ChartState.aligning, .opened, .closed].idxOf r.state ∧
           field (octet b o) 1 2 = [Hold.none, .frozen, .thawing].idxOf r.hold) ∧
         (field (octet b (o + 1)) 6 2 = r.rate.val ∧ (octet b (o + 1)).getLsbD 5 = r.offset.isSome ∧
           (octet b (o + 1)).getLsbD 4 = r.expected.isSome ∧ (octet b (o + 1)).getLsbD 3 = r.highest.isSome ∧
           field (octet b (o + 1)) 0 3 = r.key.origin.val ∧ octet b (o + 2) = r.key.sequence) ∧
         ((word b (o + 3) : Int) = r.offset.getD 0 % 65536 ∧ word b (o + 5) = r.expected.getD 0 % 65536 ∧
           word b (o + 7) = r.highest.getD 0 % 65536) ∧
         (octet b (o + 9) = (match r.closeReason with
             | some x => BitVec.ofNat 8
                 ([CloseReason.stop, .fade, .length, .newStart, .reset, .quiet, .splitAway].idxOf x)
             | none => 7) ∧
           octet b (o + 10) = BitVec.ofNat 8 (r.closeOrder.getD 0)) ∧
         (word b (o + 11) = p.filled % 65536 ∧ word b (o + 13) = p.pool % 65536) ∧
         (∀ j x, j < 8 → r.contributors[j]? = some x →
           (octet b (o + 15 + j)).getLsbD 7 = true ∧ (octet b (o + 15 + j)).getLsbD 6 = x.ended.isNone ∧
             field (octet b (o + 15 + j)) 4 2 = [none, some EndCause.close, some .loss, some .reset].idxOf x.ended ∧
             field (octet b (o + 15 + j)) 0 3 = x.station.val) ∧
         ∀ j, j < 8 → r.contributors.length ≤ j → octet b (o + 15 + j) = 0) ∧
  (∀ report : StatusReport, report.binding.getD 0 < 16 → report.causes.Nodup →
     let b := (Response.status report).bytes
     b.length = 12 + 3 * report.roster.length ∧ octet b 0 = 0x85 ∧
       field (octet b 3) 4 2 = [ReportedState.listen, .joined, .mute].idxOf report.state ∧
       field (octet b 3) 0 3 = report.station.val ∧
       (octet b 4).getLsbD 7 = report.binding.isSome ∧ (∀ c, report.binding = some c → field (octet b 4) 3 4 = c) ∧
       (octet b 4).getLsbD 2 = report.unphased ∧
       field (octet b 4) 0 2 = [Demodulator.search, .startTone, .phasing, .image].idxOf report.demodulator ∧
       word b 5 = report.poolInUse % 65536 ∧ octet b 7 = BitVec.ofNat 8 report.provisionalInUse ∧
       octet b 8 = BitVec.ofNat 8 report.fetchesInUse ∧ octet b 9 = BitVec.ofNat 8 report.slotCount ∧
       octet b 10 = BitVec.ofNat 8 report.width.val ∧
       (∀ k cause, [FaultCause.widthCode, .rateCode, .depthCode, .reservedBits, .widthReduced][k]? = some cause →
         ((octet b 11).getLsbD k = true ↔ cause ∈ report.causes)) ∧
       ∀ i place, report.roster[i]? = some place →
         let o := 12 + 3 * i
         (place = .self → field (octet b o) 6 2 = 3) ∧
         ∀ e, place = .peer e → field (octet b o) 6 2 = [PeerState.absent, .live, .lost].idxOf e.state ∧
           (octet b o).getLsbD 5 = e.lastHail.isSome ∧
           ∀ h, e.lastHail = some h → (octet b o).getLsbD 4 = h.boundKey.isSome ∧ field (octet b o) 2 2 = h.width.val ∧
             field (octet b o) 0 2 = h.rate.val ∧
             ∀ k, h.boundKey = some k → octet b (o + 1) = BitVec.ofNat 8 k.origin.val ∧ octet b (o + 2) = k.sequence) ∧
  (∀ (latched : BitVec 64) (st : Settings),
     let b := (Response.straps latched st).bytes
     b.length = 20 ∧ octet b 0 = 0x86 ∧
       (∀ k, k < 64 → (octet b (3 + k / 8)).getLsbD (7 - k % 8) = latched.getLsbD (63 - k)) ∧
       b.drop 11 = [st.station.val, st.rate.val, st.width.val, st.margin, st.thresholdCode, st.floorCode,
         if st.fallbackEnable then 1 else 0, st.bankCode, st.depthCode.val].map (BitVec.ofNat 8)) ∧
  ∀ (s : State) (clocks : Nat), s.config.state = .run →
    let status : Byte := if s.port.queue.length + s.placesHeld < 4 then 0x01 else 0x02
    (s.port.queue = [] → exec (.readTransfer ⟨0x02, clocks⟩) s = .next { s with port := { s.port with
      clockedOut := status :: List.replicate clocks 0 } }) ∧
    (∀ r rest, s.port.queue = r :: rest →
      ∃ out, exec (.readTransfer ⟨0x02, clocks⟩) s = .next { s with port := { s.port with
          queue := if clocks = 0 then r :: rest else rest
          clockedOut := status :: out } } ∧
        out.length = clocks ∧ ∀ i, i < clocks → out.getD i 0 = r.bytes.getD i 0) ∧
    ∀ first : Byte, first ≠ 0x01 → first ≠ 0x02 →
      exec (.readTransfer ⟨first, clocks⟩) s = .next { s with port := { s.port with
        clockedOut := status :: List.replicate clocks 0 } }
end

