-- ==== Sys2Proof/Laws/Sparse.lean ====
section
/-!
SUPPORT. The laws of sparse tables: what is found after a put, an erase or a change, and that the keys go on rising.
-/
namespace Sys2Proof.Machine

variable {α : Type}

@[simp] theorem Sparse.find_nil (n : Nat) : Sparse.find ([] : List (Nat × α)) n = none := rfl

theorem Sparse.find_cons (k : Nat) (v : α) (t : List (Nat × α)) (n : Nat) :
    Sparse.find ((k, v) :: t) n = if k = n then some v else Sparse.find t n := rfl

/-- What is found under a key after a value was put under it. -/
@[simp] theorem Sparse.find_put_same (m : List (Nat × α)) (n : Nat) (v : α) :
    Sparse.find (Sparse.put m n v) n = some v := by
  induction m with
  | nil => simp [Sparse.put, Sparse.find]
  | cons p t ih =>
    obtain ⟨k, w⟩ := p
    simp only [Sparse.put]
    split
    · simp [Sparse.find]
    · split
      · simp [Sparse.find]
      · rw [Sparse.find_cons, if_neg (by omega), ih]

/-- A put under one key leaves what is found under every other. -/
theorem Sparse.find_put_other (m : List (Nat × α)) (n : Nat) (v : α) (a : Nat) (h : a ≠ n) :
    Sparse.find (Sparse.put m n v) a = Sparse.find m a := by
  induction m with
  | nil => simp [Sparse.put, Sparse.find, Ne.symm h]
  | cons p t ih =>
    obtain ⟨k, w⟩ := p
    simp only [Sparse.put]
    split
    · rw [Sparse.find_cons, if_neg (Ne.symm h)]
    · split
      · next hk => subst hk; simp [Sparse.find, Ne.symm h]
      · simp [Sparse.find, ih]

@[simp] theorem Sparse.find_erase_same (m : List (Nat × α)) (n : Nat) : Sparse.find (Sparse.erase m n) n = none := by
  induction m with
  | nil => rfl
  | cons p t ih =>
    obtain ⟨k, w⟩ := p
    by_cases h : k = n
    · subst h; simpa [Sparse.erase] using ih
    · simp only [Sparse.erase] at ih
      simp [Sparse.erase, h, Sparse.find, ih]

theorem Sparse.find_erase_other (m : List (Nat × α)) (n a : Nat) (h : a ≠ n) :
    Sparse.find (Sparse.erase m n) a = Sparse.find m a := by
  induction m with
  | nil => rfl
  | cons p t ih =>
    obtain ⟨k, w⟩ := p
    simp only [Sparse.erase] at ih ⊢
    by_cases hk : k = n
    · subst hk; simp [Sparse.find, Ne.symm h, ih]
    · simp [hk, Sparse.find, ih]

@[simp] theorem Sparse.find_modify_same (m : List (Nat × α)) (n : Nat) (f : α → α) :
    Sparse.find (Sparse.modify m n f) n = (Sparse.find m n).map f := by
  induction m with
  | nil => rfl
  | cons p t ih =>
    obtain ⟨k, w⟩ := p
    simp only [Sparse.modify, List.map_cons] at ih ⊢
    by_cases hk : k = n
    · simp [hk, Sparse.find]
    · simp [hk, Sparse.find, ih]

theorem Sparse.find_modify_other (m : List (Nat × α)) (n a : Nat) (f : α → α) (h : a ≠ n) :
    Sparse.find (Sparse.modify m n f) a = Sparse.find m a := by
  induction m with
  | nil => rfl
  | cons p t ih =>
    obtain ⟨k, w⟩ := p
    simp only [Sparse.modify, List.map_cons] at ih ⊢
    by_cases hk : k = n
    · subst hk; simp [Sparse.find, Ne.symm h, ih]
    · simp [hk, Sparse.find, ih]

/-- What is found is listed. -/
theorem Sparse.mem_of_find {m : List (Nat × α)} {n : Nat} {v : α} (h : Sparse.find m n = some v) : (n, v) ∈ m := by
  induction m with
  | nil => simp at h
  | cons p t ih =>
    obtain ⟨k, w⟩ := p
    rw [Sparse.find_cons] at h
    split at h
    · next hk => subst hk; cases h; simp
    · exact List.mem_cons_of_mem _ (ih h)

/-- The keys of a table after a put are those before and the one put. -/
theorem Sparse.mem_put {m : List (Nat × α)} {n : Nat} {v : α} {q : Nat × α} (h : q ∈ Sparse.put m n v) :
    q = (n, v) ∨ q ∈ m := by
  induction m with
  | nil => simpa [Sparse.put] using h
  | cons p t ih =>
    obtain ⟨k, w⟩ := p
    simp only [Sparse.put] at h
    split at h
    · simpa using h
    · split at h
      · rcases List.mem_cons.1 h with h | h
        · exact .inl h
        · exact .inr (List.mem_cons_of_mem _ h)
      · rcases List.mem_cons.1 h with h | h
        · exact .inr (by simp [h])
        · exact (ih h).imp_right (List.mem_cons_of_mem _)

/-- A put keeps the keys rising. -/
theorem Sparse.rising_put {m : List (Nat × α)} (n : Nat) (v : α) (h : Sparse.Rising m) :
    Sparse.Rising (Sparse.put m n v) := by
  induction m with
  | nil => simp [Sparse.put]
  | cons p t ih =>
    obtain ⟨k, w⟩ := p
    obtain ⟨h1, h2⟩ := List.pairwise_cons.1 h
    simp only [Sparse.put]
    split
    · next hn =>
      refine List.pairwise_cons.2 ⟨fun q hq => ?_, h⟩
      rcases List.mem_cons.1 hq with rfl | hq
      · exact hn
      · exact Nat.lt_trans hn (h1 q hq)
    · split
      · next hk => subst hk; exact List.pairwise_cons.2 ⟨h1, h2⟩
      · next h3 h4 =>
        refine List.pairwise_cons.2 ⟨fun q hq => ?_, ih h2⟩
        rcases Sparse.mem_put hq with rfl | hq
        · show k < n
          omega
        · exact h1 q hq

/-- An erasure keeps the keys rising. -/
theorem Sparse.rising_erase {m : List (Nat × α)} (n : Nat) (h : Sparse.Rising m) : Sparse.Rising (Sparse.erase m n) :=
  List.Pairwise.filter _ h

/-- A filter keeps the keys rising. -/
theorem Sparse.rising_filter {m : List (Nat × α)} (p : Nat × α → Bool) (h : Sparse.Rising m) :
    Sparse.Rising (m.filter p) := List.Pairwise.filter _ h

/-- A map that keeps the keys keeps them rising. -/
theorem Sparse.rising_map {β : Type} {m : List (Nat × α)} (f : Nat × α → Nat × β) (hf : ∀ p, (f p).1 = p.1)
    (h : Sparse.Rising m) : Sparse.Rising (m.map f) := by
  refine List.pairwise_map.2 (h.imp ?_)
  intro a b hab
  rw [hf, hf]
  exact hab

/-- A change of one value keeps the keys rising. -/
theorem Sparse.rising_modify {m : List (Nat × α)} (n : Nat) (f : α → α) (h : Sparse.Rising m) :
    Sparse.Rising (Sparse.modify m n f) :=
  Sparse.rising_map _ (fun p => by by_cases hp : p.1 = n <;> simp [hp]) h

/-- A table with rising keys finds what it lists. -/
theorem Sparse.find_of_mem {m : List (Nat × α)} {n : Nat} {v : α} (hr : Sparse.Rising m) (h : (n, v) ∈ m) :
    Sparse.find m n = some v := by
  induction m with
  | nil => simp at h
  | cons p t ih =>
    obtain ⟨k, w⟩ := p
    obtain ⟨h1, h2⟩ := List.pairwise_cons.1 hr
    rw [Sparse.find_cons]
    rcases List.mem_cons.1 h with h | h
    · cases h; simp
    · have := h1 (n, v) h
      simp only at this
      rw [if_neg (by omega), ih h2 h]

/-- A change of a value just put is a put of the changed value. -/
theorem Sparse.modify_put (m : List (Nat × α)) (c : Nat) (v : α) (f : α → α) (h : Sparse.Rising m) :
    Sparse.modify (Sparse.put m c v) c f = Sparse.put m c (f v) := by
  induction m with
  | nil => simp [Sparse.put, Sparse.modify]
  | cons p t ih =>
    obtain ⟨k, w⟩ := p
    obtain ⟨h1, h2⟩ := List.pairwise_cons.1 h
    have hm : ∀ t : List (Nat × α), (∀ p ∈ t, p.1 ≠ c) → Sparse.modify t c f = t := by
      intro t ht
      unfold Sparse.modify
      conv => rhs; rw [← List.map_id t]
      exact List.map_congr_left (fun p hp => by simp [ht p hp])
    simp only [Sparse.put]
    split
    · have := hm ((k, w) :: t) (by
        intro p hp
        rcases List.mem_cons.1 hp with rfl | hp
        · simp; omega
        · have := h1 p hp; simp at this; omega)
      simp only [Sparse.modify, List.map_cons] at this ⊢
      rw [this]; simp
    · split
      · rename_i h4
        subst h4
        simp only [Sparse.modify, List.map_cons]
        exact congrArg _ (hm t (fun p hp => by have := h1 p hp; simp at this; omega))
      · have := ih h2
        simp only [Sparse.modify, List.map_cons] at this ⊢
        rw [this, if_neg (by omega)]

/-- Two changes under one key are one change. -/
theorem Sparse.modify_modify (m : List (Nat × α)) (c : Nat) (f g : α → α) :
    Sparse.modify (Sparse.modify m c f) c g = Sparse.modify m c (fun x => g (f x)) := by
  simp only [Sparse.modify, List.map_map]
  exact List.map_congr_left (fun p _ => by by_cases h : p.1 = c <;> simp [h])

/-- A change that leaves what the key lists as it was leaves the table as it was. -/
theorem Sparse.modify_id (m : List (Nat × α)) (c : Nat) (f : α → α) (h : ∀ p ∈ m, p.1 = c → f p.2 = p.2) :
    Sparse.modify m c f = m := by
  unfold Sparse.modify
  conv => rhs; rw [← List.map_id m]
  apply List.map_congr_left
  intro p hp
  by_cases hc : p.1 = c
  · simp [hc, h p hp hc]; rw [← hc]
  · simp [hc]

/-- What any key finds after a change. -/
theorem Sparse.find_modify (m : List (Nat × α)) (c d : Nat) (f : α → α) :
    Sparse.find (Sparse.modify m c f) d = if d = c then (Sparse.find m d).map f else Sparse.find m d := by
  split
  · rename_i h; subst h; exact Sparse.find_modify_same m d f
  · rename_i h; exact Sparse.find_modify_other m c d f h

/-- The lowest free key of a table with rising keys is the first, from `n` up, that it does not list. -/
theorem Sparse.lowestFree_eq (m : List (Nat × α)) (n c : Nat) (h : Sparse.Rising m) (hc : Sparse.find m c = none)
    (hn : n ≤ c) (hb : ∀ b, n ≤ b → b < c → (Sparse.find m b).isSome) : Sparse.lowestFree m n = c := by
  induction m generalizing n with
  | nil =>
    show n = c
    by_contra h'
    have := hb n (by omega) (by omega)
    simp at this
  | cons p t ih =>
    obtain ⟨k, w⟩ := p
    obtain ⟨h1, h2⟩ := List.pairwise_cons.1 h
    rw [Sparse.find_cons] at hc
    have hne : k ≠ c := by intro h; simp [h] at hc
    rw [if_neg hne] at hc
    have hfind : ∀ b, b ≠ k → Sparse.find ((k, w) :: t) b = Sparse.find t b := by
      intro b hb; simp [Sparse.find, Ne.symm hb]
    simp only [Sparse.lowestFree]
    split
    · apply ih (n + 1) h2 hc (by omega)
      intro b hb1 hb2
      have := hb b (by omega) hb2
      rwa [hfind b (by omega)] at this
    · split
      · apply ih n h2 hc hn
        intro b hb1 hb2
        have := hb b hb1 hb2
        rwa [hfind b (by omega)] at this
      · by_contra h'
        have := hb n (by omega) (by omega)
        rw [hfind n (by omega)] at this
        obtain ⟨v, hv⟩ := Option.isSome_iff_exists.1 this
        have := h1 _ (Sparse.mem_of_find hv)
        simp at this; omega

/-- A filtered map that keeps the keys leaves them rising. -/
theorem Sparse.rising_filterMap {β : Type} {m : List (Nat × α)} (f : Nat × α → Option (Nat × β))
    (hf : ∀ p q, f p = some q → q.1 = p.1) (h : Sparse.Rising m) : Sparse.Rising (m.filterMap f) := by
  apply List.Pairwise.filterMap f _ h
  intro a b hab c hc d hd
  rw [hf a c hc, hf b d hd]
  exact hab

end Sys2Proof.Machine
end

