-- ==== Sys2Proof/Laws/Memory.lean ====
section
/-!
SUPPORT. The laws of chart memory: a write keeps the canonical form, writes its own bytes, and leaves every other byte.
-/
namespace Sys2Proof.Machine

/-- Every cell of a run lies in the run and is not what an unlisted address reads as. -/
theorem Memory.mem_cells {a : Nat} {l : List Byte} {c : Host.Cell} (h : c ∈ Memory.cells a l) :
    a ≤ c.1 ∧ c.1 < a + l.length ∧ c.2 ≠ Memory.unlisted := by
  induction l generalizing a with
  | nil => simp [Memory.cells] at h
  | cons b t ih =>
    simp only [Memory.cells] at h
    split at h
    · obtain ⟨h1, h2, h3⟩ := ih h
      exact ⟨by omega, by simp; omega, h3⟩
    · next hb =>
      rcases List.mem_cons.1 h with rfl | h
      · exact ⟨Nat.le_refl _, by simp, hb⟩
      · obtain ⟨h1, h2, h3⟩ := ih h
        exact ⟨by omega, by simp; omega, h3⟩

theorem Memory.rising_cells (a : Nat) (l : List Byte) : Sparse.Rising (Memory.cells a l) := by
  induction l generalizing a with
  | nil => simp [Memory.cells]
  | cons b t ih =>
    simp only [Memory.cells]
    split
    · exact ih (a + 1)
    · refine List.pairwise_cons.2 ⟨fun c hc => ?_, ih (a + 1)⟩
      have := (Memory.mem_cells hc).1
      show a < c.1
      omega

/-- A write keeps the canonical form. -/
theorem Memory.wf_write {m : List Host.Cell} (a : Nat) (l : List Byte) (h : Memory.wf m) : Memory.wf (Memory.write m a l) := by
  obtain ⟨h1, h2⟩ := h
  constructor
  · unfold Memory.write
    refine List.pairwise_append.2 ⟨List.pairwise_append.2
      ⟨Sparse.rising_filter _ h1, Memory.rising_cells a l, ?_⟩, Sparse.rising_filter _ h1, ?_⟩
    · intro x hx y hy
      have hx := (List.mem_filter.1 hx).2
      have hy := (Memory.mem_cells hy).1
      simp only [decide_eq_true_eq] at hx
      omega
    · intro x hx y hy
      have hy := (List.mem_filter.1 hy).2
      simp only [decide_eq_true_eq] at hy
      rcases List.mem_append.1 hx with hx | hx
      · have hx := (List.mem_filter.1 hx).2
        simp only [decide_eq_true_eq] at hx
        omega
      · have := (Memory.mem_cells hx).2.1
        omega
  · intro c hc
    unfold Memory.write at hc
    rcases List.mem_append.1 hc with hc | hc
    · rcases List.mem_append.1 hc with hc | hc
      · exact h2 c (List.mem_filter.1 hc).1
      · exact (Memory.mem_cells hc).2.2
    · exact h2 c (List.mem_filter.1 hc).1

/-- What is found in two tables put one after the other. -/
theorem Sparse.find_append {α : Type} (m n : List (Nat × α)) (a : Nat) :
    Sparse.find (m ++ n) a = (Sparse.find m a).orElse fun _ => Sparse.find n a := by
  induction m with
  | nil => simp
  | cons p t ih =>
    obtain ⟨k, w⟩ := p
    simp only [List.cons_append, Sparse.find_cons]
    split <;> simp [ih]

/-- A filter on the key leaves what is found under the keys it keeps, and finds nothing under the others. -/
theorem Sparse.find_filter_key {α : Type} (m : List (Nat × α)) (p : Nat → Bool) (a : Nat) :
    Sparse.find (m.filter (fun c => p c.1)) a = if p a then Sparse.find m a else none := by
  induction m with
  | nil => simp
  | cons q t ih =>
    obtain ⟨k, w⟩ := q
    cases hk : p k
    · rw [List.filter_cons_of_neg (by simp [hk]), ih, Sparse.find_cons]
      by_cases h : k = a
      · subst h; simp [hk]
      · simp [h]
    · rw [List.filter_cons_of_pos (by simp [hk]), Sparse.find_cons, ih, Sparse.find_cons]
      by_cases h : k = a
      · subst h; simp [hk]
      · simp [h]

/-- The cells of a run find each of its bytes that is listed. -/
theorem Memory.find_cells (a : Nat) (l : List Byte) (b : Nat) :
    (Sparse.find (Memory.cells a l) b).getD Memory.unlisted = if a ≤ b then l.getD (b - a) Memory.unlisted else Memory.unlisted := by
  induction l generalizing a with
  | nil => simp [Memory.cells]
  | cons x t ih =>
    simp only [Memory.cells]
    by_cases hx : x = Memory.unlisted
    · rw [if_pos hx, ih (a + 1)]
      by_cases h1 : a + 1 ≤ b
      · have : b - a = (b - (a + 1)) + 1 := by omega
        rw [if_pos h1, if_pos (by omega), this]
        simp
      · rw [if_neg h1]
        by_cases h2 : a ≤ b
        · have : b - a = 0 := by omega
          rw [if_pos h2, this]
          simp [hx]
        · rw [if_neg h2]
    · rw [if_neg hx, Sparse.find_cons]
      by_cases h : a = b
      · subst h; simp
      · rw [if_neg h, ih (a + 1)]
        by_cases h1 : a + 1 ≤ b
        · have : b - a = (b - (a + 1)) + 1 := by omega
          rw [if_pos h1, if_pos (by omega), this]
          simp
        · rw [if_neg h1, if_neg (by omega)]

theorem Memory.find_cells_outside (a : Nat) (l : List Byte) (b : Nat) (h : b < a ∨ a + l.length ≤ b) :
    Sparse.find (Memory.cells a l) b = none := by
  cases hf : Sparse.find (Memory.cells a l) b with
  | none => rfl
  | some v =>
    have := Memory.mem_cells (Sparse.mem_of_find hf)
    simp only at this
    omega

/-- A write leaves every byte outside its run. -/
theorem Memory.readByte_write_outside (m : List Host.Cell) (a : Nat) (l : List Byte) (b : Nat)
    (h : b < a ∨ a + l.length ≤ b) : Memory.readByte (Memory.write m a l) b = Memory.readByte m b := by
  unfold Memory.readByte Memory.write
  rw [Sparse.find_append, Sparse.find_append, Memory.find_cells_outside a l b h,
    Sparse.find_filter_key m (fun k => decide (k < a)), Sparse.find_filter_key m (fun k => decide (a + l.length ≤ k))]
  rcases h with h | h
  · rw [if_pos (by simpa using h), if_neg (by simp; omega)]
    cases Sparse.find m b <;> rfl
  · rw [if_neg (by simp; omega), if_pos (by simpa using h)]
    rfl

/-- A write writes its own bytes. -/
theorem Memory.readByte_write_inside (m : List Host.Cell) (a : Nat) (l : List Byte) (i : Nat) (h : i < l.length) :
    Memory.readByte (Memory.write m a l) (a + i) = l[i] := by
  unfold Memory.readByte Memory.write
  rw [Sparse.find_append, Sparse.find_append,
    Sparse.find_filter_key m (fun k => decide (k < a)), Sparse.find_filter_key m (fun k => decide (a + l.length ≤ k)),
    if_neg (by simp), if_neg (by simp; omega)]
  have := Memory.find_cells a l (a + i)
  rw [if_pos (by omega)] at this
  simp only [Nat.add_sub_cancel_left] at this
  have hl : l.getD i Memory.unlisted = l[i] := by simp [List.getD_eq_getElem?_getD, h]
  rw [hl] at this
  rw [← this]
  cases Sparse.find (Memory.cells a l) (a + i) <;> rfl

end Sys2Proof.Machine
end

