-- ==== Sys2Proof/Laws/State.lean ====
section
/-!
SUPPORT. What each plain update of State leaves in each of its fields, one lemma a field, true by rfl.
-/
namespace Sys2Proof.Machine

variable (s : State)

@[simp] theorem State.elapse_pending (t : Nat) : (s.elapse t).pending = s.pending := rfl
@[simp] theorem State.elapse_now (t : Nat) : (s.elapse t).now = s.now + t := rfl
@[simp] theorem State.elapse_config (t : Nat) : (s.elapse t).config = s.config := rfl
@[simp] theorem State.elapse_reception (t : Nat) : (s.elapse t).reception = s.reception := rfl
@[simp] theorem State.elapse_lineTable (t : Nat) : (s.elapse t).lineTable = s.lineTable := rfl
@[simp] theorem State.elapse_memory (t : Nat) : (s.elapse t).memory = s.memory := rfl
@[simp] theorem State.elapse_slots (t : Nat) : (s.elapse t).slots = s.slots := rfl
@[simp] theorem State.elapse_originSequence (t : Nat) : (s.elapse t).originSequence = s.originSequence := rfl
@[simp] theorem State.elapse_link (t : Nat) : (s.elapse t).link = s.link := rfl
@[simp] theorem State.elapse_roster (t : Nat) : (s.elapse t).roster = s.roster := rfl
@[simp] theorem State.elapse_alignment (t : Nat) : (s.elapse t).alignment = s.alignment := rfl
@[simp] theorem State.elapse_fetch (t : Nat) : (s.elapse t).fetch = s.fetch := rfl
@[simp] theorem State.elapse_pool (t : Nat) : (s.elapse t).pool = s.pool := rfl
@[simp] theorem State.elapse_attention (t : Nat) : (s.elapse t).attention = s.attention := rfl
@[simp] theorem State.elapse_port (t : Nat) : (s.elapse t).port = s.port := rfl
@[simp] theorem State.elapse_interruptedWrites (t : Nat) : (s.elapse t).interruptedWrites = s.interruptedWrites := rfl

@[simp] theorem State.reach_pending (d : Nat) : (s.reach d).pending = s.pending := rfl
@[simp] theorem State.reach_now (d : Nat) : (s.reach d).now = max s.now d := rfl
@[simp] theorem State.reach_config (d : Nat) : (s.reach d).config = s.config := rfl
@[simp] theorem State.reach_reception (d : Nat) : (s.reach d).reception = s.reception := rfl
@[simp] theorem State.reach_lineTable (d : Nat) : (s.reach d).lineTable = s.lineTable := rfl
@[simp] theorem State.reach_memory (d : Nat) : (s.reach d).memory = s.memory := rfl
@[simp] theorem State.reach_slots (d : Nat) : (s.reach d).slots = s.slots := rfl
@[simp] theorem State.reach_originSequence (d : Nat) : (s.reach d).originSequence = s.originSequence := rfl
@[simp] theorem State.reach_link (d : Nat) : (s.reach d).link = s.link := rfl
@[simp] theorem State.reach_roster (d : Nat) : (s.reach d).roster = s.roster := rfl
@[simp] theorem State.reach_alignment (d : Nat) : (s.reach d).alignment = s.alignment := rfl
@[simp] theorem State.reach_fetch (d : Nat) : (s.reach d).fetch = s.fetch := rfl
@[simp] theorem State.reach_pool (d : Nat) : (s.reach d).pool = s.pool := rfl
@[simp] theorem State.reach_attention (d : Nat) : (s.reach d).attention = s.attention := rfl
@[simp] theorem State.reach_port (d : Nat) : (s.reach d).port = s.port := rfl
@[simp] theorem State.reach_interruptedWrites (d : Nat) : (s.reach d).interruptedWrites = s.interruptedWrites := rfl

@[simp] theorem State.withPending_pending (l : List Instr) : (s.withPending l).pending = l := rfl
@[simp] theorem State.withPending_now (l : List Instr) : (s.withPending l).now = s.now := rfl
@[simp] theorem State.withPending_config (l : List Instr) : (s.withPending l).config = s.config := rfl
@[simp] theorem State.withPending_reception (l : List Instr) : (s.withPending l).reception = s.reception := rfl
@[simp] theorem State.withPending_lineTable (l : List Instr) : (s.withPending l).lineTable = s.lineTable := rfl
@[simp] theorem State.withPending_memory (l : List Instr) : (s.withPending l).memory = s.memory := rfl
@[simp] theorem State.withPending_slots (l : List Instr) : (s.withPending l).slots = s.slots := rfl
@[simp] theorem State.withPending_originSequence (l : List Instr) : (s.withPending l).originSequence = s.originSequence := rfl
@[simp] theorem State.withPending_link (l : List Instr) : (s.withPending l).link = s.link := rfl
@[simp] theorem State.withPending_roster (l : List Instr) : (s.withPending l).roster = s.roster := rfl
@[simp] theorem State.withPending_alignment (l : List Instr) : (s.withPending l).alignment = s.alignment := rfl
@[simp] theorem State.withPending_fetch (l : List Instr) : (s.withPending l).fetch = s.fetch := rfl
@[simp] theorem State.withPending_pool (l : List Instr) : (s.withPending l).pool = s.pool := rfl
@[simp] theorem State.withPending_attention (l : List Instr) : (s.withPending l).attention = s.attention := rfl
@[simp] theorem State.withPending_port (l : List Instr) : (s.withPending l).port = s.port := rfl
@[simp] theorem State.withPending_interruptedWrites (l : List Instr) : (s.withPending l).interruptedWrites = s.interruptedWrites := rfl

@[simp] theorem State.enterSending_pending : (s.enterSending).pending = s.pending := rfl
@[simp] theorem State.enterSending_now : (s.enterSending).now = s.now := rfl
@[simp] theorem State.enterSending_config : (s.enterSending).config = s.config := rfl
@[simp] theorem State.enterSending_reception : (s.enterSending).reception = s.reception := rfl
@[simp] theorem State.enterSending_lineTable : (s.enterSending).lineTable = s.lineTable := rfl
@[simp] theorem State.enterSending_memory : (s.enterSending).memory = s.memory := rfl
@[simp] theorem State.enterSending_slots : (s.enterSending).slots = s.slots := rfl
@[simp] theorem State.enterSending_originSequence : (s.enterSending).originSequence = s.originSequence := rfl
@[simp] theorem State.enterSending_link : (s.enterSending).link = { s.link with transmitter :=
    if s.link.transmitter = .arbitrating ∧ s.link.frameStart + 9 ≤ s.now then .sending else s.link.transmitter } := rfl
@[simp] theorem State.enterSending_roster : (s.enterSending).roster = s.roster := rfl
@[simp] theorem State.enterSending_alignment : (s.enterSending).alignment = s.alignment := rfl
@[simp] theorem State.enterSending_fetch : (s.enterSending).fetch = s.fetch := rfl
@[simp] theorem State.enterSending_pool : (s.enterSending).pool = s.pool := rfl
@[simp] theorem State.enterSending_attention : (s.enterSending).attention = s.attention := rfl
@[simp] theorem State.enterSending_port : (s.enterSending).port = s.port := rfl
@[simp] theorem State.enterSending_interruptedWrites : (s.enterSending).interruptedWrites = s.interruptedWrites := rfl

@[simp] theorem State.tick_pending : (s.tick).pending = s.pending := rfl
@[simp] theorem State.tick_now : (s.tick).now = s.now + 1 := rfl
@[simp] theorem State.tick_config : (s.tick).config = s.config := rfl
@[simp] theorem State.tick_reception : (s.tick).reception = s.reception := rfl
@[simp] theorem State.tick_lineTable : (s.tick).lineTable = s.lineTable := rfl
@[simp] theorem State.tick_memory : (s.tick).memory = s.memory := rfl
@[simp] theorem State.tick_slots : (s.tick).slots = s.slots := rfl
@[simp] theorem State.tick_originSequence : (s.tick).originSequence = s.originSequence := rfl
@[simp] theorem State.tick_link : (s.tick).link = { s.link with transmitter :=
    if s.link.transmitter = .arbitrating ∧ s.link.frameStart + 9 ≤ s.now + 1 then .sending else s.link.transmitter } := rfl
@[simp] theorem State.tick_roster : (s.tick).roster = s.roster := rfl
@[simp] theorem State.tick_alignment : (s.tick).alignment = s.alignment := rfl
@[simp] theorem State.tick_fetch : (s.tick).fetch = s.fetch := rfl
@[simp] theorem State.tick_pool : (s.tick).pool = s.pool := rfl
@[simp] theorem State.tick_attention : (s.tick).attention = s.attention := rfl
@[simp] theorem State.tick_port : (s.tick).port = s.port := rfl
@[simp] theorem State.tick_interruptedWrites : (s.tick).interruptedWrites = s.interruptedWrites := rfl

@[simp] theorem State.storeWrite_pending (w : Write) : (s.storeWrite w).pending = s.pending := rfl
@[simp] theorem State.storeWrite_now (w : Write) : (s.storeWrite w).now = s.now := rfl
@[simp] theorem State.storeWrite_config (w : Write) : (s.storeWrite w).config = s.config := rfl
@[simp] theorem State.storeWrite_reception (w : Write) : (s.storeWrite w).reception = s.reception := rfl
@[simp] theorem State.storeWrite_lineTable (w : Write) : (s.storeWrite w).lineTable = s.lineTable := rfl
@[simp] theorem State.storeWrite_memory (w : Write) : (s.storeWrite w).memory = Memory.write s.memory (s.writeAddress w) (s.writeBytes w) := rfl
@[simp] theorem State.storeWrite_slots (w : Write) : (s.storeWrite w).slots = s.slots := rfl
@[simp] theorem State.storeWrite_originSequence (w : Write) : (s.storeWrite w).originSequence = s.originSequence := rfl
@[simp] theorem State.storeWrite_link (w : Write) : (s.storeWrite w).link = s.link := rfl
@[simp] theorem State.storeWrite_roster (w : Write) : (s.storeWrite w).roster = s.roster := rfl
@[simp] theorem State.storeWrite_alignment (w : Write) : (s.storeWrite w).alignment = s.alignment := rfl
@[simp] theorem State.storeWrite_fetch (w : Write) : (s.storeWrite w).fetch = s.fetch := rfl
@[simp] theorem State.storeWrite_pool (w : Write) : (s.storeWrite w).pool = s.pool := rfl
@[simp] theorem State.storeWrite_attention (w : Write) : (s.storeWrite w).attention = s.attention := rfl
@[simp] theorem State.storeWrite_port (w : Write) : (s.storeWrite w).port = s.port := rfl
@[simp] theorem State.storeWrite_interruptedWrites (w : Write) : (s.storeWrite w).interruptedWrites = s.interruptedWrites := rfl

@[simp] theorem State.interruptWrite_pending (w : Write) : (s.interruptWrite w).pending = s.pending := rfl
@[simp] theorem State.interruptWrite_now (w : Write) : (s.interruptWrite w).now = s.now := rfl
@[simp] theorem State.interruptWrite_config (w : Write) : (s.interruptWrite w).config = s.config := rfl
@[simp] theorem State.interruptWrite_reception (w : Write) : (s.interruptWrite w).reception = s.reception := rfl
@[simp] theorem State.interruptWrite_lineTable (w : Write) : (s.interruptWrite w).lineTable = s.lineTable := rfl
@[simp] theorem State.interruptWrite_slots (w : Write) : (s.interruptWrite w).slots = s.slots := rfl
@[simp] theorem State.interruptWrite_originSequence (w : Write) : (s.interruptWrite w).originSequence = s.originSequence := rfl
@[simp] theorem State.interruptWrite_link (w : Write) : (s.interruptWrite w).link = s.link := rfl
@[simp] theorem State.interruptWrite_roster (w : Write) : (s.interruptWrite w).roster = s.roster := rfl
@[simp] theorem State.interruptWrite_alignment (w : Write) : (s.interruptWrite w).alignment = s.alignment := rfl
@[simp] theorem State.interruptWrite_fetch (w : Write) : (s.interruptWrite w).fetch = s.fetch := rfl
@[simp] theorem State.interruptWrite_pool (w : Write) : (s.interruptWrite w).pool = s.pool := rfl
@[simp] theorem State.interruptWrite_attention (w : Write) : (s.interruptWrite w).attention = s.attention := rfl
@[simp] theorem State.interruptWrite_port (w : Write) : (s.interruptWrite w).port = s.port := rfl
@[simp] theorem State.interruptWrite_interruptedWrites (w : Write) : (s.interruptWrite w).interruptedWrites = s.interruptedWrites + 1 := rfl

@[simp] theorem State.modifySlot_pending (c : Nat) (f : Slot → Slot) : (s.modifySlot c f).pending = s.pending := rfl
@[simp] theorem State.modifySlot_now (c : Nat) (f : Slot → Slot) : (s.modifySlot c f).now = s.now := rfl
@[simp] theorem State.modifySlot_config (c : Nat) (f : Slot → Slot) : (s.modifySlot c f).config = s.config := rfl
@[simp] theorem State.modifySlot_reception (c : Nat) (f : Slot → Slot) : (s.modifySlot c f).reception = s.reception := rfl
@[simp] theorem State.modifySlot_lineTable (c : Nat) (f : Slot → Slot) : (s.modifySlot c f).lineTable = s.lineTable := rfl
@[simp] theorem State.modifySlot_memory (c : Nat) (f : Slot → Slot) : (s.modifySlot c f).memory = s.memory := rfl
@[simp] theorem State.modifySlot_slots (c : Nat) (f : Slot → Slot) : (s.modifySlot c f).slots = Sparse.modify s.slots c f := rfl
@[simp] theorem State.modifySlot_originSequence (c : Nat) (f : Slot → Slot) : (s.modifySlot c f).originSequence = s.originSequence := rfl
@[simp] theorem State.modifySlot_link (c : Nat) (f : Slot → Slot) : (s.modifySlot c f).link = s.link := rfl
@[simp] theorem State.modifySlot_roster (c : Nat) (f : Slot → Slot) : (s.modifySlot c f).roster = s.roster := rfl
@[simp] theorem State.modifySlot_alignment (c : Nat) (f : Slot → Slot) : (s.modifySlot c f).alignment = s.alignment := rfl
@[simp] theorem State.modifySlot_fetch (c : Nat) (f : Slot → Slot) : (s.modifySlot c f).fetch = s.fetch := rfl
@[simp] theorem State.modifySlot_pool (c : Nat) (f : Slot → Slot) : (s.modifySlot c f).pool = s.pool := rfl
@[simp] theorem State.modifySlot_attention (c : Nat) (f : Slot → Slot) : (s.modifySlot c f).attention = s.attention := rfl
@[simp] theorem State.modifySlot_port (c : Nat) (f : Slot → Slot) : (s.modifySlot c f).port = s.port := rfl
@[simp] theorem State.modifySlot_interruptedWrites (c : Nat) (f : Slot → Slot) : (s.modifySlot c f).interruptedWrites = s.interruptedWrites := rfl

@[simp] theorem State.modifyRecord_pending (c : Nat) (f : ChartRecord → ChartRecord) : (s.modifyRecord c f).pending = s.pending := rfl
@[simp] theorem State.modifyRecord_now (c : Nat) (f : ChartRecord → ChartRecord) : (s.modifyRecord c f).now = s.now := rfl
@[simp] theorem State.modifyRecord_config (c : Nat) (f : ChartRecord → ChartRecord) : (s.modifyRecord c f).config = s.config := rfl
@[simp] theorem State.modifyRecord_reception (c : Nat) (f : ChartRecord → ChartRecord) : (s.modifyRecord c f).reception = s.reception := rfl
@[simp] theorem State.modifyRecord_lineTable (c : Nat) (f : ChartRecord → ChartRecord) : (s.modifyRecord c f).lineTable = s.lineTable := rfl
@[simp] theorem State.modifyRecord_memory (c : Nat) (f : ChartRecord → ChartRecord) : (s.modifyRecord c f).memory = s.memory := rfl
@[simp] theorem State.modifyRecord_originSequence (c : Nat) (f : ChartRecord → ChartRecord) : (s.modifyRecord c f).originSequence = s.originSequence := rfl
@[simp] theorem State.modifyRecord_link (c : Nat) (f : ChartRecord → ChartRecord) : (s.modifyRecord c f).link = s.link := rfl
@[simp] theorem State.modifyRecord_roster (c : Nat) (f : ChartRecord → ChartRecord) : (s.modifyRecord c f).roster = s.roster := rfl
@[simp] theorem State.modifyRecord_alignment (c : Nat) (f : ChartRecord → ChartRecord) : (s.modifyRecord c f).alignment = s.alignment := rfl
@[simp] theorem State.modifyRecord_fetch (c : Nat) (f : ChartRecord → ChartRecord) : (s.modifyRecord c f).fetch = s.fetch := rfl
@[simp] theorem State.modifyRecord_pool (c : Nat) (f : ChartRecord → ChartRecord) : (s.modifyRecord c f).pool = s.pool := rfl
@[simp] theorem State.modifyRecord_attention (c : Nat) (f : ChartRecord → ChartRecord) : (s.modifyRecord c f).attention = s.attention := rfl
@[simp] theorem State.modifyRecord_port (c : Nat) (f : ChartRecord → ChartRecord) : (s.modifyRecord c f).port = s.port := rfl
@[simp] theorem State.modifyRecord_interruptedWrites (c : Nat) (f : ChartRecord → ChartRecord) : (s.modifyRecord c f).interruptedWrites = s.interruptedWrites := rfl

@[simp] theorem State.modifyEntry_pending (c n : Nat) (f : LineEntry → LineEntry) : (s.modifyEntry c n f).pending = s.pending := rfl
@[simp] theorem State.modifyEntry_now (c n : Nat) (f : LineEntry → LineEntry) : (s.modifyEntry c n f).now = s.now := rfl
@[simp] theorem State.modifyEntry_config (c n : Nat) (f : LineEntry → LineEntry) : (s.modifyEntry c n f).config = s.config := rfl
@[simp] theorem State.modifyEntry_reception (c n : Nat) (f : LineEntry → LineEntry) : (s.modifyEntry c n f).reception = s.reception := rfl
@[simp] theorem State.modifyEntry_lineTable (c n : Nat) (f : LineEntry → LineEntry) : (s.modifyEntry c n f).lineTable = s.lineTable := rfl
@[simp] theorem State.modifyEntry_memory (c n : Nat) (f : LineEntry → LineEntry) : (s.modifyEntry c n f).memory = s.memory := rfl
@[simp] theorem State.modifyEntry_originSequence (c n : Nat) (f : LineEntry → LineEntry) : (s.modifyEntry c n f).originSequence = s.originSequence := rfl
@[simp] theorem State.modifyEntry_link (c n : Nat) (f : LineEntry → LineEntry) : (s.modifyEntry c n f).link = s.link := rfl
@[simp] theorem State.modifyEntry_roster (c n : Nat) (f : LineEntry → LineEntry) : (s.modifyEntry c n f).roster = s.roster := rfl
@[simp] theorem State.modifyEntry_alignment (c n : Nat) (f : LineEntry → LineEntry) : (s.modifyEntry c n f).alignment = s.alignment := rfl
@[simp] theorem State.modifyEntry_fetch (c n : Nat) (f : LineEntry → LineEntry) : (s.modifyEntry c n f).fetch = s.fetch := rfl
@[simp] theorem State.modifyEntry_pool (c n : Nat) (f : LineEntry → LineEntry) : (s.modifyEntry c n f).pool = s.pool := rfl
@[simp] theorem State.modifyEntry_attention (c n : Nat) (f : LineEntry → LineEntry) : (s.modifyEntry c n f).attention = s.attention := rfl
@[simp] theorem State.modifyEntry_port (c n : Nat) (f : LineEntry → LineEntry) : (s.modifyEntry c n f).port = s.port := rfl
@[simp] theorem State.modifyEntry_interruptedWrites (c n : Nat) (f : LineEntry → LineEntry) : (s.modifyEntry c n f).interruptedWrites = s.interruptedWrites := rfl

@[simp] theorem State.modifyRow_pending (c n : Nat) (f : HolderRow → HolderRow) : (s.modifyRow c n f).pending = s.pending := rfl
@[simp] theorem State.modifyRow_now (c n : Nat) (f : HolderRow → HolderRow) : (s.modifyRow c n f).now = s.now := rfl
@[simp] theorem State.modifyRow_config (c n : Nat) (f : HolderRow → HolderRow) : (s.modifyRow c n f).config = s.config := rfl
@[simp] theorem State.modifyRow_reception (c n : Nat) (f : HolderRow → HolderRow) : (s.modifyRow c n f).reception = s.reception := rfl
@[simp] theorem State.modifyRow_lineTable (c n : Nat) (f : HolderRow → HolderRow) : (s.modifyRow c n f).lineTable = s.lineTable := rfl
@[simp] theorem State.modifyRow_memory (c n : Nat) (f : HolderRow → HolderRow) : (s.modifyRow c n f).memory = s.memory := rfl
@[simp] theorem State.modifyRow_originSequence (c n : Nat) (f : HolderRow → HolderRow) : (s.modifyRow c n f).originSequence = s.originSequence := rfl
@[simp] theorem State.modifyRow_link (c n : Nat) (f : HolderRow → HolderRow) : (s.modifyRow c n f).link = s.link := rfl
@[simp] theorem State.modifyRow_roster (c n : Nat) (f : HolderRow → HolderRow) : (s.modifyRow c n f).roster = s.roster := rfl
@[simp] theorem State.modifyRow_alignment (c n : Nat) (f : HolderRow → HolderRow) : (s.modifyRow c n f).alignment = s.alignment := rfl
@[simp] theorem State.modifyRow_fetch (c n : Nat) (f : HolderRow → HolderRow) : (s.modifyRow c n f).fetch = s.fetch := rfl
@[simp] theorem State.modifyRow_pool (c n : Nat) (f : HolderRow → HolderRow) : (s.modifyRow c n f).pool = s.pool := rfl
@[simp] theorem State.modifyRow_attention (c n : Nat) (f : HolderRow → HolderRow) : (s.modifyRow c n f).attention = s.attention := rfl
@[simp] theorem State.modifyRow_port (c n : Nat) (f : HolderRow → HolderRow) : (s.modifyRow c n f).port = s.port := rfl
@[simp] theorem State.modifyRow_interruptedWrites (c n : Nat) (f : HolderRow → HolderRow) : (s.modifyRow c n f).interruptedWrites = s.interruptedWrites := rfl

@[simp] theorem State.setHold_pending (c : Nat) (h : Hold) : (s.setHold c h).pending = s.pending := rfl
@[simp] theorem State.setHold_now (c : Nat) (h : Hold) : (s.setHold c h).now = s.now := rfl
@[simp] theorem State.setHold_config (c : Nat) (h : Hold) : (s.setHold c h).config = s.config := rfl
@[simp] theorem State.setHold_reception (c : Nat) (h : Hold) : (s.setHold c h).reception = s.reception := rfl
@[simp] theorem State.setHold_lineTable (c : Nat) (h : Hold) : (s.setHold c h).lineTable = s.lineTable := rfl
@[simp] theorem State.setHold_memory (c : Nat) (h : Hold) : (s.setHold c h).memory = s.memory := rfl
@[simp] theorem State.setHold_originSequence (c : Nat) (h : Hold) : (s.setHold c h).originSequence = s.originSequence := rfl
@[simp] theorem State.setHold_link (c : Nat) (h : Hold) : (s.setHold c h).link = s.link := rfl
@[simp] theorem State.setHold_roster (c : Nat) (h : Hold) : (s.setHold c h).roster = s.roster := rfl
@[simp] theorem State.setHold_alignment (c : Nat) (h : Hold) : (s.setHold c h).alignment = s.alignment := rfl
@[simp] theorem State.setHold_fetch (c : Nat) (h : Hold) : (s.setHold c h).fetch = s.fetch := rfl
@[simp] theorem State.setHold_pool (c : Nat) (h : Hold) : (s.setHold c h).pool = s.pool := rfl
@[simp] theorem State.setHold_attention (c : Nat) (h : Hold) : (s.setHold c h).attention = s.attention := rfl
@[simp] theorem State.setHold_port (c : Nat) (h : Hold) : (s.setHold c h).port = s.port := rfl
@[simp] theorem State.setHold_interruptedWrites (c : Nat) (h : Hold) : (s.setHold c h).interruptedWrites = s.interruptedWrites := rfl

@[simp] theorem State.removeSlot_pending (c o : Nat) : (s.removeSlot c o).pending = s.pending := rfl
@[simp] theorem State.removeSlot_now (c o : Nat) : (s.removeSlot c o).now = s.now := rfl
@[simp] theorem State.removeSlot_config (c o : Nat) : (s.removeSlot c o).config = s.config := rfl
@[simp] theorem State.removeSlot_reception (c o : Nat) : (s.removeSlot c o).reception = s.reception := rfl
@[simp] theorem State.removeSlot_lineTable (c o : Nat) : (s.removeSlot c o).lineTable = s.lineTable := rfl
@[simp] theorem State.removeSlot_memory (c o : Nat) : (s.removeSlot c o).memory = s.memory := rfl
@[simp] theorem State.removeSlot_originSequence (c o : Nat) : (s.removeSlot c o).originSequence = s.originSequence := rfl
@[simp] theorem State.removeSlot_link (c o : Nat) : (s.removeSlot c o).link = s.link := rfl
@[simp] theorem State.removeSlot_roster (c o : Nat) : (s.removeSlot c o).roster = s.roster := rfl
@[simp] theorem State.removeSlot_alignment (c o : Nat) : (s.removeSlot c o).alignment = s.alignment := rfl
@[simp] theorem State.removeSlot_fetch (c o : Nat) : (s.removeSlot c o).fetch = s.fetch := rfl
@[simp] theorem State.removeSlot_pool (c o : Nat) : (s.removeSlot c o).pool = s.pool := rfl
@[simp] theorem State.removeSlot_attention (c o : Nat) : (s.removeSlot c o).attention = s.attention := rfl
@[simp] theorem State.removeSlot_port (c o : Nat) : (s.removeSlot c o).port = s.port := rfl
@[simp] theorem State.removeSlot_interruptedWrites (c o : Nat) : (s.removeSlot c o).interruptedWrites = s.interruptedWrites := rfl

@[simp] theorem State.post_pending (k : EventKind) (n : Nat) : (s.post k n).pending = s.pending := rfl
@[simp] theorem State.post_now (k : EventKind) (n : Nat) : (s.post k n).now = s.now := rfl
@[simp] theorem State.post_config (k : EventKind) (n : Nat) : (s.post k n).config = s.config := rfl
@[simp] theorem State.post_reception (k : EventKind) (n : Nat) : (s.post k n).reception = s.reception := rfl
@[simp] theorem State.post_lineTable (k : EventKind) (n : Nat) : (s.post k n).lineTable = s.lineTable := rfl
@[simp] theorem State.post_memory (k : EventKind) (n : Nat) : (s.post k n).memory = s.memory := rfl
@[simp] theorem State.post_slots (k : EventKind) (n : Nat) : (s.post k n).slots = s.slots := rfl
@[simp] theorem State.post_originSequence (k : EventKind) (n : Nat) : (s.post k n).originSequence = s.originSequence := rfl
@[simp] theorem State.post_link (k : EventKind) (n : Nat) : (s.post k n).link = s.link := rfl
@[simp] theorem State.post_roster (k : EventKind) (n : Nat) : (s.post k n).roster = s.roster := rfl
@[simp] theorem State.post_alignment (k : EventKind) (n : Nat) : (s.post k n).alignment = s.alignment := rfl
@[simp] theorem State.post_fetch (k : EventKind) (n : Nat) : (s.post k n).fetch = s.fetch := rfl
@[simp] theorem State.post_pool (k : EventKind) (n : Nat) : (s.post k n).pool = s.pool := rfl
@[simp] theorem State.post_attention (k : EventKind) (n : Nat) : (s.post k n).attention = { s.attention with events := insertEvent { kind := k, argument := n } s.attention.events } := rfl
@[simp] theorem State.post_port (k : EventKind) (n : Nat) : (s.post k n).port = s.port := rfl
@[simp] theorem State.post_interruptedWrites (k : EventKind) (n : Nat) : (s.post k n).interruptedWrites = s.interruptedWrites := rfl

@[simp] theorem State.removeSlotEvents_pending (c : Nat) : (s.removeSlotEvents c).pending = s.pending := rfl
@[simp] theorem State.removeSlotEvents_now (c : Nat) : (s.removeSlotEvents c).now = s.now := rfl
@[simp] theorem State.removeSlotEvents_config (c : Nat) : (s.removeSlotEvents c).config = s.config := rfl
@[simp] theorem State.removeSlotEvents_reception (c : Nat) : (s.removeSlotEvents c).reception = s.reception := rfl
@[simp] theorem State.removeSlotEvents_lineTable (c : Nat) : (s.removeSlotEvents c).lineTable = s.lineTable := rfl
@[simp] theorem State.removeSlotEvents_memory (c : Nat) : (s.removeSlotEvents c).memory = s.memory := rfl
@[simp] theorem State.removeSlotEvents_slots (c : Nat) : (s.removeSlotEvents c).slots = s.slots := rfl
@[simp] theorem State.removeSlotEvents_originSequence (c : Nat) : (s.removeSlotEvents c).originSequence = s.originSequence := rfl
@[simp] theorem State.removeSlotEvents_link (c : Nat) : (s.removeSlotEvents c).link = s.link := rfl
@[simp] theorem State.removeSlotEvents_roster (c : Nat) : (s.removeSlotEvents c).roster = s.roster := rfl
@[simp] theorem State.removeSlotEvents_alignment (c : Nat) : (s.removeSlotEvents c).alignment = s.alignment := rfl
@[simp] theorem State.removeSlotEvents_fetch (c : Nat) : (s.removeSlotEvents c).fetch = s.fetch := rfl
@[simp] theorem State.removeSlotEvents_pool (c : Nat) : (s.removeSlotEvents c).pool = s.pool := rfl
@[simp] theorem State.removeSlotEvents_port (c : Nat) : (s.removeSlotEvents c).port = s.port := rfl
@[simp] theorem State.removeSlotEvents_interruptedWrites (c : Nat) : (s.removeSlotEvents c).interruptedWrites = s.interruptedWrites := rfl

@[simp] theorem State.respond_pending (r : Response) : (s.respond r).pending = s.pending := rfl
@[simp] theorem State.respond_now (r : Response) : (s.respond r).now = s.now := rfl
@[simp] theorem State.respond_config (r : Response) : (s.respond r).config = s.config := rfl
@[simp] theorem State.respond_reception (r : Response) : (s.respond r).reception = s.reception := rfl
@[simp] theorem State.respond_lineTable (r : Response) : (s.respond r).lineTable = s.lineTable := rfl
@[simp] theorem State.respond_memory (r : Response) : (s.respond r).memory = s.memory := rfl
@[simp] theorem State.respond_slots (r : Response) : (s.respond r).slots = s.slots := rfl
@[simp] theorem State.respond_originSequence (r : Response) : (s.respond r).originSequence = s.originSequence := rfl
@[simp] theorem State.respond_link (r : Response) : (s.respond r).link = s.link := rfl
@[simp] theorem State.respond_roster (r : Response) : (s.respond r).roster = s.roster := rfl
@[simp] theorem State.respond_alignment (r : Response) : (s.respond r).alignment = s.alignment := rfl
@[simp] theorem State.respond_fetch (r : Response) : (s.respond r).fetch = s.fetch := rfl
@[simp] theorem State.respond_pool (r : Response) : (s.respond r).pool = s.pool := rfl
@[simp] theorem State.respond_attention (r : Response) : (s.respond r).attention = s.attention := rfl
@[simp] theorem State.respond_port (r : Response) : (s.respond r).port = { s.port with queue := s.port.queue ++ [r] } := rfl
@[simp] theorem State.respond_interruptedWrites (r : Response) : (s.respond r).interruptedWrites = s.interruptedWrites := rfl

@[simp] theorem State.clockOut_pending (l : List Byte) : (s.clockOut l).pending = s.pending := rfl
@[simp] theorem State.clockOut_now (l : List Byte) : (s.clockOut l).now = s.now := rfl
@[simp] theorem State.clockOut_config (l : List Byte) : (s.clockOut l).config = s.config := rfl
@[simp] theorem State.clockOut_reception (l : List Byte) : (s.clockOut l).reception = s.reception := rfl
@[simp] theorem State.clockOut_lineTable (l : List Byte) : (s.clockOut l).lineTable = s.lineTable := rfl
@[simp] theorem State.clockOut_memory (l : List Byte) : (s.clockOut l).memory = s.memory := rfl
@[simp] theorem State.clockOut_slots (l : List Byte) : (s.clockOut l).slots = s.slots := rfl
@[simp] theorem State.clockOut_originSequence (l : List Byte) : (s.clockOut l).originSequence = s.originSequence := rfl
@[simp] theorem State.clockOut_link (l : List Byte) : (s.clockOut l).link = s.link := rfl
@[simp] theorem State.clockOut_roster (l : List Byte) : (s.clockOut l).roster = s.roster := rfl
@[simp] theorem State.clockOut_alignment (l : List Byte) : (s.clockOut l).alignment = s.alignment := rfl
@[simp] theorem State.clockOut_fetch (l : List Byte) : (s.clockOut l).fetch = s.fetch := rfl
@[simp] theorem State.clockOut_pool (l : List Byte) : (s.clockOut l).pool = s.pool := rfl
@[simp] theorem State.clockOut_attention (l : List Byte) : (s.clockOut l).attention = s.attention := rfl
@[simp] theorem State.clockOut_port (l : List Byte) : (s.clockOut l).port = { s.port with clockedOut := l } := rfl
@[simp] theorem State.clockOut_interruptedWrites (l : List Byte) : (s.clockOut l).interruptedWrites = s.interruptedWrites := rfl

@[simp] theorem State.setBatch_pending (b : Option Batch) : (s.setBatch b).pending = s.pending := rfl
@[simp] theorem State.setBatch_now (b : Option Batch) : (s.setBatch b).now = s.now := rfl
@[simp] theorem State.setBatch_config (b : Option Batch) : (s.setBatch b).config = s.config := rfl
@[simp] theorem State.setBatch_reception (b : Option Batch) : (s.setBatch b).reception = s.reception := rfl
@[simp] theorem State.setBatch_lineTable (b : Option Batch) : (s.setBatch b).lineTable = s.lineTable := rfl
@[simp] theorem State.setBatch_memory (b : Option Batch) : (s.setBatch b).memory = s.memory := rfl
@[simp] theorem State.setBatch_slots (b : Option Batch) : (s.setBatch b).slots = s.slots := rfl
@[simp] theorem State.setBatch_originSequence (b : Option Batch) : (s.setBatch b).originSequence = s.originSequence := rfl
@[simp] theorem State.setBatch_link (b : Option Batch) : (s.setBatch b).link = s.link := rfl
@[simp] theorem State.setBatch_roster (b : Option Batch) : (s.setBatch b).roster = s.roster := rfl
@[simp] theorem State.setBatch_alignment (b : Option Batch) : (s.setBatch b).alignment = s.alignment := rfl
@[simp] theorem State.setBatch_fetch (b : Option Batch) : (s.setBatch b).fetch = { s.fetch with batch := b } := rfl
@[simp] theorem State.setBatch_pool (b : Option Batch) : (s.setBatch b).pool = s.pool := rfl
@[simp] theorem State.setBatch_attention (b : Option Batch) : (s.setBatch b).attention = s.attention := rfl
@[simp] theorem State.setBatch_port (b : Option Batch) : (s.setBatch b).port = s.port := rfl
@[simp] theorem State.setBatch_interruptedWrites (b : Option Batch) : (s.setBatch b).interruptedWrites = s.interruptedWrites := rfl

@[simp] theorem State.setContext_pending (n : Nat) (c : Option Context) : (s.setContext n c).pending = s.pending := rfl
@[simp] theorem State.setContext_now (n : Nat) (c : Option Context) : (s.setContext n c).now = s.now := rfl
@[simp] theorem State.setContext_config (n : Nat) (c : Option Context) : (s.setContext n c).config = s.config := rfl
@[simp] theorem State.setContext_reception (n : Nat) (c : Option Context) : (s.setContext n c).reception = s.reception := rfl
@[simp] theorem State.setContext_lineTable (n : Nat) (c : Option Context) : (s.setContext n c).lineTable = s.lineTable := rfl
@[simp] theorem State.setContext_memory (n : Nat) (c : Option Context) : (s.setContext n c).memory = s.memory := rfl
@[simp] theorem State.setContext_slots (n : Nat) (c : Option Context) : (s.setContext n c).slots = s.slots := rfl
@[simp] theorem State.setContext_originSequence (n : Nat) (c : Option Context) : (s.setContext n c).originSequence = s.originSequence := rfl
@[simp] theorem State.setContext_link (n : Nat) (c : Option Context) : (s.setContext n c).link = s.link := rfl
@[simp] theorem State.setContext_roster (n : Nat) (c : Option Context) : (s.setContext n c).roster = s.roster := rfl
@[simp] theorem State.setContext_alignment (n : Nat) (c : Option Context) : (s.setContext n c).alignment = s.alignment := rfl
@[simp] theorem State.setContext_pool (n : Nat) (c : Option Context) : (s.setContext n c).pool = s.pool := rfl
@[simp] theorem State.setContext_attention (n : Nat) (c : Option Context) : (s.setContext n c).attention = s.attention := rfl
@[simp] theorem State.setContext_port (n : Nat) (c : Option Context) : (s.setContext n c).port = s.port := rfl
@[simp] theorem State.setContext_interruptedWrites (n : Nat) (c : Option Context) : (s.setContext n c).interruptedWrites = s.interruptedWrites := rfl

@[simp] theorem State.updateFetch_pending (e new : FetchEntry) : (s.updateFetch e new).pending = s.pending := rfl
@[simp] theorem State.updateFetch_now (e new : FetchEntry) : (s.updateFetch e new).now = s.now := rfl
@[simp] theorem State.updateFetch_config (e new : FetchEntry) : (s.updateFetch e new).config = s.config := rfl
@[simp] theorem State.updateFetch_reception (e new : FetchEntry) : (s.updateFetch e new).reception = s.reception := rfl
@[simp] theorem State.updateFetch_lineTable (e new : FetchEntry) : (s.updateFetch e new).lineTable = s.lineTable := rfl
@[simp] theorem State.updateFetch_memory (e new : FetchEntry) : (s.updateFetch e new).memory = s.memory := rfl
@[simp] theorem State.updateFetch_slots (e new : FetchEntry) : (s.updateFetch e new).slots = s.slots := rfl
@[simp] theorem State.updateFetch_originSequence (e new : FetchEntry) : (s.updateFetch e new).originSequence = s.originSequence := rfl
@[simp] theorem State.updateFetch_link (e new : FetchEntry) : (s.updateFetch e new).link = s.link := rfl
@[simp] theorem State.updateFetch_roster (e new : FetchEntry) : (s.updateFetch e new).roster = s.roster := rfl
@[simp] theorem State.updateFetch_alignment (e new : FetchEntry) : (s.updateFetch e new).alignment = s.alignment := rfl
@[simp] theorem State.updateFetch_pool (e new : FetchEntry) : (s.updateFetch e new).pool = s.pool := rfl
@[simp] theorem State.updateFetch_attention (e new : FetchEntry) : (s.updateFetch e new).attention = s.attention := rfl
@[simp] theorem State.updateFetch_port (e new : FetchEntry) : (s.updateFetch e new).port = s.port := rfl
@[simp] theorem State.updateFetch_interruptedWrites (e new : FetchEntry) : (s.updateFetch e new).interruptedWrites = s.interruptedWrites := rfl

@[simp] theorem State.cancelTimers_pending (p : FallbackTimer → Bool) : (s.cancelTimers p).pending = s.pending := rfl
@[simp] theorem State.cancelTimers_now (p : FallbackTimer → Bool) : (s.cancelTimers p).now = s.now := rfl
@[simp] theorem State.cancelTimers_config (p : FallbackTimer → Bool) : (s.cancelTimers p).config = s.config := rfl
@[simp] theorem State.cancelTimers_reception (p : FallbackTimer → Bool) : (s.cancelTimers p).reception = s.reception := rfl
@[simp] theorem State.cancelTimers_lineTable (p : FallbackTimer → Bool) : (s.cancelTimers p).lineTable = s.lineTable := rfl
@[simp] theorem State.cancelTimers_memory (p : FallbackTimer → Bool) : (s.cancelTimers p).memory = s.memory := rfl
@[simp] theorem State.cancelTimers_slots (p : FallbackTimer → Bool) : (s.cancelTimers p).slots = s.slots := rfl
@[simp] theorem State.cancelTimers_originSequence (p : FallbackTimer → Bool) : (s.cancelTimers p).originSequence = s.originSequence := rfl
@[simp] theorem State.cancelTimers_link (p : FallbackTimer → Bool) : (s.cancelTimers p).link = s.link := rfl
@[simp] theorem State.cancelTimers_roster (p : FallbackTimer → Bool) : (s.cancelTimers p).roster = s.roster := rfl
@[simp] theorem State.cancelTimers_alignment (p : FallbackTimer → Bool) : (s.cancelTimers p).alignment = s.alignment := rfl
@[simp] theorem State.cancelTimers_pool (p : FallbackTimer → Bool) : (s.cancelTimers p).pool = s.pool := rfl
@[simp] theorem State.cancelTimers_attention (p : FallbackTimer → Bool) : (s.cancelTimers p).attention = s.attention := rfl
@[simp] theorem State.cancelTimers_port (p : FallbackTimer → Bool) : (s.cancelTimers p).port = s.port := rfl
@[simp] theorem State.cancelTimers_interruptedWrites (p : FallbackTimer → Bool) : (s.cancelTimers p).interruptedWrites = s.interruptedWrites := rfl

@[simp] theorem State.putPool_pending (n : Nat) (e : PoolEntry) : (s.putPool n e).pending = s.pending := rfl
@[simp] theorem State.putPool_now (n : Nat) (e : PoolEntry) : (s.putPool n e).now = s.now := rfl
@[simp] theorem State.putPool_config (n : Nat) (e : PoolEntry) : (s.putPool n e).config = s.config := rfl
@[simp] theorem State.putPool_reception (n : Nat) (e : PoolEntry) : (s.putPool n e).reception = s.reception := rfl
@[simp] theorem State.putPool_lineTable (n : Nat) (e : PoolEntry) : (s.putPool n e).lineTable = s.lineTable := rfl
@[simp] theorem State.putPool_memory (n : Nat) (e : PoolEntry) : (s.putPool n e).memory = s.memory := rfl
@[simp] theorem State.putPool_slots (n : Nat) (e : PoolEntry) : (s.putPool n e).slots = s.slots := rfl
@[simp] theorem State.putPool_originSequence (n : Nat) (e : PoolEntry) : (s.putPool n e).originSequence = s.originSequence := rfl
@[simp] theorem State.putPool_link (n : Nat) (e : PoolEntry) : (s.putPool n e).link = s.link := rfl
@[simp] theorem State.putPool_roster (n : Nat) (e : PoolEntry) : (s.putPool n e).roster = s.roster := rfl
@[simp] theorem State.putPool_alignment (n : Nat) (e : PoolEntry) : (s.putPool n e).alignment = s.alignment := rfl
@[simp] theorem State.putPool_fetch (n : Nat) (e : PoolEntry) : (s.putPool n e).fetch = s.fetch := rfl
@[simp] theorem State.putPool_pool (n : Nat) (e : PoolEntry) : (s.putPool n e).pool = Sparse.put s.pool n e := rfl
@[simp] theorem State.putPool_attention (n : Nat) (e : PoolEntry) : (s.putPool n e).attention = s.attention := rfl
@[simp] theorem State.putPool_port (n : Nat) (e : PoolEntry) : (s.putPool n e).port = s.port := rfl
@[simp] theorem State.putPool_interruptedWrites (n : Nat) (e : PoolEntry) : (s.putPool n e).interruptedWrites = s.interruptedWrites := rfl

@[simp] theorem State.modifyPool_pending (n : Nat) (f : PoolEntry → PoolEntry) : (s.modifyPool n f).pending = s.pending := rfl
@[simp] theorem State.modifyPool_now (n : Nat) (f : PoolEntry → PoolEntry) : (s.modifyPool n f).now = s.now := rfl
@[simp] theorem State.modifyPool_config (n : Nat) (f : PoolEntry → PoolEntry) : (s.modifyPool n f).config = s.config := rfl
@[simp] theorem State.modifyPool_reception (n : Nat) (f : PoolEntry → PoolEntry) : (s.modifyPool n f).reception = s.reception := rfl
@[simp] theorem State.modifyPool_lineTable (n : Nat) (f : PoolEntry → PoolEntry) : (s.modifyPool n f).lineTable = s.lineTable := rfl
@[simp] theorem State.modifyPool_memory (n : Nat) (f : PoolEntry → PoolEntry) : (s.modifyPool n f).memory = s.memory := rfl
@[simp] theorem State.modifyPool_slots (n : Nat) (f : PoolEntry → PoolEntry) : (s.modifyPool n f).slots = s.slots := rfl
@[simp] theorem State.modifyPool_originSequence (n : Nat) (f : PoolEntry → PoolEntry) : (s.modifyPool n f).originSequence = s.originSequence := rfl
@[simp] theorem State.modifyPool_link (n : Nat) (f : PoolEntry → PoolEntry) : (s.modifyPool n f).link = s.link := rfl
@[simp] theorem State.modifyPool_roster (n : Nat) (f : PoolEntry → PoolEntry) : (s.modifyPool n f).roster = s.roster := rfl
@[simp] theorem State.modifyPool_alignment (n : Nat) (f : PoolEntry → PoolEntry) : (s.modifyPool n f).alignment = s.alignment := rfl
@[simp] theorem State.modifyPool_fetch (n : Nat) (f : PoolEntry → PoolEntry) : (s.modifyPool n f).fetch = s.fetch := rfl
@[simp] theorem State.modifyPool_pool (n : Nat) (f : PoolEntry → PoolEntry) : (s.modifyPool n f).pool = Sparse.modify s.pool n f := rfl
@[simp] theorem State.modifyPool_attention (n : Nat) (f : PoolEntry → PoolEntry) : (s.modifyPool n f).attention = s.attention := rfl
@[simp] theorem State.modifyPool_port (n : Nat) (f : PoolEntry → PoolEntry) : (s.modifyPool n f).port = s.port := rfl
@[simp] theorem State.modifyPool_interruptedWrites (n : Nat) (f : PoolEntry → PoolEntry) : (s.modifyPool n f).interruptedWrites = s.interruptedWrites := rfl

@[simp] theorem State.popWrite_pending : (s.popWrite).pending = s.pending := rfl
@[simp] theorem State.popWrite_now : (s.popWrite).now = s.now := rfl
@[simp] theorem State.popWrite_config : (s.popWrite).config = s.config := rfl
@[simp] theorem State.popWrite_reception : (s.popWrite).reception = s.reception := rfl
@[simp] theorem State.popWrite_lineTable : (s.popWrite).lineTable = { s.lineTable with queue := s.lineTable.queue.drop 1, started := false } := rfl
@[simp] theorem State.popWrite_memory : (s.popWrite).memory = s.memory := rfl
@[simp] theorem State.popWrite_slots : (s.popWrite).slots = s.slots := rfl
@[simp] theorem State.popWrite_originSequence : (s.popWrite).originSequence = s.originSequence := rfl
@[simp] theorem State.popWrite_link : (s.popWrite).link = s.link := rfl
@[simp] theorem State.popWrite_roster : (s.popWrite).roster = s.roster := rfl
@[simp] theorem State.popWrite_alignment : (s.popWrite).alignment = s.alignment := rfl
@[simp] theorem State.popWrite_fetch : (s.popWrite).fetch = s.fetch := rfl
@[simp] theorem State.popWrite_pool : (s.popWrite).pool = s.pool := rfl
@[simp] theorem State.popWrite_attention : (s.popWrite).attention = s.attention := rfl
@[simp] theorem State.popWrite_port : (s.popWrite).port = s.port := rfl
@[simp] theorem State.popWrite_interruptedWrites : (s.popWrite).interruptedWrites = s.interruptedWrites := rfl

@[simp] theorem State.modifyReception_pending (f : Reception → Reception) : (s.modifyReception f).pending = s.pending := rfl
@[simp] theorem State.modifyReception_now (f : Reception → Reception) : (s.modifyReception f).now = s.now := rfl
@[simp] theorem State.modifyReception_config (f : Reception → Reception) : (s.modifyReception f).config = s.config := rfl
@[simp] theorem State.modifyReception_reception (f : Reception → Reception) : (s.modifyReception f).reception = f s.reception := rfl
@[simp] theorem State.modifyReception_lineTable (f : Reception → Reception) : (s.modifyReception f).lineTable = s.lineTable := rfl
@[simp] theorem State.modifyReception_memory (f : Reception → Reception) : (s.modifyReception f).memory = s.memory := rfl
@[simp] theorem State.modifyReception_slots (f : Reception → Reception) : (s.modifyReception f).slots = s.slots := rfl
@[simp] theorem State.modifyReception_originSequence (f : Reception → Reception) : (s.modifyReception f).originSequence = s.originSequence := rfl
@[simp] theorem State.modifyReception_link (f : Reception → Reception) : (s.modifyReception f).link = s.link := rfl
@[simp] theorem State.modifyReception_roster (f : Reception → Reception) : (s.modifyReception f).roster = s.roster := rfl
@[simp] theorem State.modifyReception_alignment (f : Reception → Reception) : (s.modifyReception f).alignment = s.alignment := rfl
@[simp] theorem State.modifyReception_fetch (f : Reception → Reception) : (s.modifyReception f).fetch = s.fetch := rfl
@[simp] theorem State.modifyReception_pool (f : Reception → Reception) : (s.modifyReception f).pool = s.pool := rfl
@[simp] theorem State.modifyReception_attention (f : Reception → Reception) : (s.modifyReception f).attention = s.attention := rfl
@[simp] theorem State.modifyReception_port (f : Reception → Reception) : (s.modifyReception f).port = s.port := rfl
@[simp] theorem State.modifyReception_interruptedWrites (f : Reception → Reception) : (s.modifyReception f).interruptedWrites = s.interruptedWrites := rfl

@[simp] theorem State.setRosterEntry_pending (p : Station) (e : RosterEntry) : (s.setRosterEntry p e).pending = s.pending := rfl
@[simp] theorem State.setRosterEntry_now (p : Station) (e : RosterEntry) : (s.setRosterEntry p e).now = s.now := rfl
@[simp] theorem State.setRosterEntry_config (p : Station) (e : RosterEntry) : (s.setRosterEntry p e).config = s.config := rfl
@[simp] theorem State.setRosterEntry_reception (p : Station) (e : RosterEntry) : (s.setRosterEntry p e).reception = s.reception := rfl
@[simp] theorem State.setRosterEntry_lineTable (p : Station) (e : RosterEntry) : (s.setRosterEntry p e).lineTable = s.lineTable := rfl
@[simp] theorem State.setRosterEntry_memory (p : Station) (e : RosterEntry) : (s.setRosterEntry p e).memory = s.memory := rfl
@[simp] theorem State.setRosterEntry_slots (p : Station) (e : RosterEntry) : (s.setRosterEntry p e).slots = s.slots := rfl
@[simp] theorem State.setRosterEntry_originSequence (p : Station) (e : RosterEntry) : (s.setRosterEntry p e).originSequence = s.originSequence := rfl
@[simp] theorem State.setRosterEntry_link (p : Station) (e : RosterEntry) : (s.setRosterEntry p e).link = s.link := rfl
@[simp] theorem State.setRosterEntry_roster (p : Station) (e : RosterEntry) : (s.setRosterEntry p e).roster = { s.roster with peers := Sparse.put s.roster.peers p.val e } := rfl
@[simp] theorem State.setRosterEntry_alignment (p : Station) (e : RosterEntry) : (s.setRosterEntry p e).alignment = s.alignment := rfl
@[simp] theorem State.setRosterEntry_fetch (p : Station) (e : RosterEntry) : (s.setRosterEntry p e).fetch = s.fetch := rfl
@[simp] theorem State.setRosterEntry_pool (p : Station) (e : RosterEntry) : (s.setRosterEntry p e).pool = s.pool := rfl
@[simp] theorem State.setRosterEntry_attention (p : Station) (e : RosterEntry) : (s.setRosterEntry p e).attention = s.attention := rfl
@[simp] theorem State.setRosterEntry_port (p : Station) (e : RosterEntry) : (s.setRosterEntry p e).port = s.port := rfl
@[simp] theorem State.setRosterEntry_interruptedWrites (p : Station) (e : RosterEntry) : (s.setRosterEntry p e).interruptedWrites = s.interruptedWrites := rfl

@[simp] theorem State.declineTo_pending (k : Key) (n : Nat) (r : Station) (x : DeclineReason) : (s.declineTo k n r x).pending = s.pending := rfl
@[simp] theorem State.declineTo_now (k : Key) (n : Nat) (r : Station) (x : DeclineReason) : (s.declineTo k n r x).now = s.now := rfl
@[simp] theorem State.declineTo_config (k : Key) (n : Nat) (r : Station) (x : DeclineReason) : (s.declineTo k n r x).config = s.config := rfl
@[simp] theorem State.declineTo_reception (k : Key) (n : Nat) (r : Station) (x : DeclineReason) : (s.declineTo k n r x).reception = s.reception := rfl
@[simp] theorem State.declineTo_lineTable (k : Key) (n : Nat) (r : Station) (x : DeclineReason) : (s.declineTo k n r x).lineTable = s.lineTable := rfl
@[simp] theorem State.declineTo_memory (k : Key) (n : Nat) (r : Station) (x : DeclineReason) : (s.declineTo k n r x).memory = s.memory := rfl
@[simp] theorem State.declineTo_slots (k : Key) (n : Nat) (r : Station) (x : DeclineReason) : (s.declineTo k n r x).slots = s.slots := rfl
@[simp] theorem State.declineTo_originSequence (k : Key) (n : Nat) (r : Station) (x : DeclineReason) : (s.declineTo k n r x).originSequence = s.originSequence := rfl
@[simp] theorem State.declineTo_roster (k : Key) (n : Nat) (r : Station) (x : DeclineReason) : (s.declineTo k n r x).roster = s.roster := rfl
@[simp] theorem State.declineTo_alignment (k : Key) (n : Nat) (r : Station) (x : DeclineReason) : (s.declineTo k n r x).alignment = s.alignment := rfl
@[simp] theorem State.declineTo_fetch (k : Key) (n : Nat) (r : Station) (x : DeclineReason) : (s.declineTo k n r x).fetch = s.fetch := rfl
@[simp] theorem State.declineTo_pool (k : Key) (n : Nat) (r : Station) (x : DeclineReason) : (s.declineTo k n r x).pool = s.pool := rfl
@[simp] theorem State.declineTo_attention (k : Key) (n : Nat) (r : Station) (x : DeclineReason) : (s.declineTo k n r x).attention = s.attention := rfl
@[simp] theorem State.declineTo_port (k : Key) (n : Nat) (r : Station) (x : DeclineReason) : (s.declineTo k n r x).port = s.port := rfl
@[simp] theorem State.declineTo_interruptedWrites (k : Key) (n : Nat) (r : Station) (x : DeclineReason) : (s.declineTo k n r x).interruptedWrites = s.interruptedWrites := rfl

@[simp] theorem State.arrive_pending (l : List Byte) : (s.arrive l).pending = s.pending := rfl
@[simp] theorem State.arrive_now (l : List Byte) : (s.arrive l).now = s.frameEnd l.length := rfl
@[simp] theorem State.arrive_config (l : List Byte) : (s.arrive l).config = s.config := rfl
@[simp] theorem State.arrive_reception (l : List Byte) : (s.arrive l).reception = s.reception := rfl
@[simp] theorem State.arrive_lineTable (l : List Byte) : (s.arrive l).lineTable = s.lineTable := rfl
@[simp] theorem State.arrive_memory (l : List Byte) : (s.arrive l).memory = s.memory := rfl
@[simp] theorem State.arrive_slots (l : List Byte) : (s.arrive l).slots = s.slots := rfl
@[simp] theorem State.arrive_originSequence (l : List Byte) : (s.arrive l).originSequence = s.originSequence := rfl
@[simp] theorem State.arrive_link (l : List Byte) : (s.arrive l).link = s.link.frameArrived := rfl
@[simp] theorem State.arrive_roster (l : List Byte) : (s.arrive l).roster = s.roster := rfl
@[simp] theorem State.arrive_alignment (l : List Byte) : (s.arrive l).alignment = s.alignment := rfl
@[simp] theorem State.arrive_fetch (l : List Byte) : (s.arrive l).fetch = s.fetch := rfl
@[simp] theorem State.arrive_pool (l : List Byte) : (s.arrive l).pool = s.pool := rfl
@[simp] theorem State.arrive_attention (l : List Byte) : (s.arrive l).attention = s.attention := rfl
@[simp] theorem State.arrive_port (l : List Byte) : (s.arrive l).port = s.port := rfl
@[simp] theorem State.arrive_interruptedWrites (l : List Byte) : (s.arrive l).interruptedWrites = s.interruptedWrites := rfl

@[simp] theorem State.queueHail_pending (t : Nat) : (s.queueHail t).pending = s.pending := rfl
@[simp] theorem State.queueHail_now (t : Nat) : (s.queueHail t).now = s.now := rfl
@[simp] theorem State.queueHail_config (t : Nat) : (s.queueHail t).config = s.config := rfl
@[simp] theorem State.queueHail_reception (t : Nat) : (s.queueHail t).reception = s.reception := rfl
@[simp] theorem State.queueHail_lineTable (t : Nat) : (s.queueHail t).lineTable = s.lineTable := rfl
@[simp] theorem State.queueHail_memory (t : Nat) : (s.queueHail t).memory = s.memory := rfl
@[simp] theorem State.queueHail_slots (t : Nat) : (s.queueHail t).slots = s.slots := rfl
@[simp] theorem State.queueHail_originSequence (t : Nat) : (s.queueHail t).originSequence = s.originSequence := rfl
@[simp] theorem State.queueHail_link (t : Nat) : (s.queueHail t).link = s.link.queueHail s.hailNow := rfl
@[simp] theorem State.queueHail_roster (t : Nat) : (s.queueHail t).roster = { s.roster with hailDeadline := some (t + Config.hailPeriod) } := rfl
@[simp] theorem State.queueHail_alignment (t : Nat) : (s.queueHail t).alignment = s.alignment := rfl
@[simp] theorem State.queueHail_fetch (t : Nat) : (s.queueHail t).fetch = s.fetch := rfl
@[simp] theorem State.queueHail_pool (t : Nat) : (s.queueHail t).pool = s.pool := rfl
@[simp] theorem State.queueHail_attention (t : Nat) : (s.queueHail t).attention = s.attention := rfl
@[simp] theorem State.queueHail_port (t : Nat) : (s.queueHail t).port = s.port := rfl
@[simp] theorem State.queueHail_interruptedWrites (t : Nat) : (s.queueHail t).interruptedWrites = s.interruptedWrites := rfl

@[simp] theorem State.clearOwnOpens_pending : (s.clearOwnOpens).pending = s.pending := rfl
@[simp] theorem State.clearOwnOpens_now : (s.clearOwnOpens).now = s.now := rfl
@[simp] theorem State.clearOwnOpens_config : (s.clearOwnOpens).config = s.config := rfl
@[simp] theorem State.clearOwnOpens_reception : (s.clearOwnOpens).reception = s.reception := rfl
@[simp] theorem State.clearOwnOpens_lineTable : (s.clearOwnOpens).lineTable = s.lineTable := rfl
@[simp] theorem State.clearOwnOpens_memory : (s.clearOwnOpens).memory = s.memory := rfl
@[simp] theorem State.clearOwnOpens_originSequence : (s.clearOwnOpens).originSequence = s.originSequence := rfl
@[simp] theorem State.clearOwnOpens_link : (s.clearOwnOpens).link = s.link := rfl
@[simp] theorem State.clearOwnOpens_roster : (s.clearOwnOpens).roster = s.roster := rfl
@[simp] theorem State.clearOwnOpens_alignment : (s.clearOwnOpens).alignment = s.alignment := rfl
@[simp] theorem State.clearOwnOpens_fetch : (s.clearOwnOpens).fetch = s.fetch := rfl
@[simp] theorem State.clearOwnOpens_pool : (s.clearOwnOpens).pool = s.pool := rfl
@[simp] theorem State.clearOwnOpens_attention : (s.clearOwnOpens).attention = s.attention := rfl
@[simp] theorem State.clearOwnOpens_port : (s.clearOwnOpens).port = s.port := rfl
@[simp] theorem State.clearOwnOpens_interruptedWrites : (s.clearOwnOpens).interruptedWrites = s.interruptedWrites := rfl

@[simp] theorem State.freePool_pending (n : Nat) : (s.freePool n).pending = s.pending := rfl
@[simp] theorem State.freePool_now (n : Nat) : (s.freePool n).now = s.now := rfl
@[simp] theorem State.freePool_config (n : Nat) : (s.freePool n).config = s.config := rfl
@[simp] theorem State.freePool_reception (n : Nat) : (s.freePool n).reception = s.reception := rfl
@[simp] theorem State.freePool_lineTable (n : Nat) : (s.freePool n).lineTable = { s.lineTable with
    store := if s.lineTable.store.any (fun st => st.entry = n) then none else s.lineTable.store
    queue := s.lineTable.queue.map (fun w => w.afterFree n) } := rfl
@[simp] theorem State.freePool_memory (n : Nat) : (s.freePool n).memory = s.memory := rfl
@[simp] theorem State.freePool_slots (n : Nat) : (s.freePool n).slots = s.slots := rfl
@[simp] theorem State.freePool_originSequence (n : Nat) : (s.freePool n).originSequence = s.originSequence := rfl
@[simp] theorem State.freePool_link (n : Nat) : (s.freePool n).link = s.link := rfl
@[simp] theorem State.freePool_roster (n : Nat) : (s.freePool n).roster = s.roster := rfl
@[simp] theorem State.freePool_alignment (n : Nat) : (s.freePool n).alignment = s.alignment := rfl
@[simp] theorem State.freePool_fetch (n : Nat) : (s.freePool n).fetch = s.fetch := rfl
@[simp] theorem State.freePool_pool (n : Nat) : (s.freePool n).pool = Sparse.erase s.pool n := rfl
@[simp] theorem State.freePool_attention (n : Nat) : (s.freePool n).attention = s.attention := rfl
@[simp] theorem State.freePool_port (n : Nat) : (s.freePool n).port = s.port := rfl
@[simp] theorem State.freePool_interruptedWrites (n : Nat) : (s.freePool n).interruptedWrites = s.interruptedWrites := rfl

@[simp] theorem State.keepWrite_pending (w : Write) : (s.keepWrite w).pending = s.pending := rfl
@[simp] theorem State.keepWrite_now (w : Write) : (s.keepWrite w).now = s.now := rfl
@[simp] theorem State.keepWrite_config (w : Write) : (s.keepWrite w).config = s.config := rfl
@[simp] theorem State.keepWrite_reception (w : Write) : (s.keepWrite w).reception = s.reception := rfl
@[simp] theorem State.keepWrite_lineTable (w : Write) : (s.keepWrite w).lineTable = { s.lineTable with queue := s.lineTable.queue ++ [w] } := rfl
@[simp] theorem State.keepWrite_memory (w : Write) : (s.keepWrite w).memory = s.memory := rfl
@[simp] theorem State.keepWrite_slots (w : Write) : (s.keepWrite w).slots = s.slots := rfl
@[simp] theorem State.keepWrite_originSequence (w : Write) : (s.keepWrite w).originSequence = s.originSequence := rfl
@[simp] theorem State.keepWrite_link (w : Write) : (s.keepWrite w).link = s.link := rfl
@[simp] theorem State.keepWrite_roster (w : Write) : (s.keepWrite w).roster = s.roster := rfl
@[simp] theorem State.keepWrite_alignment (w : Write) : (s.keepWrite w).alignment = s.alignment := rfl
@[simp] theorem State.keepWrite_fetch (w : Write) : (s.keepWrite w).fetch = s.fetch := rfl
@[simp] theorem State.keepWrite_pool (w : Write) : (s.keepWrite w).pool = s.pool := rfl
@[simp] theorem State.keepWrite_attention (w : Write) : (s.keepWrite w).attention = s.attention := rfl
@[simp] theorem State.keepWrite_port (w : Write) : (s.keepWrite w).port = s.port := rfl
@[simp] theorem State.keepWrite_interruptedWrites (w : Write) : (s.keepWrite w).interruptedWrites = s.interruptedWrites := rfl

@[simp] theorem State.rekeyBodies_pending (c : Nat) (k : Key) : (s.rekeyBodies c k).pending = s.pending := rfl
@[simp] theorem State.rekeyBodies_now (c : Nat) (k : Key) : (s.rekeyBodies c k).now = s.now := rfl
@[simp] theorem State.rekeyBodies_config (c : Nat) (k : Key) : (s.rekeyBodies c k).config = s.config := rfl
@[simp] theorem State.rekeyBodies_reception (c : Nat) (k : Key) : (s.rekeyBodies c k).reception = s.reception := rfl
@[simp] theorem State.rekeyBodies_lineTable (c : Nat) (k : Key) : (s.rekeyBodies c k).lineTable = s.lineTable := rfl
@[simp] theorem State.rekeyBodies_memory (c : Nat) (k : Key) : (s.rekeyBodies c k).memory = s.memory := rfl
@[simp] theorem State.rekeyBodies_slots (c : Nat) (k : Key) : (s.rekeyBodies c k).slots = s.slots := rfl
@[simp] theorem State.rekeyBodies_originSequence (c : Nat) (k : Key) : (s.rekeyBodies c k).originSequence = s.originSequence := rfl
@[simp] theorem State.rekeyBodies_link (c : Nat) (k : Key) : (s.rekeyBodies c k).link = s.link := rfl
@[simp] theorem State.rekeyBodies_roster (c : Nat) (k : Key) : (s.rekeyBodies c k).roster = s.roster := rfl
@[simp] theorem State.rekeyBodies_alignment (c : Nat) (k : Key) : (s.rekeyBodies c k).alignment = s.alignment := rfl
@[simp] theorem State.rekeyBodies_fetch (c : Nat) (k : Key) : (s.rekeyBodies c k).fetch = { s.fetch with
    contexts := s.fetch.contexts.map (fun (p : Nat × Context) =>
      if p.2.waitingSlot = some c then (p.1, { p.2 with key := k }) else p) } := rfl
@[simp] theorem State.rekeyBodies_pool (c : Nat) (k : Key) : (s.rekeyBodies c k).pool = s.pool := rfl
@[simp] theorem State.rekeyBodies_attention (c : Nat) (k : Key) : (s.rekeyBodies c k).attention = s.attention := rfl
@[simp] theorem State.rekeyBodies_port (c : Nat) (k : Key) : (s.rekeyBodies c k).port = s.port := rfl
@[simp] theorem State.rekeyBodies_interruptedWrites (c : Nat) (k : Key) : (s.rekeyBodies c k).interruptedWrites = s.interruptedWrites := rfl

end Sys2Proof.Machine
end

