-- ==== Sys2Proof/Laws/Operations.lean ====
section
/-!
SUPPORT. What the shared operations of the blocks do, said once: reads that are due, the write queue, a pool entry's
freeing, a frame's arrival, and what `State.settle` leaves as it was.
-/
namespace Sys2Proof.Machine

/-! ## Reads and requests -/

/-- With nothing waiting to be read, making the due reads changes nothing. -/
theorem State.makeDueReads_of_noReads (s : State) (h : s.NoReads) : s.makeDueReads = s := by
  obtain ⟨h1, h2⟩ := h
  unfold State.makeDueReads
  have : s.linesDue = false := by simp [State.linesDue, h1]
  simp only [this]
  simp [h2, State.withSnapshots, State.formSegments]
  rw [← h2]

/-- With nothing to read and no request, the LINE TABLE owes nothing. -/
theorem State.takeDueSteps_of_idle (s : State) (h : s.NoReads) (hr : s.lineTable.requests = []) : s.takeDueSteps = s := by
  unfold State.takeDueSteps
  rw [State.makeDueReads_of_noReads s h]
  simp [State.carryOutDue, hr, State.carryOutAll]

/-- With nothing waiting to be read, nothing is read among the writes still to be gone through (R33). -/
theorem State.makeReadsAmong_of_noReads (s : State) (l : List Write) (h : s.NoReads) : s.makeReadsAmong l = s := by
  unfold State.makeReadsAmong
  have hs : State.NoReads { s with lineTable := { s.lineTable with queue := s.lineTable.queue ++ l } } := ⟨h.lines, h.bodies⟩
  simp only [State.makeDueReads_of_noReads _ hs]

theorem State.unmerge_reads (s : State) (l : List Nat) : (s.unmerge l).port = s.port ∧ (s.unmerge l).fetch = s.fetch := by
  induction l generalizing s with
  | nil => exact ⟨rfl, rfl⟩
  | cons n t ih => exact ih _

theorem State.freeNamed_reads (s : State) (n : Option Nat) : (s.freeNamed n).port = s.port ∧ (s.freeNamed n).fetch = s.fetch := by
  cases n <;> exact ⟨rfl, rfl⟩

/-- What a freeze does to one queued write leaves what waits to be read (R39). -/
theorem State.redirectWrite_reads (s : State) (c : Nat) (w : Write) :
    (s.redirectWrite c w).port = s.port ∧ (s.redirectWrite c w).fetch = s.fetch := by
  unfold State.redirectWrite
  split
  · exact ⟨rfl, rfl⟩
  · split
    · exact State.unmerge_reads _ _
    · dsimp only
      split
      · split
        · next h =>
          unfold State.assignShadow at h
          split at h
          · cases h; exact ⟨rfl, rfl⟩
          · split at h
            · cases h; exact ⟨rfl, rfl⟩
            · cases h
        · exact State.freeNamed_reads _ _
      · exact State.freeNamed_reads _ _

/-- With nothing waiting to be read, a freeze goes through the queued writes and does nothing between them (R39). -/
theorem State.redirectWrites_of_noReads (s : State) (c : Nat) (l : List Write) (h : s.NoReads) :
    s.redirectWrites c l = l.foldl (fun x w => x.redirectWrite c w) s := by
  induction l generalizing s with
  | nil => rfl
  | cons w t ih =>
    obtain ⟨hp, hf⟩ := State.redirectWrite_reads s c w
    have hn : (s.redirectWrite c w).NoReads := ⟨by rw [hp]; exact h.lines, by rw [hf]; exact h.bodies⟩
    simp only [State.redirectWrites, List.foldl_cons, State.makeReadsAmong_of_noReads _ t hn]
    exact ih _ hn

/-! ## The write queue -/

/-- A write queued behind others waits. -/
theorem State.queueWrite_behind (s : State) (w : Write) (h : s.lineTable.started = true) (hq : s.lineTable.queue ≠ []) :
    s.queueWrite w = { s with lineTable := { s.lineTable with
      queue := s.lineTable.queue ++ [{ w with order := s.lineTable.nextOrder }]
      nextOrder := s.lineTable.nextOrder + 1 } } := by
  unfold State.queueWrite State.startNext
  cases hc : s.lineTable.queue with
  | nil => exact absurd hc hq
  | cons x t => simp [h]

/-- A freed pool entry leaves its number free; with no store and no write for it nothing else changes. -/
theorem State.freePool_of_unwritten (s : State) (n : Nat) (hs : ∀ st, s.lineTable.store = some st → st.entry ≠ n)
    (hq : ∀ w ∈ s.lineTable.queue, w.intoPool n = false) : s.freePool n = { s with pool := Sparse.erase s.pool n } := by
  have h1 : s.lineTable.store.any (fun st => decide (st.entry = n)) = false := by
    cases h : s.lineTable.store with
    | none => rfl
    | some st => simpa using hs st h
  have h2 : s.lineTable.queue.map (fun w => w.afterFree n) = s.lineTable.queue := by
    conv_rhs => rw [← List.map_id s.lineTable.queue]
    exact List.map_congr_left (fun w hw => by simp [Write.afterFree, hq w hw])
  simp [State.freePool, h1, h2]

/-- A freed entry takes no write out of the queue: each keeps its place, its kind, its slot and its target (R26, R28). -/
theorem State.freePool_queue_length (s : State) (n : Nat) :
    (s.freePool n).lineTable.queue.length = s.lineTable.queue.length := by simp

theorem Write.afterFree_intoComposite (w : Write) (n c : Nat) : (w.afterFree n).intoComposite c = w.intoComposite c := by
  unfold Write.afterFree; split <;> rfl

/-- After its entry was freed no queued write fills it (log entry 13). -/
theorem Write.afterFree_intoPool (w : Write) (n : Nat) : (w.afterFree n).intoPool n = false := by
  unfold Write.afterFree
  split
  · simp [Write.intoPool]
  · next h => simpa using h

/-- A line that arrives while something waits is not taken at arrival (R31). -/
theorem State.takeArrival_of_waited (s : State) : s.takeArrival true = s := rfl

/-- Where nothing waits at the end, nothing has arrived (R31). -/
theorem State.takeArrival_of_none (s : State) (waited : Bool) (h : s.candidateWaits = false) :
    s.takeArrival waited = s := by simp [State.takeArrival, h]

/-- With nothing owed, a line that arrives with a place free is the next candidate taken (R31). -/
theorem State.takeArrival_of_idle (s : State) (h : s.NoReads) (hr : s.lineTable.requests = [])
    (hq : s.lineTable.queue.length < 4) (hc : s.candidateWaits = true) : s.takeArrival false = s.takeNext := by
  simp [State.takeArrival, State.writePlaceFree, Config.writeQueuePlaces, hq, hc, State.takeDueSteps_of_idle s h hr]

/-- A slot that is not THAWING has no thaw to end. -/
theorem State.thawEnd_of_not_thawing (s : State) (c : Nat) (h : s.hold c ≠ .thawing) : s.thawEnd c = s := by
  unfold State.thawEnd; simp [h]

theorem firstGreatest_eq_none {α : Type} (f : α → Nat) (l : List α) : firstGreatest f l = none ↔ l = [] := by
  cases l with
  | nil => simp [firstGreatest]
  | cons a t => simp only [firstGreatest]; split <;> simp; split <;> simp

/-! ## The arrival of a frame -/

section Arrival

variable (s : State) (frame : List Byte) (p : Station)

@[simp] theorem State.peerHeard_arrive_pending : ((s.arrive frame).peerHeard p).pending = s.pending := by
  simp only [State.peerHeard]; split <;> rfl
@[simp] theorem State.peerHeard_arrive_config : ((s.arrive frame).peerHeard p).config = s.config := by
  simp only [State.peerHeard]; split <;> rfl
@[simp] theorem State.peerHeard_arrive_reception : ((s.arrive frame).peerHeard p).reception = s.reception := by
  simp only [State.peerHeard]; split <;> rfl
@[simp] theorem State.peerHeard_arrive_lineTable : ((s.arrive frame).peerHeard p).lineTable = s.lineTable := by
  simp only [State.peerHeard]; split <;> rfl
@[simp] theorem State.peerHeard_arrive_memory : ((s.arrive frame).peerHeard p).memory = s.memory := by
  simp only [State.peerHeard]; split <;> rfl
@[simp] theorem State.peerHeard_arrive_slots : ((s.arrive frame).peerHeard p).slots = s.slots := by
  simp only [State.peerHeard]; split <;> rfl
@[simp] theorem State.peerHeard_arrive_originSequence : ((s.arrive frame).peerHeard p).originSequence = s.originSequence := by
  simp only [State.peerHeard]; split <;> rfl
@[simp] theorem State.peerHeard_arrive_alignment : ((s.arrive frame).peerHeard p).alignment = s.alignment := by
  simp only [State.peerHeard]; split <;> rfl
@[simp] theorem State.peerHeard_arrive_fetch : ((s.arrive frame).peerHeard p).fetch = s.fetch := by
  simp only [State.peerHeard]; split <;> rfl
@[simp] theorem State.peerHeard_arrive_pool : ((s.arrive frame).peerHeard p).pool = s.pool := by
  simp only [State.peerHeard]; split <;> rfl
@[simp] theorem State.peerHeard_arrive_port : ((s.arrive frame).peerHeard p).port = s.port := by
  simp only [State.peerHeard]; split <;> rfl
@[simp] theorem State.peerHeard_arrive_interruptedWrites : ((s.arrive frame).peerHeard p).interruptedWrites = s.interruptedWrites := by
  simp only [State.peerHeard]; split <;> rfl
@[simp] theorem State.peerHeard_arrive_link : ((s.arrive frame).peerHeard p).link = s.link.frameArrived := by
  simp only [State.peerHeard]; split <;> rfl
@[simp] theorem State.peerHeard_arrive_now : ((s.arrive frame).peerHeard p).now = s.frameEnd frame.length := by
  simp only [State.peerHeard]; split <;> rfl

/-- A good frame of the kind that a command takes is taken by its blocks after the ROSTER. -/
theorem State.receive_eq {α : Type} (f : Frame) (pick : Payload → Option α) (act : α → Station → State → State) (a : α)
    (h1 : s.config.state = .run) (h2 : s.link.canTakeFrame = true) (h3 : decodeFrame frame = some f)
    (h4 : pick f.payload = some a) (h5 : f.sender ≠ s.self) :
    s.receive frame pick act = (act a f.sender ((s.arrive frame).peerHeard f.sender)).settle := by
  simp [State.receive, State.whenCan, State.running, h1, h2, h3, h4, h5]

end Arrival

/-! ## What follows every command -/

@[simp] theorem State.issueAsk_pending (s : State) (c : Nat) (r : ChartRecord) (n : Nat) (row : HolderRow) (b : Holder) :
    (s.issueAsk c r n row b).pending = s.pending := by
  simp only [State.issueAsk]; split <;> rfl
@[simp] theorem State.issueAsksUpTo_pending (s : State) (k : Nat) : (s.issueAsksUpTo k).pending = s.pending := by
  induction k generalizing s with
  | zero => rfl
  | succ k ih => unfold State.issueAsksUpTo; split <;> simp [ih]
@[simp] theorem State.wakeTransmitter_pending (s : State) : s.wakeTransmitter.pending = s.pending := by
  unfold State.wakeTransmitter; split <;> rfl
@[simp] theorem State.settle_pending (s : State) : s.settle.pending = s.pending := by
  simp [State.settle, State.issueAsks]
@[simp] theorem State.issueAsk_now (s : State) (c : Nat) (r : ChartRecord) (n : Nat) (row : HolderRow) (b : Holder) :
    (s.issueAsk c r n row b).now = s.now := by
  simp only [State.issueAsk]; split <;> rfl
@[simp] theorem State.issueAsksUpTo_now (s : State) (k : Nat) : (s.issueAsksUpTo k).now = s.now := by
  induction k generalizing s with
  | zero => rfl
  | succ k ih => unfold State.issueAsksUpTo; split <;> simp [ih]
@[simp] theorem State.wakeTransmitter_now (s : State) : s.wakeTransmitter.now = s.now := by
  unfold State.wakeTransmitter; split <;> rfl
@[simp] theorem State.settle_now (s : State) : s.settle.now = s.now := by
  simp [State.settle, State.issueAsks]
@[simp] theorem State.issueAsk_config (s : State) (c : Nat) (r : ChartRecord) (n : Nat) (row : HolderRow) (b : Holder) :
    (s.issueAsk c r n row b).config = s.config := by
  simp only [State.issueAsk]; split <;> rfl
@[simp] theorem State.issueAsksUpTo_config (s : State) (k : Nat) : (s.issueAsksUpTo k).config = s.config := by
  induction k generalizing s with
  | zero => rfl
  | succ k ih => unfold State.issueAsksUpTo; split <;> simp [ih]
@[simp] theorem State.wakeTransmitter_config (s : State) : s.wakeTransmitter.config = s.config := by
  unfold State.wakeTransmitter; split <;> rfl
@[simp] theorem State.settle_config (s : State) : s.settle.config = s.config := by
  simp [State.settle, State.issueAsks]
@[simp] theorem State.issueAsk_reception (s : State) (c : Nat) (r : ChartRecord) (n : Nat) (row : HolderRow) (b : Holder) :
    (s.issueAsk c r n row b).reception = s.reception := by
  simp only [State.issueAsk]; split <;> rfl
@[simp] theorem State.issueAsksUpTo_reception (s : State) (k : Nat) : (s.issueAsksUpTo k).reception = s.reception := by
  induction k generalizing s with
  | zero => rfl
  | succ k ih => unfold State.issueAsksUpTo; split <;> simp [ih]
@[simp] theorem State.wakeTransmitter_reception (s : State) : s.wakeTransmitter.reception = s.reception := by
  unfold State.wakeTransmitter; split <;> rfl
@[simp] theorem State.settle_reception (s : State) : s.settle.reception = s.reception := by
  simp [State.settle, State.issueAsks]
@[simp] theorem State.issueAsk_lineTable (s : State) (c : Nat) (r : ChartRecord) (n : Nat) (row : HolderRow) (b : Holder) :
    (s.issueAsk c r n row b).lineTable = s.lineTable := by
  simp only [State.issueAsk]; split <;> rfl
@[simp] theorem State.issueAsksUpTo_lineTable (s : State) (k : Nat) : (s.issueAsksUpTo k).lineTable = s.lineTable := by
  induction k generalizing s with
  | zero => rfl
  | succ k ih => unfold State.issueAsksUpTo; split <;> simp [ih]
@[simp] theorem State.wakeTransmitter_lineTable (s : State) : s.wakeTransmitter.lineTable = s.lineTable := by
  unfold State.wakeTransmitter; split <;> rfl
@[simp] theorem State.settle_lineTable (s : State) : s.settle.lineTable = s.lineTable := by
  simp [State.settle, State.issueAsks]
@[simp] theorem State.issueAsk_memory (s : State) (c : Nat) (r : ChartRecord) (n : Nat) (row : HolderRow) (b : Holder) :
    (s.issueAsk c r n row b).memory = s.memory := by
  simp only [State.issueAsk]; split <;> rfl
@[simp] theorem State.issueAsksUpTo_memory (s : State) (k : Nat) : (s.issueAsksUpTo k).memory = s.memory := by
  induction k generalizing s with
  | zero => rfl
  | succ k ih => unfold State.issueAsksUpTo; split <;> simp [ih]
@[simp] theorem State.wakeTransmitter_memory (s : State) : s.wakeTransmitter.memory = s.memory := by
  unfold State.wakeTransmitter; split <;> rfl
@[simp] theorem State.settle_memory (s : State) : s.settle.memory = s.memory := by
  simp [State.settle, State.issueAsks]
@[simp] theorem State.issueAsk_slots (s : State) (c : Nat) (r : ChartRecord) (n : Nat) (row : HolderRow) (b : Holder) :
    (s.issueAsk c r n row b).slots = s.slots := by
  simp only [State.issueAsk]; split <;> rfl
@[simp] theorem State.issueAsksUpTo_slots (s : State) (k : Nat) : (s.issueAsksUpTo k).slots = s.slots := by
  induction k generalizing s with
  | zero => rfl
  | succ k ih => unfold State.issueAsksUpTo; split <;> simp [ih]
@[simp] theorem State.wakeTransmitter_slots (s : State) : s.wakeTransmitter.slots = s.slots := by
  unfold State.wakeTransmitter; split <;> rfl
@[simp] theorem State.settle_slots (s : State) : s.settle.slots = s.slots := by
  simp [State.settle, State.issueAsks]
@[simp] theorem State.issueAsk_originSequence (s : State) (c : Nat) (r : ChartRecord) (n : Nat) (row : HolderRow) (b : Holder) :
    (s.issueAsk c r n row b).originSequence = s.originSequence := by
  simp only [State.issueAsk]; split <;> rfl
@[simp] theorem State.issueAsksUpTo_originSequence (s : State) (k : Nat) : (s.issueAsksUpTo k).originSequence = s.originSequence := by
  induction k generalizing s with
  | zero => rfl
  | succ k ih => unfold State.issueAsksUpTo; split <;> simp [ih]
@[simp] theorem State.wakeTransmitter_originSequence (s : State) : s.wakeTransmitter.originSequence = s.originSequence := by
  unfold State.wakeTransmitter; split <;> rfl
@[simp] theorem State.settle_originSequence (s : State) : s.settle.originSequence = s.originSequence := by
  simp [State.settle, State.issueAsks]
@[simp] theorem State.issueAsk_roster (s : State) (c : Nat) (r : ChartRecord) (n : Nat) (row : HolderRow) (b : Holder) :
    (s.issueAsk c r n row b).roster = s.roster := by
  simp only [State.issueAsk]; split <;> rfl
@[simp] theorem State.issueAsksUpTo_roster (s : State) (k : Nat) : (s.issueAsksUpTo k).roster = s.roster := by
  induction k generalizing s with
  | zero => rfl
  | succ k ih => unfold State.issueAsksUpTo; split <;> simp [ih]
@[simp] theorem State.wakeTransmitter_roster (s : State) : s.wakeTransmitter.roster = s.roster := by
  unfold State.wakeTransmitter; split <;> rfl
@[simp] theorem State.settle_roster (s : State) : s.settle.roster = s.roster := by
  simp [State.settle, State.issueAsks]
@[simp] theorem State.issueAsk_alignment (s : State) (c : Nat) (r : ChartRecord) (n : Nat) (row : HolderRow) (b : Holder) :
    (s.issueAsk c r n row b).alignment = s.alignment := by
  simp only [State.issueAsk]; split <;> rfl
@[simp] theorem State.issueAsksUpTo_alignment (s : State) (k : Nat) : (s.issueAsksUpTo k).alignment = s.alignment := by
  induction k generalizing s with
  | zero => rfl
  | succ k ih => unfold State.issueAsksUpTo; split <;> simp [ih]
@[simp] theorem State.wakeTransmitter_alignment (s : State) : s.wakeTransmitter.alignment = s.alignment := by
  unfold State.wakeTransmitter; split <;> rfl
@[simp] theorem State.settle_alignment (s : State) : s.settle.alignment = s.alignment := by
  simp [State.settle, State.issueAsks]
@[simp] theorem State.issueAsk_pool (s : State) (c : Nat) (r : ChartRecord) (n : Nat) (row : HolderRow) (b : Holder) :
    (s.issueAsk c r n row b).pool = s.pool := by
  simp only [State.issueAsk]; split <;> rfl
@[simp] theorem State.issueAsksUpTo_pool (s : State) (k : Nat) : (s.issueAsksUpTo k).pool = s.pool := by
  induction k generalizing s with
  | zero => rfl
  | succ k ih => unfold State.issueAsksUpTo; split <;> simp [ih]
@[simp] theorem State.wakeTransmitter_pool (s : State) : s.wakeTransmitter.pool = s.pool := by
  unfold State.wakeTransmitter; split <;> rfl
@[simp] theorem State.settle_pool (s : State) : s.settle.pool = s.pool := by
  simp [State.settle, State.issueAsks]
@[simp] theorem State.issueAsk_attention (s : State) (c : Nat) (r : ChartRecord) (n : Nat) (row : HolderRow) (b : Holder) :
    (s.issueAsk c r n row b).attention = s.attention := by
  simp only [State.issueAsk]; split <;> rfl
@[simp] theorem State.issueAsksUpTo_attention (s : State) (k : Nat) : (s.issueAsksUpTo k).attention = s.attention := by
  induction k generalizing s with
  | zero => rfl
  | succ k ih => unfold State.issueAsksUpTo; split <;> simp [ih]
@[simp] theorem State.wakeTransmitter_attention (s : State) : s.wakeTransmitter.attention = s.attention := by
  unfold State.wakeTransmitter; split <;> rfl
@[simp] theorem State.settle_attention (s : State) : s.settle.attention = s.attention := by
  simp [State.settle, State.issueAsks]
@[simp] theorem State.issueAsk_port (s : State) (c : Nat) (r : ChartRecord) (n : Nat) (row : HolderRow) (b : Holder) :
    (s.issueAsk c r n row b).port = s.port := by
  simp only [State.issueAsk]; split <;> rfl
@[simp] theorem State.issueAsksUpTo_port (s : State) (k : Nat) : (s.issueAsksUpTo k).port = s.port := by
  induction k generalizing s with
  | zero => rfl
  | succ k ih => unfold State.issueAsksUpTo; split <;> simp [ih]
@[simp] theorem State.wakeTransmitter_port (s : State) : s.wakeTransmitter.port = s.port := by
  unfold State.wakeTransmitter; split <;> rfl
@[simp] theorem State.settle_port (s : State) : s.settle.port = s.port := by
  simp [State.settle, State.issueAsks]
@[simp] theorem State.issueAsk_interruptedWrites (s : State) (c : Nat) (r : ChartRecord) (n : Nat) (row : HolderRow) (b : Holder) :
    (s.issueAsk c r n row b).interruptedWrites = s.interruptedWrites := by
  simp only [State.issueAsk]; split <;> rfl
@[simp] theorem State.issueAsksUpTo_interruptedWrites (s : State) (k : Nat) : (s.issueAsksUpTo k).interruptedWrites = s.interruptedWrites := by
  induction k generalizing s with
  | zero => rfl
  | succ k ih => unfold State.issueAsksUpTo; split <;> simp [ih]
@[simp] theorem State.wakeTransmitter_interruptedWrites (s : State) : s.wakeTransmitter.interruptedWrites = s.interruptedWrites := by
  unfold State.wakeTransmitter; split <;> rfl
@[simp] theorem State.settle_interruptedWrites (s : State) : s.settle.interruptedWrites = s.interruptedWrites := by
  simp [State.settle, State.issueAsks]
end Sys2Proof.Machine
end

