-- ==== Sys2Proof/Laws/Effects.lean ====
section
/-!
SUPPORT. For each operation that several blocks share, one equation that says all it does: starting the next write, cutting
writes short, freeing pool entries, retiring fetches.
-/
namespace Sys2Proof.Machine

/-! ## Starting the next write changes the write queue alone (R28) -/

@[simp] theorem State.startNext_pending (s : State) : s.startNext.pending = s.pending := by
  unfold State.startNext; split <;> [rfl; (split <;> rfl)]
@[simp] theorem State.startNext_now (s : State) : s.startNext.now = s.now := by
  unfold State.startNext; split <;> [rfl; (split <;> rfl)]
@[simp] theorem State.startNext_config (s : State) : s.startNext.config = s.config := by
  unfold State.startNext; split <;> [rfl; (split <;> rfl)]
@[simp] theorem State.startNext_reception (s : State) : s.startNext.reception = s.reception := by
  unfold State.startNext; split <;> [rfl; (split <;> rfl)]
@[simp] theorem State.startNext_memory (s : State) : s.startNext.memory = s.memory := by
  unfold State.startNext; split <;> [rfl; (split <;> rfl)]
@[simp] theorem State.startNext_slots (s : State) : s.startNext.slots = s.slots := by
  unfold State.startNext; split <;> [rfl; (split <;> rfl)]
@[simp] theorem State.startNext_originSequence (s : State) : s.startNext.originSequence = s.originSequence := by
  unfold State.startNext; split <;> [rfl; (split <;> rfl)]
@[simp] theorem State.startNext_link (s : State) : s.startNext.link = s.link := by
  unfold State.startNext; split <;> [rfl; (split <;> rfl)]
@[simp] theorem State.startNext_roster (s : State) : s.startNext.roster = s.roster := by
  unfold State.startNext; split <;> [rfl; (split <;> rfl)]
@[simp] theorem State.startNext_alignment (s : State) : s.startNext.alignment = s.alignment := by
  unfold State.startNext; split <;> [rfl; (split <;> rfl)]
@[simp] theorem State.startNext_fetch (s : State) : s.startNext.fetch = s.fetch := by
  unfold State.startNext; split <;> [rfl; (split <;> rfl)]
@[simp] theorem State.startNext_pool (s : State) : s.startNext.pool = s.pool := by
  unfold State.startNext; split <;> [rfl; (split <;> rfl)]
@[simp] theorem State.startNext_attention (s : State) : s.startNext.attention = s.attention := by
  unfold State.startNext; split <;> [rfl; (split <;> rfl)]
@[simp] theorem State.startNext_port (s : State) : s.startNext.port = s.port := by
  unfold State.startNext; split <;> [rfl; (split <;> rfl)]
@[simp] theorem State.startNext_interruptedWrites (s : State) : s.startNext.interruptedWrites = s.interruptedWrites := by
  unfold State.startNext; split <;> [rfl; (split <;> rfl)]

/-! ## Writes and pool entries -/

/-- Cancelled writes leave the queue; one in progress is cut short, and every byte outside its place reads as before (R28, R40). -/
theorem State.cancelWrites_eq (s : State) (p : Write → Bool) : ∃ m i, s.cancelWrites p = { s with
      memory := m, interruptedWrites := i
      lineTable := { s.lineTable with
        queue := s.lineTable.queue.filter (fun w => !p w)
        started := s.lineTable.started && s.lineTable.queue.head?.any (fun w => !p w) } } ∧
     (∀ a, (∀ w, s.lineTable.started = true → s.lineTable.queue.head? = some w → p w = true →
        a < s.writeAddress w ∨ s.writeAddress w + (s.writeBytes w).length ≤ a) →
      Memory.readByte m a = Memory.readByte s.memory a) := by
  unfold State.cancelWrites
  cases hq : s.lineTable.queue with
  | nil => exact ⟨s.memory, s.interruptedWrites, rfl, fun a _ => rfl⟩
  | cons w t =>
    by_cases hp : s.lineTable.started = true ∧ p w = true
    · refine ⟨(s.interruptWrite w).memory, (s.interruptWrite w).interruptedWrites, ?_, ?_⟩
      · simp only [hp.1, hp.2, Bool.and_self, if_true]
        rfl
      · intro a h
        have := h w hp.1 rfl hp.2
        simp only [State.interruptWrite]
        have hl : (mixBytes s.interruptedWrites 0 (Memory.read s.memory (s.writeAddress w) (s.writeBytes w).length)
            (s.writeBytes w)).length ≤ (s.writeBytes w).length := by
          have : ∀ (o : Nat) (k : Nat) (a b : List Byte), (mixBytes o k a b).length ≤ b.length := by
            intro o k a b
            induction a generalizing k b with
            | nil => simp [mixBytes]
            | cons x xs ih =>
              cases b with
              | nil => simp [mixBytes]
              | cons y ys => simp only [mixBytes, List.length_cons]; have := ih (k+1) ys; omega
          exact this _ _ _ _
        apply Memory.readByte_write_outside
        omega
    · refine ⟨s.memory, s.interruptedWrites, ?_, fun a _ => rfl⟩
      have : (s.lineTable.started && p w) = false := by simpa using hp
      simp only [this]
      rfl

/-- A freed pool entry leaves the pool, a store that waits for it goes, and a write queued for it goes stale (R139, R140). -/
theorem State.freePool_eq (s : State) (n : Nat) : s.freePool n = { s with
    pool := Sparse.erase s.pool n
    lineTable := { s.lineTable with
      store := s.lineTable.store.filter (fun st => st.entry != n)
      queue := s.lineTable.queue.map (fun w => if w.intoPool n then { w with stale := true } else w) } } := by
  unfold State.freePool
  have : (if (s.lineTable.store.any fun st => decide (st.entry = n)) = true then none else s.lineTable.store) =
      s.lineTable.store.filter (fun st => st.entry != n) := by
    cases s.lineTable.store with
    | none => rfl
    | some st => by_cases h : st.entry = n <;> simp [h, Option.filter]
  rw [this]; rfl

theorem Write.intoPool_stale (w : Write) (n : Nat) : ({ w with stale := true } : Write).intoPool n = false := by
  simp [Write.intoPool]

/-- Some entries freed at once. -/
theorem State.freePools_eq (s : State) (l : List Nat) : s.freePools l = { s with
    pool := s.pool.filter (fun p => !l.contains p.1)
    lineTable := { s.lineTable with
      store := s.lineTable.store.filter (fun st => !l.contains st.entry)
      queue := s.lineTable.queue.map (fun w => if l.any w.intoPool then { w with stale := true } else w) } } := by
  induction l generalizing s with
  | nil =>
    have h1 : s.lineTable.store.filter (fun st => !([] : List Nat).contains st.entry) = s.lineTable.store := by
      cases s.lineTable.store <;> rfl
    have h2 : s.pool.filter (fun p => !([] : List Nat).contains p.1) = s.pool := by simp
    have h3 : s.lineTable.queue.map (fun w => if ([] : List Nat).any w.intoPool then { w with stale := true } else w) =
        s.lineTable.queue := by simp
    rw [h1, h2, h3]; rfl
  | cons n l ih =>
    simp only [State.freePools]
    rw [ih, State.freePool_eq]
    have h1 : (Sparse.erase s.pool n).filter (fun p => !l.contains p.1) =
        s.pool.filter (fun p => !(n :: l).contains p.1) := by
      simp only [Sparse.erase, List.filter_filter]
      apply List.filter_congr
      intro p _
      by_cases h : p.1 = n <;> simp [h]
    have h2 : (s.lineTable.store.filter (fun st => st.entry != n)).filter (fun st => !l.contains st.entry) =
        s.lineTable.store.filter (fun st => !(n :: l).contains st.entry) := by
      cases s.lineTable.store with
      | none => rfl
      | some st => by_cases h : st.entry = n <;> simp [h, Option.filter]
    have h3 : (s.lineTable.queue.map (fun w => if w.intoPool n then { w with stale := true } else w)).map
          (fun w => if l.any w.intoPool then { w with stale := true } else w) =
        s.lineTable.queue.map (fun w => if (n :: l).any w.intoPool then { w with stale := true } else w) := by
      rw [List.map_map]
      apply List.map_congr_left
      intro w _
      simp only [Function.comp, List.any_cons]
      by_cases h : w.intoPool n = true
      · have : l.any ({ w with stale := true } : Write).intoPool = false := by
          rw [List.any_eq_false]; intro x _; simp [Write.intoPool_stale]
        simp [h, this]
      · simp [h]
    simp only [h1, h2, h3]

/-! ## Frames withdrawn and fetches retired (R60, R119) -/

theorem withdrawFrom_none (b : Bool) (q : List QueuedFrame) : withdrawFrom (fun _ => false) b q = q := by
  unfold withdrawFrom
  cases b
  · simp
  · cases q <;> simp

theorem QueuedFrame.isAsk_withdrawn (k : Key) (n : Nat) (f : QueuedFrame) :
    QueuedFrame.isAsk k n { f with withdrawn := true } = false := by
  unfold QueuedFrame.isAsk
  simp only [Bool.not_true, Bool.and_false]
  split <;> rfl

/-- Two withdrawals from a queue are one, where a withdrawn frame is not withdrawn again. -/
theorem withdrawFrom_withdrawFrom (P : QueuedFrame → Bool) (hP : ∀ f : QueuedFrame, P { f with withdrawn := true } = false)
    (Q : QueuedFrame → Bool) (b : Bool) (q : List QueuedFrame) :
    withdrawFrom P b (withdrawFrom Q b q) = withdrawFrom (fun f => Q f || P f) b q := by
  unfold withdrawFrom
  cases b
  · simp only [Bool.false_eq_true, if_false, List.filter_filter]
    apply List.filter_congr
    intro f _
    cases Q f <;> cases P f <;> rfl
  · cases q with
    | nil => simp
    | cons h t =>
      simp only [if_true, List.filter_filter]
      congr 1
      · by_cases hQ : Q h = true
        · simp [hQ, hP]
        · simp [hQ]
      · apply List.filter_congr
        intro f _
        cases Q f <;> cases P f <;> rfl

/-- Fetches retired without a count leave the list, and of their ASKs the queued ones are withdrawn (R60, R119). -/
theorem State.retireAll_eq (l : List FetchEntry) (s : State) : s.retireAll false l = { s with
    fetch := { s.fetch with fetches := s.fetch.fetches.filter (fun x => !l.contains x) }
    link := { s.link with
      askDecline :=
        withdrawFrom (fun q => (l.filter (fun e => e.phase = .askQueued)).any (fun e => q.isAsk e.key e.line))
          (s.link.inFlight .askDecline) s.link.askDecline } } := by
  induction l generalizing s with
  | nil =>
    have : s.fetch.fetches.filter (fun x => !([] : List FetchEntry).contains x) = s.fetch.fetches := by simp
    rw [this]
    have h2 := withdrawFrom_none (s.link.inFlight .askDecline) s.link.askDecline
    simp only [List.filter_nil, List.any_nil, h2]
    rfl
  | cons e l ih =>
    simp only [State.retireAll]
    rw [if_neg (by simp), ih]
    have hf : (s.fetch.fetches.filter (fun x => x != e)).filter (fun x => !l.contains x) =
        s.fetch.fetches.filter (fun x => !(e :: l).contains x) := by
      rw [List.filter_filter]
      apply List.filter_congr
      intro x _
      by_cases h : x = e <;> simp [h]
    by_cases hq : e.phase = .askQueued
    · simp only [State.retire, hq, if_true, Link.withdrawAsk, hf, Link.inFlight]
      have h2 := withdrawFrom_withdrawFrom
        (fun q => (l.filter (fun e => e.phase = .askQueued)).any (fun e => q.isAsk e.key e.line))
        (by intro f; rw [List.any_eq_false]; intro x _; simp [QueuedFrame.isAsk_withdrawn])
        (QueuedFrame.isAsk e.key e.line) (s.link.attempt = some .askDecline) s.link.askDecline
      simp only [h2]
      rw [List.filter_cons_of_pos (by simp [hq])]
      simp only [List.any_cons]
    · simp only [State.retire, hq, if_false, hf]
      rw [List.filter_cons_of_neg (by simp [hq])]

theorem State.retireWhere_eq (s : State) (p : FetchEntry → Bool) : s.retireWhere p false = { s with
    fetch := { s.fetch with fetches := s.fetch.fetches.filter (fun x => !p x) }
    link := { s.link with
      askDecline :=
        withdrawFrom (fun q => (s.fetch.fetches.filter (fun e => p e && decide (e.phase = .askQueued))).any
          (fun e => q.isAsk e.key e.line)) (s.link.attempt = some .askDecline) s.link.askDecline } } := by
  unfold State.retireWhere
  rw [State.retireAll_eq]
  have h1 : s.fetch.fetches.filter (fun x => !(s.fetch.fetches.filter p).contains x) =
      s.fetch.fetches.filter (fun x => !p x) := by
    apply List.filter_congr
    intro x hx
    congr 1
    by_cases h : p x = true
    · simp [h, hx]
    · simp [h]
  have h2 : (s.fetch.fetches.filter p).filter (fun e => decide (e.phase = .askQueued)) =
      s.fetch.fetches.filter (fun e => p e && decide (e.phase = .askQueued)) := by
    rw [List.filter_filter]
    apply List.filter_congr
    intro x _
    rw [Bool.and_comm]
  rw [h1, h2]
  rfl

end Sys2Proof.Machine
end

