-- ==== Sys2Proof/Laws/Events.lean ====
section
/-!
SUPPORT. The laws of the pending set and of the release: what an event's posting adds, and that the set keeps its order.
-/
namespace Sys2Proof.Machine

/-- The order of entries: by code, then by argument. -/
theorem Event.before_iff (a b : Event) :
    a.before b = true ↔ a.kind.code < b.kind.code ∨ a.kind.code = b.kind.code ∧ a.argument < b.argument := by
  simp [Event.before]

/-- No two kinds have the same code. -/
theorem EventKind.code_injective (a b : EventKind) (h : a.code = b.code) : a = b := by
  cases a <;> cases b <;> simp_all [EventKind.code]

theorem Event.before_trans {a b c : Event} (h1 : a.before b = true) (h2 : b.before c = true) : a.before c = true := by
  rw [Event.before_iff] at *; omega

/-- Of two entries that differ, one comes before the other. -/
theorem Event.before_total {a b : Event} (hne : a ≠ b) (h : a.before b = false) : b.before a = true := by
  rw [Event.before_iff]
  have h' : ¬(a.kind.code < b.kind.code ∨ a.kind.code = b.kind.code ∧ a.argument < b.argument) := by
    rw [← Event.before_iff, h]; simp
  by_contra hc
  apply hne
  obtain ⟨ka, na⟩ := a
  obtain ⟨kb, nb⟩ := b
  simp only at *
  have hk : ka = kb := EventKind.code_injective _ _ (by omega)
  subst hk
  congr 1; omega

/-- An inserted event is in the set with all that was there, and nothing else. -/
theorem mem_insertEvent (e : Event) (l : List Event) (x : Event) : x ∈ insertEvent e l ↔ x = e ∨ x ∈ l := by
  induction l with
  | nil => simp [insertEvent]
  | cons a t ih =>
    simp only [insertEvent]
    split
    · rename_i h; subst h; simp
    · split
      · simp
      · simp [ih]; tauto

/-- An event's insertion keeps the strict order. -/
theorem pairwise_insertEvent (e : Event) (l : List Event) (h : l.Pairwise (fun a b => a.before b = true)) :
    (insertEvent e l).Pairwise (fun a b => a.before b = true) := by
  induction l with
  | nil => simp [insertEvent]
  | cons x t ih =>
    obtain ⟨h1, h2⟩ := List.pairwise_cons.1 h
    simp only [insertEvent]
    split
    · exact h
    · split
      · rename_i hb
        refine List.pairwise_cons.2 ⟨fun y hy => ?_, h⟩
        rcases List.mem_cons.1 hy with rfl | hy
        · exact hb
        · exact Event.before_trans hb (h1 y hy)
      · rename_i hne hb
        refine List.pairwise_cons.2 ⟨fun y hy => ?_, ih h2⟩
        rcases (mem_insertEvent e t y).1 hy with rfl | hy
        · exact Event.before_total hne (by simpa using hb)
        · exact h1 y hy

/-- A posted event is pending with all that was. -/
theorem State.mem_post (s : State) (k : EventKind) (n : Nat) (x : Event) :
    x ∈ (s.post k n).attention.events ↔ x = ⟨k, n⟩ ∨ x ∈ s.attention.events := mem_insertEvent _ _ _

/-- Posting keeps the pending set distinct. -/
theorem State.eventsDistinct_post (s : State) (k : EventKind) (n : Nat)
    (h : s.attention.events.Pairwise (fun a b => a.before b = true)) :
    (s.post k n).attention.events.Pairwise (fun a b => a.before b = true) := pairwise_insertEvent _ _ h

theorem State.mem_postAll (s : State) (k : EventKind) (l : List Nat) (x : Event) :
    x ∈ (s.postAll k l).attention.events ↔ x ∈ s.attention.events ∨ ∃ n ∈ l, x = ⟨k, n⟩ := by
  induction l generalizing s with
  | nil => simp [State.postAll]
  | cons a t ih => simp [State.postAll, ih, mem_insertEvent]; tauto

/-- Posting several events changes the pending set only. -/
theorem State.postAll_eq (s : State) (k : EventKind) (l : List Nat) :
    s.postAll k l = { s with attention := { s.attention with events := (s.postAll k l).attention.events } } := by
  induction l generalizing s with
  | nil => rfl
  | cons a t ih => simp only [State.postAll]; rw [ih]; rfl

/-- A release of a cold reset puts the part in RUN, starts the listen timer and posts events; nothing else. -/
theorem State.release_cold (s : State) (hp : s.config.pendingReset = .cold) : s.release = { s with
    config := { s.config with state := .run }
    roster := { s.roster with listenDeadline := some (s.now + Config.listenTime) }
    attention := { s.attention with events := s.release.attention.events, thawDoneAtRelease := [] } } := by
  unfold State.release State.postRelease
  simp only [hp]
  rw [State.postAll_eq, State.postAll_eq (State.post _ _ _)]
  simp only [State.post, ↓reduceIte]

/-- A release of a warm reset likewise. -/
theorem State.release_warm (s : State) (hp : s.config.pendingReset = .warm) : s.release = { s with
    config := { s.config with state := .run }
    roster := { s.roster with listenDeadline := some (s.now + Config.listenTime) }
    attention := { s.attention with events := s.release.attention.events, thawDoneAtRelease := [] } } := by
  unfold State.release State.postRelease
  simp only [hp]
  rw [State.postAll_eq]
  rfl

end Sys2Proof.Machine
end

