-- ==== Sys2Proof/Tests/Slice0.lean ====
section
/-!
SUPPORT. Tests on words and figures that the manual gives or that were worked out by hand from its tables, and for every
statement that has hypotheses a witness: a state and operands that meet them.

The frame words were written out from R46, R48, R51 and R183, their CRCs found by another program.
-/
open Sys2Proof Sys2Proof.Machine

-- The theorems are elaborated one after the other: each that is decided by the kernel waits for those before it.
set_option Elab.async false

namespace Sys2Proof.Tests

/-! ## Bytes -/

/-- R48 gives this check itself. -/
theorem test_crc_check : crc [0x31, 0x32, 0x33, 0x34, 0x35, 0x36, 0x37, 0x38, 0x39] = 0x29B1 := by decide +kernel

def key : Key := { origin := 1, sequence := 5 }

def hailWord : List Byte := [0x84, 0x03, 0xD8, 0x03, 0x25, 0xCC, 0xA7]
def hailFrame : Frame :=
  { sender := 1
    payload := .hail { joining := true, width := 1, rate := 2, boundKey := some { origin := 3, sequence := 0x25 } } }
theorem test_hail_word : decodeFrame hailWord = some hailFrame := by decide +kernel

def openWord : List Byte := [0x04, 0x05, 0x01, 0x05, 0x25, 0x07, 0xFF, 0x8F, 0x4C]
def openFrame : Frame :=
  { sender := 1
    payload := .chartOpen
      { key := key, rate := 0, width := 2, late := true, split := false, reannounce := true, highest := 2047 } }
theorem test_open_word : decodeFrame openWord = some openFrame := by decide +kernel

def closeWord : List Byte := [0x05, 0x05, 0x01, 0x05, 0x80, 0x07, 0xFF, 0x61, 0x41]
def closeFrame : Frame := { sender := 1, payload := .chartClose { key := key, reason := .stop, lastLine := some 2047 } }
theorem test_close_word : decodeFrame closeWord = some closeFrame := by decide +kernel

def tallyWord : List Byte := [0x44, 0x08, 0x01, 0x05, 0x07, 0xFF, 0x13, 0xC8, 0xE3, 0x4C, 0x78, 0xF7]
def tallyFrame : Frame :=
  { sender := 1
    payload := .tally { key := key, first := 2047, age := 3, entries := [{ grade := 200, fingerprint := 0xE34C }] } }
theorem test_tally_word : decodeFrame tallyWord = some tallyFrame := by decide +kernel

def askWord : List Byte := [0x24, 0x06, 0x01, 0x05, 0x00, 0x07, 0x00, 0x82, 0xB6, 0xB3]
def askFrame : Frame := { sender := 1, payload := .ask { key := key, line := 7, primary := 0, fallback := some 2 } }
theorem test_ask_word : decodeFrame askWord = some askFrame := by decide +kernel

def fallbackWord : List Byte := [0x24, 0x06, 0x01, 0x05, 0x00, 0x07, 0x02, 0x80, 0xF0, 0x93]
def fallbackFrame : Frame := { sender := 1, payload := .ask { key := key, line := 7, primary := 2, fallback := some 0 } }
theorem test_fallback_word : decodeFrame fallbackWord = some fallbackFrame := by decide +kernel

def declineWord : List Byte := [0x25, 0x06, 0x01, 0x05, 0x00, 0x07, 0x00, 0x02, 0x60, 0xE8]
def declineFrame : Frame := { sender := 1, payload := .decline { key := key, line := 7, requester := 0, reason := .busy } }
theorem test_decline_word : decodeFrame declineWord = some declineFrame := by decide +kernel

/-- A HAIL that bears station 0's number. -/
def ownWord : List Byte := [0x80, 0x03, 0x00, 0x00, 0x00, 0xA8, 0x00]
def ownFrame : Frame := { sender := 0, payload := .hail { joining := false, width := 0, rate := 0, boundKey := none } }
theorem test_own_word : decodeFrame ownWord = some ownFrame := by decide +kernel

/-- A plain HAIL of station 2. -/
def plainWord : List Byte := [0x88, 0x03, 0x00, 0x00, 0x00, 0xAA, 0x2D]
def plainFrame : Frame := { sender := 2, payload := .hail { joining := false, width := 0, rate := 0, boundKey := none } }
theorem test_plain_word : decodeFrame plainWord = some plainFrame := by decide +kernel

/-- A HAIL with a wrong CRC (R48). -/
def badWord : List Byte := [0x84, 0x03, 0x00, 0x00, 0x00, 0x21, 0x00]
theorem test_bad_crc_is_discarded : decodeFrame badWord = none ∧ framingBroken badWord false = false := by decide +kernel

/-- The CRC of a run of bytes, its halves taken one after the other. -/
def crcFrom (r : BitVec 16) (bytes : List Byte) : BitVec 16 := bytes.foldl (fun r b => crcBits r b 8) r

theorem crc_in_parts (a b c : List Byte) : crc (a ++ (b ++ c)) = crcFrom (crcFrom (crcFrom 0xFFFF a) b) c := by
  simp [crc, crcFrom]

/-- A frame whose length byte and CRC are right is read by its payload. -/
theorem decode_of_crc (b0 len : Byte) (p : List Byte) (k : BitVec 16) (hl : p.length = len.toNat) (h96 : p.length ≤ 96)
    (hk : crc (b0 :: len :: p) = k) :
    decodeFrame (b0 :: len :: (p ++ [k.extractLsb' 8 8, k.extractLsb' 0 8])) =
      (payloadOfBytes (b0.toNat / 32) (b0.toNat % 4) p).map
        (fun q => { sender := (b0.extractLsb' 2 3).toFin, payload := q }) := by
  unfold decodeFrame
  simp [← hl, h96, hk]

/-- Segments 0, 6 and 7 of a body of 8, all black: byte 5 is 40, with the end mark 41. -/
def segment (number : Nat) : Segment :=
  { key := key, line := 7, number := number, count := 8, endMark := number + 1 = 8
    header := if number = 0 then some { grade := 200, source := 3, width := 0, requester := 0 } else none
    pixels := List.replicate 64 0xFF }
def segmentFrame (number : Nat) : Frame := { sender := 1, payload := .body (segment number) }

def black : List Byte := List.replicate 32 0xFF
def segmentWord0 : List Byte :=
  0x64 :: 0x4A :: ([0x01, 0x05, 0x00, 0x07, 0x00, 0x40, 0xC8, 0x03, 0x00, 0x00] ++ (black ++ black) ++ [0x31, 0xA7])
def segmentWord6 : List Byte :=
  0x64 :: 0x46 :: ([0x01, 0x05, 0x00, 0x07, 0x06, 0x40] ++ (black ++ black) ++ [0x12, 0x3D])
def segmentWord7 : List Byte :=
  0x64 :: 0x46 :: ([0x01, 0x05, 0x00, 0x07, 0x07, 0x41] ++ (black ++ black) ++ [0x26, 0x11])

theorem test_segment_0_word : decodeFrame segmentWord0 = some (segmentFrame 0) := by
  have h : crc (0x64 :: 0x4A :: ([0x01, 0x05, 0x00, 0x07, 0x00, 0x40, 0xC8, 0x03, 0x00, 0x00] ++ (black ++ black))) = 0x31A7 := by
    have h1 : crcFrom 0xFFFF [0x64, 0x4A, 0x01, 0x05, 0x00, 0x07, 0x00, 0x40, 0xC8, 0x03, 0x00, 0x00] = 0x03B7 := by
      decide +kernel
    have h2 : crcFrom 0x03B7 black = 0x7DC9 := by decide +kernel
    have h3 : crcFrom 0x7DC9 black = 0x31A7 := by decide +kernel
    exact (crc_in_parts [0x64, 0x4A, 0x01, 0x05, 0x00, 0x07, 0x00, 0x40, 0xC8, 0x03, 0x00, 0x00] black black).trans
      (by rw [h1, h2, h3])
  exact (decode_of_crc _ _ _ _ (by decide) (by decide) h).trans (by decide +kernel)

theorem test_segment_6_word : decodeFrame segmentWord6 = some (segmentFrame 6) := by
  have h : crc (0x64 :: 0x46 :: ([0x01, 0x05, 0x00, 0x07, 0x06, 0x40] ++ (black ++ black))) = 0x123D := by
    have h1 : crcFrom 0xFFFF [0x64, 0x46, 0x01, 0x05, 0x00, 0x07, 0x06, 0x40] = 0xCE27 := by decide +kernel
    have h2 : crcFrom 0xCE27 black = 0x9166 := by decide +kernel
    have h3 : crcFrom 0x9166 black = 0x123D := by decide +kernel
    exact (crc_in_parts [0x64, 0x46, 0x01, 0x05, 0x00, 0x07, 0x06, 0x40] black black).trans (by rw [h1, h2, h3])
  exact (decode_of_crc _ _ _ _ (by decide) (by decide) h).trans (by decide +kernel)

theorem test_segment_7_word : decodeFrame segmentWord7 = some (segmentFrame 7) := by
  have h : crc (0x64 :: 0x46 :: ([0x01, 0x05, 0x00, 0x07, 0x07, 0x41] ++ (black ++ black))) = 0x2611 := by
    have h1 : crcFrom 0xFFFF [0x64, 0x46, 0x01, 0x05, 0x00, 0x07, 0x07, 0x41] = 0xED37 := by decide +kernel
    have h2 : crcFrom 0xED37 black = 0x809F := by decide +kernel
    have h3 : crcFrom 0x809F black = 0x2611 := by decide +kernel
    exact (crc_in_parts [0x64, 0x46, 0x01, 0x05, 0x00, 0x07, 0x07, 0x41] black black).trans (by rw [h1, h2, h3])
  exact (decode_of_crc _ _ _ _ (by decide) (by decide) h).trans (by decide +kernel)

/-- The worked strap stream after R184: the latched bytes, then the effective codes. -/
theorem test_strap_example :
    latchedBytes 0xAD086A0000000000 = [0xAD, 0x08, 0x6A, 0, 0, 0, 0, 0] ∧
    (settingsOf 0xAD086A0000000000).bytes = [5, 1, 2, 8, 4, 1, 1, 1, 1] ∧ causesOf 0xAD086A0000000000 = [] := by
  decide +kernel

/-- A transfer's form (R179): a first line above 2047, a count of parameters not the table's, a kind not in it. -/
theorem test_request_form :
    requestFormGood [1, 0, 0x07, 0xFF, 1] = true ∧ requestFormGood [1, 0, 0x08, 0x00, 1] = false ∧
    requestFormGood [8, 7] = true ∧ requestFormGood [8, 8] = false ∧ requestFormGood [7, 0] = false ∧
    requestFormGood [13] = false := by decide +kernel

/-! ## Figures of chapter 1 -/

/-- The worked gray values after R4. -/
theorem test_worked_grays :
    grays 0 [2400, 2300, 1900, 1763, 1500, 1450, 1399, 300] = [0, 0, 8, 10, 15, 15, 15, 15] := by decide +kernel

/-- Rows of the worked grades after R5. -/
theorem test_worked_grades :
    lineGrade 150 7 2048 true false = 127 ∧ lineGrade 400 20 1536 false true = 63 ∧
    lineGrade 1024 1 1024 true false = 59 ∧ lineGrade 700 15 1024 true true = 63 := by decide +kernel

/-- The worked fingerprint's distance after R6. -/
theorem test_worked_distance : hamming 0xE34C 0xE24C = 1 := by decide +kernel

/-- A phase advance of π gives 6000 Hz, one of π/2 3000 Hz, a negative one 0 (R1). -/
theorem test_phase_advances :
    frequencyOfAdvance ⟨-1, 0⟩ = 6000 ∧ frequencyOfAdvance ⟨0, 1⟩ = 3000 ∧ frequencyOfAdvance ⟨1, 0⟩ = 0 ∧
    frequencyOfAdvance ⟨0, -1⟩ = 0 := by decide +kernel

/-- The worked expected offset after R81: 607 + 1 + 1 + 2 = 611. -/
theorem test_worked_expected_offset :
    ({ State.reset with config := { Configuration.reset with settings := { Configuration.reset.settings with rate := 1 } } }
      : State).lateOffset 1013500 { time := 0, sample := 1000000, lastLine := 607, age := 1 } = 611 := by decide +kernel

/-! ## Well-formed commands: each check refuses an ill-formed one -/

theorem test_well_formed_slots : (Instr.freezeCarriedOut 16).wellFormed = false ∧ (Instr.quietTimerExpiry 16).wellFormed = false ∧
    (Instr.freezeCarriedOut 15).wellFormed = true := by decide +kernel
theorem test_well_formed_places : (Instr.bodySnapshot 2).wellFormed = false ∧ (Instr.bodySnapshot 1).wellFormed = true := by
  decide +kernel
theorem test_well_formed_lines : (Instr.deferralExpiry 0 2048).wellFormed = false ∧
    (Instr.deferralExpiry 16 0).wellFormed = false ∧ (Instr.fallbackTimerExpiry key 2048).wellFormed = false ∧
    (Instr.readLines 0 2048 1).wellFormed = false ∧ (Instr.readLines 0 2047 1).wellFormed = true := by decide +kernel
theorem test_well_formed_frames : (Instr.hailReceived openWord).wellFormed = false ∧
    (Instr.openReceived closeWord).wellFormed = false ∧ (Instr.closeReceived openWord).wellFormed = false ∧
    (Instr.tallyReceived hailWord).wellFormed = false ∧ (Instr.askReceived declineWord).wellFormed = false ∧
    (Instr.declineReceived askWord).wellFormed = false ∧ (Instr.bodySegmentReceived tallyWord).wellFormed = false ∧
    (Instr.ownNumberFrame badWord).wellFormed = false ∧ (Instr.receiveFrameDiscarded hailWord false).wellFormed = false ∧
    (Instr.receiveFrameDiscarded badWord false).wellFormed = true ∧ (Instr.hailReceived hailWord).wellFormed = true := by
  decide +kernel
theorem test_well_formed_requests : (Instr.setMask 8).wellFormed = false ∧ (Instr.badRequest []).wellFormed = false ∧
    (Instr.badRequest [7]).wellFormed = false ∧ (Instr.badRequest [7, 0]).wellFormed = true := by decide +kernel

/-- No word spells a command: the table gives the rows no bits. -/
theorem test_no_word_spells_a_command : decodeTableWord 8 0 = none := by decide

/-! ## Witnesses: states and operands that meet the hypotheses of the statements

Each theorem names its statement; where the statement has clauses, the theorem has one part for each. -/

/-- The part in RUN and JOINED, with the settings of 64 zero bits: station 0, T 1000 ms, W 1024, margin 0, C 3. -/
def running : State :=
  { State.reset with config := { Configuration.reset with state := .run }, roster := { Roster.reset with state := .joined } }

/-- An OPEN record of station 1's chart, not bound, station 1 its only contributor. -/
def record : ChartRecord :=
  { key := key, state := .opened, hold := .none, bound := false, offset := some 0, expected := none, late := false, rate := 0
    contributors := [{ station := 1, ended := none }], highest := none, lastOwn := none, ownLinesHanded := false
    ownOpen := .none, lastOpenHeard := none, lastTally := none, quietDeadline := some 5, quietFlag := false
    lastCloseReason := none, closeReason := none, closeOrder := none }

def slotWith (r : ChartRecord) : Slot := { record := r, entries := [], rows := [] }

/-- `running` with one slot in use. -/
def withRecord (r : ChartRecord) : State := { running with slots := [(0, slotWith r)] }

/-- A write of station 1's line of grade 200. -/
def write (kind : WriteKind) (target : Nat) : Write :=
  { order := 0, kind := kind, slot := 0, target := target, grade := 200, source := 1, origin := some .peer
    content := some [0xF, 0xF], frees := none }

/-- A state with one write in progress. -/
def writing (s : State) (w : Write) : State :=
  { s with lineTable := { s.lineTable with queue := [w], started := true } }

def shadow (slot line : Nat) : PoolEntry :=
  { kind := .shadow, slot := slot, line := line, written := some 100, pending := none, source := some 1, origin := some .peer
    merging := false }

/-- A link that can take a frame. -/
def idleLink : Link := { Link.reset with framing := .idleCount, recessive := 12 }

/-- A link with an attempt in progress. -/
def attempting (c : FrameClass) : Link := { Link.reset with framing := .inFrame, transmitter := .arbitrating, attempt := some c }

/-- The state after a command. -/
def after (c : Instr) (s : State) : State :=
  match exec c s with
  | .next t => t
  | _ => s

/-! ### The queue, reset and the invariants -/

theorem witness_StepRunsFrontCommand : ({ running with pending := [.poll, .status] } : State).pending = .poll :: [.status] := rfl

/-- A state far from reset that meets every invariant, with a command waiting. -/
def busy : State :=
  { writing (withRecord { record with hold := .frozen }) (write .pool 3) with
    pending := [.poolWriteComplete]
    memory := [(7, 0x21)], pool := [(3, shadow 0 5)]
    attention := { Attention.reset with events := [⟨.chartOpened, 0⟩, ⟨.chartOpened, 1⟩], mask := 6 } }

theorem witness_invariants : (∃ t, step busy = .next t) ∧ Memory.wf busy.memory ∧ busy.WithinBounds ∧ busy.PlacesBounded ∧
    busy.EventsDistinct ∧ busy.TransmitterGood ∧ busy.FrozenUntouched ∧ busy.TablesOrdered := by
  refine ⟨⟨_, rfl⟩, ?_, ?_, ?_, ?_, ?_, ?_, ?_⟩
  · decide
  · constructor <;> decide
  · show busy.port.queue.length + busy.placesHeld ≤ 4
    decide
  · show busy.attention.events.Pairwise (fun a b => a.before b = true)
    decide
  · constructor <;> decide
  · intro c _ w hw
    have : w = write .pool 3 := by simpa [busy, writing] using hw
    subst this
    rfl
  · constructor <;> decide

theorem witness_MuteStaysSilent :
    (∃ t, step { running with pending := [.poll], link := { Link.reset with mute := true } } = .next t) ∧
    ({ running with pending := [.poll], link := { Link.reset with mute := true } } : State).MuteIsSilent := by
  refine ⟨⟨_, rfl⟩, ?_⟩
  constructor <;> decide

/-! ### Forms and figures -/

theorem witness_FramesReadBack : hailFrame.payload.Valid ∧ openFrame.payload.Valid ∧ closeFrame.payload.Valid ∧
    tallyFrame.payload.Valid ∧ askFrame.payload.Valid ∧ declineFrame.payload.Valid ∧ (segmentFrame 0).payload.Valid ∧
    (segmentFrame 7).payload.Valid ∧ decodeFrame openWord = some openFrame := by
  refine ⟨trivial, ?_, ?_, ?_, ?_, ?_, ?_, ?_, test_open_word⟩
  · show 2047 ≤ 2047
    decide
  · intro n hn
    cases hn
    decide
  · show 1 ≤ 1 ∧ 1 ≤ 8 ∧ 2047 + 1 - 1 ≤ 2047
    decide
  · show 7 ≤ 2047 ∧ some (2 : Station) ≠ some 0
    decide
  · show 7 ≤ 2047
    decide
  · refine ⟨by decide, by decide, by decide, by decide, ?_⟩
    show (segment 0).number = 0 ∧ segmentCountOf 0 = (segment 0).count
    decide
  · refine ⟨by decide, by decide, by decide, by decide, ?_⟩
    show (segment 7).number ≠ 0
    decide

/-- One 4 MB bank at a strap width of 2048: W is stepped down to 1536 (R162). -/
theorem witness_SizingGivesTwoSlots : (settingsOf 0x0400000000000000).width.val = 1 ∧
    (strapCode (strapField 0x0400000000000000 5 2) 0).val = 2 ∧ FaultCause.widthReduced ∈ causesOf 0x0400000000000000 := by
  decide +kernel

/-- Pixel 1023 took two samples of the tones 1500 and 1501: its tone is 1501, halves rounding up. -/
theorem witness_GraysAndGradesFollowTones_mean :
    Sparse.find [(1023, ({ total := 3001, count := 2 } : PixelSum))] 1023 = some { total := 3001, count := 2 } ∧
    1023 < running.width ∧ 0 < 2 ∧ 2 * 2 * 1501 ≤ 2 * 3001 + 2 ∧ 2 * 3001 + 2 < 2 * 2 * (1501 + 1) := by decide

theorem witness_GraysAndGradesFollowTones : 0 < [1400].length ∧ 1400 ≤ [1400][0] ∧ [1400][0] ≤ 2400 ∧
    ¬(1400 ≤ [2401][0] ∧ [2401][0] ≤ 2400) ∧
    ({ Reception.reset with unphased := true } : Reception).unphased = true ∧
    running.reception.assembler.envelope / running.samples < 128 * (running.config.settings.floorCode + 1) := by decide

/-- An advance of π, one of −π/4, and the advance from i to 1, which is −π/2. -/
theorem witness_FrequencyIsPhaseAdvance : (⟨-1, 0⟩ : Phasor) ≠ ⟨0, 0⟩ ∧ (⟨1, -1⟩ : Phasor) ≠ ⟨0, 0⟩ ∧
    (⟨1 * 0 + 0 * 1, 0 * 0 - 1 * 1⟩ : Phasor) ≠ ⟨0, 0⟩ := by decide

/-- A negative advance counts as 0 (R1). -/
theorem test_negative_advance : frequencyOfAdvance ⟨1, -1⟩ = 0 ∧ frequencyOf (some ⟨0, 1⟩) ⟨1, 0⟩ 0 = 0 := by decide +kernel

def blackLine : Pixels := List.replicate 1024 0xF

theorem witness_ChartMemoryHoldsLines : (2047 ≤ Config.lastLine ∧ (0, 2047) ≠ (1, 0) ∧ 2 < running.slotCount ∧ (0 : Nat) ≠ 511) ∧
    ({ write .composite 2047 with content := some blackLine } : Write).content = some blackLine ∧
    blackLine.length = running.width ∧ (write .composite 2047).kind ≠ .pool ∧ (write .pool 511).kind = .pool := by
  refine ⟨by decide, rfl, ?_, by decide, rfl⟩
  exact (List.length_replicate (n := 1024) (a := (0xF : Gray))).trans rfl

/-! ### What follows every command -/

/-- A row whose best holder is station 1, at grade 200. -/
def row : HolderRow := { HolderRow.empty with best := some ⟨1, 200⟩, second := some ⟨2, 100⟩ }

/-- Station 1 is LIVE and holds a line that this station lacks. -/
def wanting : State :=
  { running with
    roster := { Roster.reset with
      state := .joined, peers := [(1, { state := .live, lossDeadline := some 9, lastHail := none })] }
    slots := [(0, { record := record, entries := [], rows := [(7, row)] })] }

def anAsk (line : Nat) : QueuedFrame := QueuedFrame.fresh (.ask { key := key, line := line, primary := 1, fallback := none })

/-- As `wanting`, with the ASK queue full of ASKs. -/
def wantingFull : State :=
  { wanting with link := { Link.reset with askDecline := (List.range 8).map (fun n => anAsk (n + 100)) } }

/-- As `wanting`, its fallback enabled, station 2 LIVE too, and the line held with a SHADOW entry of grade 99. -/
def wantingHeld : State :=
  { wanting with
    config := { wanting.config with settings := { wanting.config.settings with fallbackEnable := true } }
    roster := { wanting.roster with
      peers := wanting.roster.peers ++ [(2, { state := .live, lossDeadline := some 9, lastHail := none })] }
    slots := [(0, { record := { record with hold := .frozen }, entries := [], rows := [(7, row)] })]
    pool := [(0, { shadow 0 7 with written := some 99 })] }

/-- Station 2's grade of 100 beats the SHADOW entry's 99, and at 100 it does not. -/
theorem witness_SettleIssuesAsks_fallback : wantingHeld.TablesOrdered ∧
    wantingHeld.nextEligible = some (0, { record with hold := .frozen }, 7, row, ⟨1, 200⟩) ∧
    wantingHeld.shadow? 0 7 = some (0, { shadow 0 7 with written := some 99 }) ∧ wantingHeld.hold 0 = .frozen ∧
    wantingHeld.fallbackOf 0 7 row = some 2 ∧
    ({ wantingHeld with pool := [(0, shadow 0 7)] } : State).fallbackOf 0 7 row = none := by
  refine ⟨?_, by decide +kernel⟩
  constructor <;> decide

theorem witness_SettleIssuesAsks : wanting.nextEligible = some (0, record, 7, row, ⟨1, 200⟩) ∧
    wanting.link.askDecline.length < 8 ∧ wanting.fetch.fetches.length ≤ 4 ∧ running.nextEligible = none ∧
    wantingFull.settle.nextEligible = some (0, record, 7, row, ⟨1, 200⟩) := by decide +kernel

/-! ### Configuration and reset -/

theorem witness_PowerGoodGovernsThePart :
    ({ State.reset with config := { Configuration.reset with state := .off } } : State).config.state = .off ∧
    running.config.state ≠ .off ∧ running.lineTable.started = false ∧ running.lineTable.queue = [] ∧
    (writing running (write .composite 0)).lineTable.started = true ∧
    (writing running (write .composite 0)).lineTable.queue = write .composite 0 :: [] ∧
    0 < (running.writeBytes (write .composite 0)).length := by decide +kernel

theorem witness_StrapStreamStartsThePart :
    (({ State.reset with config := { Configuration.reset with resetPin := true } } : State).config.state = .reading ∧
      ({ State.reset with config := { Configuration.reset with resetPin := true } } : State).config.resetPin = true) ∧
    (State.reset.config.state = .reading ∧ State.reset.config.resetPin = false ∧ State.reset.config.pendingReset = .cold ∧
      State.reset.attention.thawDoneAtRelease = []) ∧
    running.config.state ≠ .reading := by decide

theorem witness_ResetAssertedHoldsThePart : running.config.state = .run ∧ State.reset.config.state ≠ .run := by decide

/-- Two THAWING slots; slot 1 keeps its SHADOW entry through a warm reset, slot 0 has none. -/
def thawingTwo : State :=
  { running with
    slots := [(0, slotWith { record with hold := .thawing }),
              (1, slotWith { record with hold := .thawing, key := { origin := 2, sequence := 0 } })]
    pool := [(0, shadow 1 5)] }

theorem witness_ThawEndsAtReset : thawingTwo.hold 0 = .thawing ∧ thawingTwo.hold 1 = .thawing ∧
    thawingTwo.config.state = .run ∧ thawingTwo.warmReset.attention.thawDoneAtRelease = [0] := by decide +kernel

/-- A composite write in progress into a thawing chart, and a written shadow line of another. -/
def resetting : State :=
  { writing (withRecord { record with hold := .thawing }) (write .composite 3) with pool := [(0, shadow 1 5)] }

theorem witness_WarmResetKeepsCharts : resetting.config.state = .run ∧ resetting.TablesOrdered ∧
    resetting.record? 1 = none ∧ resetting.record? 0 = some { record with hold := .thawing } ∧ (resetting.slot? 0).isSome ∧
    resetting.lineTable.started = true ∧ resetting.lineTable.queue.head? = some (write .composite 3) ∧
    (write .composite 3).kind ≠ .pool ∧ (write .composite 3).slot = 0 ∧ (write .composite 3).target = 3 := by
  refine ⟨by decide, ?_, by decide⟩
  constructor <;> decide

theorem witness_ResetDeassertedReleases :
    ({ State.reset with config := { Configuration.reset with state := .holding } } : State).config.state = .holding ∧
    running.config.state ≠ .holding := by decide

theorem witness_RestartReleasesAtOnce : running.portReady = true := by decide

theorem witness_HeldPartTakesNothing : State.reset.config.state ≠ .run ∧ configures .poll = false ∧
    Instr.poll.wellFormed = true ∧ isTransfer .poll = true ∧ State.reset.config.state ≠ .off ∧ isTransfer .lineIdle = false ∧
    configures .lineIdle = false ∧ Instr.lineIdle.wellFormed = true := by decide

/-! ### Reception -/

/-- A reception with a field group of its own. -/
def receiving (r : Reception) : State := { running with reception := r }

theorem witness_AudioSampleIsTaken : running.config.state = .run ∧ running.reception.anythingDue = false ∧
    ¬(running.reception.state = .image ∧ running.reception.skip = 1) ∧ running.reception.state = .search ∧
    running.reception.previous = none ∧
    (receiving { Reception.reset with state := .image, skip := 2 }).reception.anythingDue = false ∧
    ¬(({ Reception.reset with state := .image, skip := 2 } : Reception).skip = 1) := by decide

/-- With no previous sample the frequency is 0, outside both bands: an unconfirmed run is gone at the gap 1,201 and not before
it, and a confirmed one has its end due there (R7). -/
theorem witness_AudioSampleIsTaken_runs :
    frequencyOf none ⟨0, 0⟩ 0 = 0 ∧ ToneRun.step (some ⟨0, 1200, false⟩) (startBand 0) 40000 = none ∧
    ToneRun.step (some ⟨0, 1199, false⟩) (startBand 0) 40000 = some ⟨0, 1200, false⟩ ∧
    ToneRun.endDue (ToneRun.step (some ⟨0, 1200, true⟩) (startBand 0) 40000) = true ∧
    ToneRun.endDue (ToneRun.step (some ⟨0, 1199, true⟩) (startBand 0) 40000) = false ∧
    ToneRun.step none (startBand 280) 7 = some ⟨7, 0, false⟩ := by decide

/-- A start run whose confirming sample has just arrived. -/
def confirming : Option ToneRun := some { start := 0, gap := 0, confirmed := false }

def starting : State := receiving { Reception.reset with startRun := confirming, sampleCount := 36001 }

/-- A CLOSED record of station 1 of a close order and a hold. -/
def closedAs (order : Nat) (hold : Hold) : ChartRecord :=
  { record with
    key := { origin := 1, sequence := BitVec.ofNat 8 order }, state := .closed, closeOrder := some order
    quietDeadline := none, hold := hold }

/-- The three slots of the part in use, two of them by CLOSED records. -/
def fullDirectory (h0 h1 : Hold) : List (Nat × Slot) :=
  [(0, slotWith (closedAs 2 h0)), (1, slotWith (closedAs 1 h1)), (2, slotWith { record with bound := true })]

/-- `starting` with every slot in use. -/
def startingFull (h0 h1 : Hold) : State := { starting with slots := fullDirectory h0 h1 }

/-- Slot 1's record closed first; with both held there is none to evict. -/
theorem witness_StartToneOriginatesChart_full :
    (∀ h0 h1, (startingFull h0 h1).config.state = .run ∧ (startingFull h0 h1).reception.state = .search ∧
      (startingFull h0 h1).reception.startDue = true ∧ (startingFull h0 h1).slots = fullDirectory h0 h1) ∧
    ((∀ b < (startingFull .none .none).slotCount, ((startingFull .none .none).slot? b).isSome) ∧
      (∀ h0 h1, ∀ p ∈ fullDirectory h0 h1, p.2.record.lastOpenHeard = none) ∧
      (∀ p ∈ fullDirectory .none .none, p.2.record.key ≠ { origin := running.self, sequence := 0 }) ∧
      (startingFull .none .none).record? 1 = some (closedAs 1 .none) ∧ (closedAs 1 .none).state = .closed ∧
      (closedAs 1 .none).hold = .none ∧
      ∀ p ∈ fullDirectory .none .none, p.1 ≠ 1 → p.2.record.state = .closed → p.2.record.hold = .none →
        1 < p.2.record.closeOrder.getD 0) ∧
    ((∀ b < (startingFull .frozen .thawing).slotCount, ((startingFull .frozen .thawing).slot? b).isSome) ∧
      (∀ p ∈ fullDirectory .frozen .thawing, p.2.record.state = .closed → p.2.record.hold ≠ .none) ∧
      Sparse.Rising (fullDirectory .frozen .thawing)) :=
  ⟨fun _ _ => ⟨rfl, rfl, (by decide : starting.reception.startDue = true), rfl⟩,
   ⟨by decide +kernel, fun h0 h1 => by cases h0 <;> cases h1 <;> decide, by decide +kernel⟩, by decide +kernel⟩

/-- As `starting`, in IMAGE: the reception ends first, with NEW. -/
def startingAgain : State :=
  receiving { Reception.reset with state := .image, startRun := confirming, sampleCount := 36001 }

/-- A new start in IMAGE, and a start under MUTE. -/
theorem witness_StartToneOriginatesChart_again : startingAgain.config.state = .run ∧ startingAgain.reception.state = .image ∧
    startingAgain.reception.startDue = true ∧
    ({ starting with link := { Link.reset with mute := true } } : State).link.mute = true := by decide

theorem witness_StartToneOriginatesChart : starting.config.state = .run ∧ starting.reception.state = .search ∧
    starting.reception.startDue = true ∧ starting.TablesOrdered ∧ starting.slot? 0 = none ∧
    (∀ b < 0, (starting.slot? b).isSome) ∧ 0 < starting.slotCount ∧
    starting.slots = [] ∧
    (∀ p ∈ starting.slots, p.2.record.key ≠ { origin := starting.self, sequence := starting.originSequence }) ∧
    starting.link.mute = false ∧ starting.link.openClose.length < 4 := by
  refine ⟨by decide, by decide, by decide, ?_, by decide⟩
  constructor <;> decide

/-- Two records may be adopted; the OPEN of slot 1's was heard later, at the last instant that still counts. -/
def adopting : State :=
  { starting with
    now := 10000005
    slots :=
      [(0, slotWith { record with lastOpenHeard := some 5 }),
       (1, slotWith { record with key := { origin := 2, sequence := 0 }, lastOpenHeard := some 6 })] }

theorem witness_StartToneAdoptsChart : adopting.config.state = .run ∧ adopting.reception.state = .search ∧
    adopting.reception.startDue = true ∧ adopting.TablesOrdered ∧
    adopting.record? 1 = some { record with key := { origin := 2, sequence := 0 }, lastOpenHeard := some 6 } ∧
    (∀ p ∈ adopting.slots, p.2.record.state = .opened ∧ p.2.record.bound = false ∧
      (∀ x ∈ p.2.record.contributors, x.station = adopting.self → x.ended = none)) ∧
    adopting.now ≤ 6 + 10000000 ∧
    (∀ p ∈ adopting.slots, p.1 ≠ 1 → ∀ h ∈ p.2.record.lastOpenHeard, h < 6) ∧
    (∀ e ∈ adopting.fetch.fetches, e.slot ≠ 1) ∧ adopting.alignment.migration = [] := by
  refine ⟨by decide, by decide, by decide, ?_, by decide⟩
  constructor <;> decide

def stopping : State :=
  receiving { Reception.reset with state := .image, stopRun := confirming, sampleCount := 36001 }

def stoppingRecord : ChartRecord := { record with bound := true, contributors := [⟨0, none⟩, ⟨1, none⟩] }

/-- As `stopping`, bound to a chart to which station 1 contributes. -/
def stoppingBound : State :=
  { stopping with reception := { stopping.reception with binding := some 0 }, slots := [(0, slotWith stoppingRecord)] }

theorem witness_StopToneEndsReception :
    (stopping.config.state = .run ∧ stopping.reception.state = .image ∧ stopping.reception.stopDue = true ∧
      stopping.reception.binding = none) ∧
    (stoppingBound.config.state = .run ∧ stoppingBound.reception.state = .image ∧ stoppingBound.reception.stopDue = true ∧
      stoppingBound.reception.binding = some 0 ∧ stoppingBound.record? 0 = some stoppingRecord ∧
      stoppingRecord.state = .opened ∧ stoppingBound.link.mute = false ∧ stoppingBound.link.openClose.length < 4) ∧
    { stoppingRecord with state := .aligning, offset := none, expected := some 0 }.state = .aligning := by decide

/-- As `stoppingBound` but for the record, with a batch standing for its chart. -/
def stoppingBatched (r : ChartRecord) : State :=
  { stopping with
    reception := { stopping.reception with binding := some 0 }, slots := [(0, slotWith r)]
    fetch := { Fetch.reset with
      batch := some
        { slot := 0, first := 7, lines := [{ grade := 200, fingerprint := 0 }], deadline := some 9, lastTaken := 0
          waiting := false } } }

/-- Of the records a reception's end leaves: one with station 1 ACTIVE stands, that one with its quiet flag set closes, and so does
one with no other contributor ACTIVE. -/
theorem witness_StopToneEndsReception_closes :
    (¬∀ x ∈ stoppingRecord.contributors, x.station = stopping.self ∨ x.ended ≠ none) ∧
    { stoppingRecord with quietFlag := true }.quietFlag = true ∧
    (∀ x ∈ { stoppingRecord with contributors := [⟨0, none⟩, ⟨1, some .loss⟩] }.contributors,
      x.station = stopping.self ∨ x.ended ≠ none) ∧
    (stoppingBatched stoppingRecord).fetch.batch.any (fun b => b.slot = 0) = true ∧
    ((after .stopToneConfirmed (stoppingBatched { stoppingRecord with quietFlag := true })).record? 0).map
      ChartRecord.closeReason = some (some .quiet) ∧
    (after .stopToneConfirmed (stoppingBatched stoppingRecord)).link.tally.length = 1 := by decide +kernel

/-- An assembler that took one sample for each pixel, of these tones, its mean envelope 128 at T 1000 ms. -/
def assembled (tones : List Nat) : Assembler :=
  { sums := tones.zipIdx.map (fun p => (p.2, { total := p.1, count := 1 })), envelope := 1536000, position := tones.length }

theorem rising_assembled (tones : List Nat) (n : Nat) :
    Sparse.Rising ((tones.zipIdx n).map (fun p => (p.2, ({ total := p.1, count := 1 } : PixelSum)))) := by
  induction tones generalizing n with
  | nil => simp
  | cons x t ih =>
    simp only [List.zipIdx_cons, List.map_cons]
    refine List.pairwise_cons.2 ⟨?_, ih (n + 1)⟩
    intro p hp
    obtain ⟨q, hq, rfl⟩ := List.mem_map.1 hp
    have := List.le_snd_of_mem_zipIdx hq
    simp only
    omega

/-- The pixel tones of such an assembler are its tones. -/
theorem pixelTones_assembled (n : Nat) (tones : List Nat) : pixelTones n (assembled tones) tones.length = tones := by
  apply List.ext_getElem
  · simp [pixelTones]
  · intro i h1 h2
    have hm : (i, ({ total := tones[i], count := 1 } : PixelSum)) ∈ (assembled tones).sums := by
      refine List.mem_map.2 ⟨(tones[i], i), ?_, rfl⟩
      exact List.mem_zipIdx_iff_getElem?.2 (by simp)
    have hf := Sparse.find_of_mem (rising_assembled tones 0) hm
    have hf' : Sparse.find (assembled tones).sums i = some { total := tones[i], count := 1 } := hf
    simp only [pixelTones, List.getElem_map, List.getElem_range, pixelTone, hf']
    simp
    omega

/-- A period or line of 1024 pixel tones has ended in a demodulator state. -/
def ended (r : Reception) (tones : List Nat) : State := receiving { r with endDue := true, assembler := assembled tones }

theorem lineTones_ended (r : Reception) (tones : List Nat) (h : tones.length = 1024) : (ended r tones).lineTones = tones := by
  show pixelTones _ (assembled tones) 1024 = tones
  rw [← h]
  exact pixelTones_assembled _ _

/-- A line of black pixels, and one of which a quarter is invalid. -/
def blackTones : List Nat := List.replicate 1024 1500
def quarterTones : List Nat := List.replicate 256 300 ++ List.replicate 768 1500

theorem length_blackTones : blackTones.length = 1024 := List.length_replicate
theorem length_quarterTones : quarterTones.length = 1024 :=
  List.length_append.trans (congrArg₂ (· + ·) List.length_replicate List.length_replicate)

theorem witness_StartToneEnds :
    (receiving { Reception.reset with state := .startTone, startRun := some ⟨0, 1201, true⟩ }).reception.state = .startTone ∧
    ToneRun.endDue (receiving { Reception.reset with state := .startTone, startRun := some ⟨0, 1201, true⟩ }).reception.startRun
      = true := by decide

/-- A quarter of the pixels invalid is not fewer than a quarter (R8); a clear period counts, short of the eighth. -/
theorem witness_SearchPeriodCounts :
    ((ended { Reception.reset with lateCount := 7 } quarterTones).reception.state = .search ∧
      ¬(4 * invalidCount (ended { Reception.reset with lateCount := 7 } quarterTones).lineTones < running.width ∧ 7 ≤ 7)) ∧
    ¬(4 * invalidCount (ended { Reception.reset with lateCount := 6 } blackTones).lineTones < running.width ∧ 7 ≤ 6) := by
  refine ⟨⟨rfl, ?_⟩, by omega⟩
  rw [lineTones_ended _ _ length_quarterTones]
  decide +kernel

/-- The eighth clear period in a row, with some slots in use. -/
def eighth (slots : List (Nat × Slot)) : State :=
  { ended { Reception.reset with lateCount := 7 } blackTones with slots := slots }

/-- A record whose last TALLY ended at a line, one period ago. -/
def joinableRecord (lastLine : Nat) : ChartRecord :=
  { record with lastTally := some { time := 5, sample := 0, lastLine := lastLine, age := 1 } }

/-- Lines 2045 and 2046 of the last TALLY give the offsets 2047, the last that fits, and 2048. -/
theorem witness_EighthPeriodJoins :
    (∀ l, (eighth l).config.state = .run ∧ (eighth l).reception.state = .search ∧ (eighth l).reception.endDue = true ∧
      4 * invalidCount (eighth l).lineTones < (eighth l).width ∧ 7 ≤ (eighth l).reception.lateCount) ∧
    (∀ n, (eighth [(0, slotWith (joinableRecord n))]).TablesOrdered ∧
      (eighth [(0, slotWith (joinableRecord n))]).record? 0 = some (joinableRecord n) ∧ (joinableRecord n).state = .opened ∧
      (joinableRecord n).bound = false ∧ isEnded running.self (joinableRecord n).contributors = false ∧
      (joinableRecord n).lastTally = some { time := 5, sample := 0, lastLine := n, age := 1 } ∧
      (eighth [(0, slotWith (joinableRecord n))]).reception.sampleCount < 0 + 4 * running.samples) ∧
    (2045 + 1 + 1 + (0 - 0) / running.samples ≤ 2047 ∧ 2047 < 2046 + 1 + 1 + (0 - 0) / running.samples) ∧
    ((eighth []).slot? 0 = none ∧ 0 < (eighth []).slotCount ∧ (eighth []).link.mute = false ∧
      (eighth []).link.openClose.length < 4) ∧
    ((∀ b < (eighth (fullDirectory .none .none)).slotCount, ((eighth (fullDirectory .none .none)).slot? b).isSome) ∧
      (∀ p ∈ fullDirectory .none .none, p.2.record.lastTally = none) ∧
      (∀ p ∈ fullDirectory .none .none, p.2.record.key ≠ { origin := running.self, sequence := 0 }) ∧
      (eighth (fullDirectory .none .none)).record? 1 = some (closedAs 1 .none) ∧
      ∀ p ∈ fullDirectory .none .none, p.1 ≠ 1 → p.2.record.state = .closed → p.2.record.hold = .none →
        1 < p.2.record.closeOrder.getD 0) ∧
    ((∀ p ∈ fullDirectory .frozen .thawing, p.2.record.lastTally = none) ∧
      (∀ p ∈ fullDirectory .frozen .thawing, p.2.record.key ≠ { origin := running.self, sequence := 0 }) ∧
      (∀ b < (eighth (fullDirectory .frozen .thawing)).slotCount,
        ((eighth (fullDirectory .frozen .thawing)).slot? b).isSome) ∧
      ∀ p ∈ fullDirectory .frozen .thawing, p.2.record.state = .closed → p.2.record.hold ≠ .none) := by
  refine ⟨fun l => ⟨rfl, rfl, rfl, ?_, Nat.le_refl 7⟩, fun n => ⟨?_, rfl, rfl, rfl, rfl, rfl, (by decide : 0 < 0 + 4 * running.samples)⟩,
    by decide, by decide, by decide +kernel, by decide +kernel⟩
  · show 4 * invalidCount (ended { Reception.reset with lateCount := 7 } blackTones).lineTones < 1024
    rw [lineTones_ended _ _ length_blackTones]
    decide +kernel
  · constructor <;> simp [eighth, ended, receiving, running, State.reset, slotWith] <;> decide

/-- A reception bound to a chart that is expected at an offset, its next own line of an index. -/
def expecting (s : State) (own expected : Nat) : State :=
  { s with
    reception := { s.reception with binding := some 0, ownIndex := own }
    slots := [(0, slotWith { record with bound := true, state := .aligning, offset := none, expected := some expected })] }

/-- Chart line 2047 is the last: at the offset 2047 own line 0 fits, and at 2048 or as own line 1 it does not (R14). -/
theorem witness_LineLengthIsTested :
    (∀ own expected, ∃ r, (expecting running own expected).record? 0 = some r ∧
      (expecting running own expected).reception.binding = some 0 ∧ r.offset = none ∧ r.expected = some expected) ∧
    (¬((2047 : Int) < (0 : Nat) + ((2047 : Nat) : Int)) ∧ (2047 : Int) < (0 : Nat) + ((2048 : Nat) : Int) ∧
      (2047 : Int) < (1 : Nat) + ((2047 : Nat) : Int)) ∧
    (1 * running.samples + running.width - 1) / running.width ≠ 0 ∧ (0 * running.samples + running.width - 1) / running.width = 0 ∧
    ((expecting (receiving { Reception.reset with state := .image, skip := 1 }) 0 2047).reception.anythingDue = false ∧
      (expecting (receiving { Reception.reset with state := .image, skip := 1 }) 0 2047).reception.skip = 1) :=
  ⟨fun _ _ => ⟨_, rfl, rfl, rfl, rfl⟩, by decide, by decide, by decide, by decide⟩

/-- A phasing record of some periods and pulses. -/
def phased (periods pulses : Nat) (positions : List Nat) : State :=
  ended { Reception.reset with state := .phasing, phasing := ⟨periods, pulses, positions⟩ } blackTones

theorem pulse_phased (periods pulses : Nat) (positions : List Nat) :
    pulsePosition (grays 0 (phased periods pulses positions).lineTones) 1024 = none := by
  have : (phased periods pulses positions).lineTones = blackTones := lineTones_ended _ _ length_blackTones
  rw [this]
  decide +kernel

/-- A pulseless period goes on before any pulse, ends phasing after 8 near ones with an origin, and ends it without one at
period 80. -/
theorem witness_PhasingPeriodCounts :
    (pulsePosition (grays 0 (phased 0 0 []).lineTones) 1024 = none ∧ ¬(1 ≤ 0) ∧ ¬(80 ≤ 0 + 1)) ∧
    (pulsePosition (grays 0 (phased 8 8 [5, 6, 7, 21]).lineTones) 1024 = none ∧ 1 ≤ 8 ∧ 8 ≤ 8 ∧
      spread [5, 6, 7, 21] ≤ 1024 / 64 ∧ (phased 8 8 [5, 6, 7, 21]).reception.binding = none) ∧
    (pulsePosition (grays 0 (phased 79 0 []).lineTones) 1024 = none ∧ 80 ≤ 79 + 1 ∧ ¬(8 ≤ 0) ∧
      (phased 79 0 []).reception.binding = none) := by
  refine ⟨⟨pulse_phased .., by decide, by decide⟩, ⟨pulse_phased .., by decide, by decide, by decide, rfl⟩,
    ⟨pulse_phased .., by decide, by decide, rfl⟩⟩

/-- The line that would be chart line 2046, after 14 faded ones. -/
def lineEnded : State := ended { Reception.reset with state := .image, ownIndex := 2046, fadeCount := 14 } quarterTones

def lineRecord : ChartRecord := { record with bound := true }

/-- As `lineEnded`, bound to an OPEN chart whose line 2046 is empty, or holds a grade that the new one beats. -/
def lineEndedBound (entries : List (Nat × LineEntry)) : State :=
  { lineEnded with
    reception := { lineEnded.reception with binding := some 0 }
    slots := [(0, { record := lineRecord, entries := entries, rows := [] })] }

def oldEntry : LineEntry := { committed := 202, source := some 1, origin := some .peer, pending := none }

theorem invalid_of_finishedLine (s : State) : s.finishedLine.invalid = invalidCount s.lineTones := rfl

theorem grade_of_finishedLine (s : State) : s.finishedLine.grade =
    lineGrade (invalidCount s.lineTones) (burstCount 0 s.lineTones) s.width s.reception.unphased
      (decide (meanEnvelope s.reception.assembler s.samples < s.levelFloor)) := rfl

theorem invalid_quarterTones : invalidCount quarterTones = 256 := by decide +kernel

theorem grade_quarterTones : lineGrade 256 (burstCount 0 quarterTones) 1024 false false = 203 := by decide +kernel

theorem lineTones_lineEndedBound (entries : List (Nat × LineEntry)) : (lineEndedBound entries).lineTones = quarterTones :=
  lineTones_ended { Reception.reset with state := .image, ownIndex := 2046, fadeCount := 14 } _ length_quarterTones

theorem grade_lineEndedBound (entries : List (Nat × LineEntry)) : (lineEndedBound entries).finishedLine.grade = 203 := by
  have hb : decide (meanEnvelope (assembled quarterTones) 12000 < 128) = false := by decide +kernel
  rw [grade_of_finishedLine, lineTones_lineEndedBound, invalid_quarterTones]
  have hs : (lineEndedBound entries).samples = 12000 := rfl
  have hf : (lineEndedBound entries).levelFloor = 128 := rfl
  have ha : (lineEndedBound entries).reception.assembler = assembled quarterTones := rfl
  have hw : (lineEndedBound entries).width = 1024 := rfl
  have hu : (lineEndedBound entries).reception.unphased = false := rfl
  rw [hs, hf, ha, hw, hu, hb, grade_quarterTones]

/-- A quarter of the line invalid does not count as faded; the reception is not bound. -/
theorem witness_ImageLineIsHandedOn_unbound : lineEnded.reception.state = .image ∧ lineEnded.reception.endDue = true ∧
    lineEnded.alignment.state ≠ .splitWait ∧ ¬(lineEnded.width < 2 * lineEnded.finishedLine.invalid) ∧
    lineEnded.reception.binding = none ∧ lineEnded.reception.ownIndex < 2047 := by
  refine ⟨rfl, rfl, by decide, ?_, rfl, by decide⟩
  rw [invalid_of_finishedLine]
  have : lineEnded.lineTones = quarterTones := lineTones_ended _ _ length_quarterTones
  rw [this, invalid_quarterTones]
  decide

/-- The hypotheses on a line bound to a chart, of chart line 2046. -/
def LineMeets (s : State) : Prop :=
  s.reception.state = .image ∧ s.reception.endDue = true ∧ s.alignment.state ≠ .splitWait ∧ s.reception.binding = some 0 ∧
  s.record? 0 = some lineRecord ∧ lineRecord.state = .opened ∧ lineRecord.offset = some 0 ∧
  ((2046 : Nat) : Int) = s.reception.ownIndex + (0 : Int) ∧ lineRecord.hold = .none ∧ s.reception.buffers = [] ∧
  s.lineTable = LineTable.reset ∧ s.NoReads ∧ s.fetch.batch = none ∧
  ((s.entry 0 2046).committed = 0 ∧ (s.entry 0 2046).pending = none ∨
    202 < s.finishedLine.grade ∧ s.entry 0 2046 = oldEntry)

theorem witness_ImageLineIsHandedOn : LineMeets (lineEndedBound []) ∧ LineMeets (lineEndedBound [(2046, oldEntry)]) := by
  refine ⟨⟨rfl, rfl, by decide, rfl, rfl, rfl, rfl, rfl, rfl, rfl, rfl, ⟨rfl, rfl⟩, rfl, Or.inl ⟨rfl, rfl⟩⟩,
    ⟨rfl, rfl, by decide, rfl, rfl, rfl, rfl, rfl, rfl, rfl, rfl, ⟨rfl, rfl⟩, rfl, Or.inr ⟨?_, rfl⟩⟩⟩
  rw [grade_lineEndedBound]
  decide

/-- As `lineEnded`, bound to an OPEN chart of an offset and a hold, with lines buffered, writes queued and a store waiting. -/
def lineEndedAt (d : Int) (hold : Hold) (buffers : List BufferedLine) (queue : List Write) (store : Option ProvisionalStore) :
    State :=
  { lineEnded with
    reception := { lineEnded.reception with binding := some 0, buffers := buffers }
    slots := [(0, slotWith { lineRecord with offset := some d, hold := hold })]
    lineTable := { LineTable.reset with queue := queue, store := store } }

def aStore : ProvisionalStore := { slot := 0, entry := 4, grade := 90, pixels := blackLine }
def aBuffer : BufferedLine := { slot := 0, line := 9, ownIndex := 9, grade := 90, fingerprint := 0, pixels := blackLine }

/-- Own line 2046 lies outside the chart at the offsets −2047 and 2, and on its last line at 1; with two lines buffered, four writes
queued or a store waiting it is buffered, and else taken at once, whatever the hold. -/
theorem witness_ImageLineIsHandedOn_offered :
    (∀ d h b q st, (lineEndedAt d h b q st).reception.binding = some 0 ∧ (lineEndedAt d h b q st).NoReads ∧
      (lineEndedAt d h b q st).record? 0 = some { lineRecord with offset := some d, hold := h } ∧
      (lineEndedAt d h b q st).alignment.state ≠ .splitWait ∧ (lineEndedAt d h b q st).lineTable.requests = []) ∧
    (2046 : Int) + -2047 < 0 ∧ (2047 : Int) < 2046 + 2 ∧ (2046 : Int) + 1 = ((2047 : Nat) : Int) ∧
    (lineEndedAt 1 .frozen [aBuffer, aBuffer] [] none).reception.buffers.length = 2 ∧
    4 ≤ (lineEndedAt 1 .none [] (List.replicate 4 (write .pool 9)) none).lineTable.queue.length ∧
    (lineEndedAt 1 .thawing [] [] (some aStore)).lineTable.store ≠ none ∧
    (lineEndedAt 1 .frozen [] [] none).lineTable.queue.length < 4 :=
  ⟨fun _ _ _ _ _ => ⟨rfl, ⟨rfl, rfl⟩, rfl, by simp [lineEndedAt, lineEnded, ended, receiving, running, State.reset, Alignment.reset],
    rfl⟩, by decide, by decide, by decide, by decide, by decide, by decide, by decide⟩

/-- A chart that is still ALIGNING, at a reception that is bound to it. -/
def aligningRecord : ChartRecord := { record with bound := true, state := .aligning, offset := none, expected := some 0 }

/-- As `lineEnded`, bound to a chart still ALIGNING, with some pool entries taken and lines handed. -/
def lineEndedAligning (state : AlignState) (handed : Nat) (pool : List (Nat × PoolEntry)) : State :=
  { lineEnded with
    reception := { lineEnded.reception with binding := some 0 }
    slots := [(0, slotWith aligningRecord)], pool := pool
    alignment := { Alignment.reset with state := state, slot := some 0, key := some key, handed := handed } }

/-- The first line of a chart that is aligned is held in entry 0, or with the pool full only counted; six distances are not there
yet, and 63 lines are the last that leave it undecided. -/
theorem witness_ImageLineIsHandedOn_aligning :
    (∀ a n l, (lineEndedAligning a n l).reception.state = .image ∧ (lineEndedAligning a n l).reception.endDue = true ∧
      (lineEndedAligning a n l).reception.binding = some 0 ∧ (lineEndedAligning a n l).record? 0 = some aligningRecord ∧
      (lineEndedAligning a n l).lineTable.queue.length < 4 ∧ (lineEndedAligning a n l).lineTable.store = none) ∧
    (aligningRecord.state = .aligning ∧ aligningRecord.offset = none) ∧
    (Sparse.find ([] : List (Nat × PoolEntry)) 0 = none ∧ (([] : List (Nat × PoolEntry)).filter
      (fun p => p.2.kind = .provisional)).length < 64 ∧ ∀ m < 0, Sparse.find ([] : List (Nat × PoolEntry)) m ≠ none) ∧
    (∀ h : HeldLine, 62 < 63 ∧ ((0 : Int) - 0).natAbs ≤ 2 ∧ (trialDistances 128 [h] [] 0).length < 6) ∧
    (.splitWait = AlignState.splitWait ∧ 63 < 64) := by
  refine ⟨fun _ _ _ => ⟨rfl, rfl, rfl, rfl, (by decide : 0 < 4), rfl⟩, by decide, by decide, fun h => ⟨by decide, by decide, ?_⟩,
    by decide⟩
  exact Nat.lt_of_le_of_lt (List.length_filterMap_le _ [h]) (by simp)

/-- A store that waits is dropped for the next; with 64 PROVISIONAL entries taken, or 64 lines handed in SPLIT WAIT, no line is
held. -/
theorem witness_ImageLineIsHandedOn_waiting :
    (({ lineEndedAligning .collecting 4 [(3, PoolEntry.newProvisional 0 0)] with
        lineTable := { LineTable.reset with store := some aStore } } : State).lineTable.store = some aStore ∧
      Sparse.find [(4, PoolEntry.newProvisional 0 0)] 0 = none) ∧
    ((lineEndedAligning .splitWait 64 []).alignment.state = .splitWait ∧
      64 ≤ (lineEndedAligning .splitWait 64 []).alignment.handed) ∧
    64 ≤ (((List.range 64).map (fun n => (n, PoolEntry.newProvisional 0 n))).filter
      (fun p => p.2.kind = .provisional)).length := by decide +kernel

/-! ### The line table and the holds -/

theorem noReads_of {s : State} (h1 : s.port.read = none) (h2 : s.fetch.bodies = []) : s.NoReads := ⟨h1, h2⟩

def mergeWrite : Write := { write .merge 3 with frees := some 2 }

/-- A merge write in progress into a THAWING chart with one more shadow line. -/
def merging : State :=
  { writing (withRecord { record with hold := .thawing }) mergeWrite with
    pool := [(2, { shadow 0 3 with merging := true }), (5, shadow 0 8)] }

theorem witness_CompositeWriteCompletes :
    ((writing (withRecord record) (write .composite 3)).config.state = .run ∧
      (writing (withRecord record) (write .composite 3)).lineTable.started = true ∧
      (writing (withRecord record) (write .composite 3)).lineTable.queue = write .composite 3 :: [] ∧
      (writing (withRecord record) (write .composite 3)).NoReads ∧
      (writing (withRecord record) (write .composite 3)).lineTable.requests = [] ∧ (write .composite 3).kind ≠ .pool ∧
      (write .composite 3).frees = none ∧ (writing (withRecord record) (write .composite 3)).hold 0 ≠ .thawing) ∧
    (merging.config.state = .run ∧ merging.lineTable.started = true ∧ merging.lineTable.queue = mergeWrite :: [] ∧
      merging.NoReads ∧ merging.lineTable.requests = [] ∧ mergeWrite.kind ≠ .pool ∧ mergeWrite.frees = some 2 ∧
      merging.hold mergeWrite.slot = .thawing ∧ merging.lineTable.store = none) := by
  refine ⟨⟨rfl, rfl, rfl, noReads_of rfl rfl, rfl, ?_, rfl, ?_⟩, rfl, rfl, rfl, noReads_of rfl rfl, rfl, ?_, rfl, rfl, rfl⟩ <;>
    decide

/-- A migrating line's write, and a plain one into a THAWING chart with and without a SHADOW entry. -/
theorem witness_CompositeWriteCompletes_frees :
    (({ write .composite 3 with frees := some 4 } : Write).frees = some 4 ∧ (write .composite 3).kind ≠ .pool ∧
      ∀ x ∈ ([write .pool 5] : List Write), x.intoPool 4 = false) ∧
    ((writing (withRecord { record with hold := .thawing }) (write .composite 3)).hold 0 = .thawing ∧
      (writing (withRecord { record with hold := .thawing }) (write .composite 3)).pool = []) ∧
    ∃ p ∈ merging.pool.filter (fun p => p.1 ≠ 2), p.2.kind = .shadow ∧ p.2.slot = 0 := by decide

def redirected : Write := { write .pool 7 with frees := some 2 }

theorem witness_PoolWriteCompletes : busy.config.state = .run ∧ busy.lineTable.started = true ∧
    busy.lineTable.queue = write .pool 3 :: [] ∧ busy.NoReads ∧ busy.lineTable.requests = [] ∧ (write .pool 3).kind = .pool ∧
    (write .pool 3).frees = none ∧
    ((writing running redirected).lineTable.queue = redirected :: [] ∧ redirected.kind = .pool ∧ redirected.frees = some 2 ∧
      (writing running redirected).lineTable.store = none) :=
  ⟨rfl, rfl, rfl, noReads_of rfl rfl, rfl, rfl, rfl, rfl, rfl, rfl, rfl⟩

def aContext (slot : Option Nat) : Context :=
  { key := key, line := 7, count := 8, next := 6, grade := 200, source := 3, width := 0, requester := 0, pixels := []
    waitingSlot := slot }

/-- Bodies of stations 1 and 2 wait, station 1 last served: station 2 is next, and station 1 the eighth. -/
def bodiesWait : State :=
  { withRecord record with
    lineTable := { LineTable.reset with lastServed := 1 }
    fetch := { Fetch.reset with contexts := [(1, aContext (some 0)), (2, aContext none)] } }

def aHeld : HeldLine := { ownIndex := 0, grade := 200, fingerprint := 0, entry := 4 }

def migrating : State :=
  { withRecord record with
    alignment := { Alignment.reset with state := .migrating, slot := some 0, key := some key, migration := [(aHeld, 2)] } }

def thawing : State := { withRecord { record with hold := .thawing } with pool := [(2, shadow 0 3), (5, shadow 0 1)] }

theorem witness_CandidatesAreTakenInOrder :
    ({ running with lineTable := { LineTable.reset with store := some aStore } } : State).lineTable.store = some aStore ∧
    ({ running with reception := { Reception.reset with buffers := [aBuffer] } } : State).reception.buffers = aBuffer :: [] ∧
    (bodiesWait.lineTable.queue.length < 4 ∧ bodiesWait.NoReads ∧ bodiesWait.lineTable.requests = [] ∧
      bodiesWait.lineTable.store = none ∧ bodiesWait.reception.buffers = [] ∧ 7 < 8 ∧
      (∀ j < 7, (Sparse.find bodiesWait.fetch.contexts ((bodiesWait.lineTable.lastServed.val + 1 + j) % 8)).all
        (fun c => c.waitingSlot.isNone)) ∧
      Sparse.find bodiesWait.fetch.contexts ((bodiesWait.lineTable.lastServed.val + 1 + 7) % 8) = some (aContext (some 0)) ∧
      (aContext (some 0)).waitingSlot = some 0) ∧
    (migrating.fetch.contexts = [] ∧ migrating.alignment.state = .migrating ∧ migrating.alignment.migration = (aHeld, 2) :: [] ∧
      migrating.alignment.slot = some 0) ∧
    (thawing.alignment.state ≠ .migrating ∧ thawing.fetch.contexts = [] ∧ (5, shadow 0 1) ∈ thawing.pool ∧
      thawing.hold 0 = .thawing ∧ (shadow 0 1).merging = false ∧ 0 * 2048 + 1 < 0 * 2048 + 3) := by
  exact ⟨rfl, rfl, ⟨by decide, noReads_of rfl rfl, rfl, rfl, rfl, by decide, by decide, rfl, rfl⟩, ⟨rfl, rfl, rfl, rfl⟩, by decide,
    rfl, by decide, by decide, rfl, by decide⟩

def candidate : Candidate :=
  { slot := 0, line := 2046, grade := 203, source := 1, origin := .peer, width := 1536, content := some [], fingerprint := none
    frees := none }

/-- A chart whose line 2046 holds grade 202. -/
def graded (hold : Hold) : State :=
  { running with slots := [(0, { record := { record with hold := hold }, entries := [(2046, oldEntry)], rows := [] })] }

/-- Every entry of the pool taken. -/
@[irreducible] def fullPool : List (Nat × PoolEntry) := (List.range 512).map (fun n => (n, shadow 1 n))

theorem rising_fullPool : Sparse.Rising fullPool := by
  unfold fullPool Sparse.Rising
  rw [List.pairwise_map]
  exact List.pairwise_lt_range

theorem find_fullPool (m : Nat) (h : m < 512) : Sparse.find fullPool m ≠ none := by
  have hm : (m, shadow 1 m) ∈ fullPool := by
    unfold fullPool
    exact List.mem_map.2 ⟨m, List.mem_range.2 h, rfl⟩
  rw [Sparse.find_of_mem rising_fullPool hm]
  simp

def poolTaken : State := { graded .frozen with pool := fullPool }

theorem pool_poolTaken : poolTaken.pool = fullPool := rfl

theorem find_poolTaken (m : Nat) (h : m < 512) : Sparse.find poolTaken.pool m ≠ none := by
  rw [pool_poolTaken]
  exact find_fullPool m h

theorem witness_CandidatesAreJudged :
    candidate.frees = none ∧ candidate.fingerprint = none ∧ Sparse.Rising (graded .none).pool ∧ 3 ≤ candidate.grade ∧
    ((graded .none).entry 0 2046).pending.getD ((graded .none).entry 0 2046).committed < candidate.grade ∧
    (graded .none).hold 0 = .none ∧
    (¬(202 < 202) ∧ { candidate with grade := 202 }.grade = 202 ∧ (graded .none).shadow? 0 2046 = none) ∧
    ((graded .frozen).hold 0 = .frozen ∧ (graded .frozen).shadow? 0 2046 = none ∧ 0 < 512 ∧
      Sparse.find (graded .frozen).pool 0 = none ∧ ∀ m < 0, Sparse.find (graded .frozen).pool m ≠ none) ∧
    (∀ m < 512, Sparse.find poolTaken.pool m ≠ none) :=
  ⟨rfl, rfl, by decide, by decide, by decide, rfl, ⟨by decide, rfl, rfl⟩,
    ⟨rfl, rfl, by decide, rfl, fun _ h => absurd h (by omega)⟩, find_poolTaken⟩

/-- A chart whose line 2046 holds grade 202, its SHADOW entry grade 100 or, pending, 203. -/
def shadowed (hold : Hold) (pending : Option Nat) (merging : Bool) : State :=
  { graded hold with pool := [(3, { shadow 0 2046 with pending := pending, merging := merging })] }

/-- Grade 2 is rejected and 3 judged; a SHADOW entry raises the grade to beat; a merged one does not; own lines carry a
fingerprint and migrating ones a pool entry. -/
theorem witness_CandidatesAreJudged_shadow :
    ({ candidate with grade := 2 }.grade < 3 ∧ 3 ≤ { candidate with grade := 3 }.grade) ∧
    ((shadowed .frozen none false).shadow? 0 2046 = some (3, shadow 0 2046) ∧ (shadowed .frozen none false).hold 0 = .frozen ∧
      max 202 100 < candidate.grade ∧ max 202 100 + running.config.settings.margin ≤ candidate.grade) ∧
    ((shadowed .thawing (some 203) false).shadow? 0 2046 = some (3, { shadow 0 2046 with pending := some 203 }) ∧
      (shadowed .thawing (some 203) false).hold 0 = .thawing ∧ ¬(max 202 203 < candidate.grade)) ∧
    ((shadowed .thawing none true).hold 0 = .thawing ∧
      (shadowed .thawing none true).shadow? 0 2046 = some (3, { shadow 0 2046 with merging := true })) ∧
    ({ candidate with fingerprint := some 0, frees := some 4 }.fingerprint = some 0 ∧
      { candidate with fingerprint := some 0, frees := some 4 }.frees = some 4) ∧
    ((graded .none).entry 0 2047).committed = 0 ∧ ((graded .none).entry 0 2047).pending = none := by decide

theorem witness_NextWriteStarts : running.lineTable.queue = [] ∧
    (busy.lineTable.queue = write .pool 3 :: [] ∧ busy.lineTable.started = true) ∧
    (({ busy with lineTable := { busy.lineTable with started := false } } : State).lineTable.started = false ∧
      busy.lineTable.requests = []) := by decide

/-- A split clear that waits on a slot, with one held line. -/
def splitting : State :=
  { withRecord { record with state := .aligning, bound := true, offset := none, expected := some 0 } with
    lineTable := { LineTable.reset with requests := [.splitClear 0] }
    alignment := { Alignment.reset with state := .splitWait, slot := some 0, key := some key, provisional := [aHeld] } }

theorem witness_SplitClearGivesNewChart : splitting.config.state = .run ∧ splitting.alignment.state = .splitWait ∧
    splitting.alignment.slot = some 0 ∧
    splitting.record? 0 = some { record with state := .aligning, bound := true, offset := none, expected := some 0 } ∧
    splitting.lineTable.queue = [] ∧ splitting.lineTable.requests = [QuietRequest.splitClear 0] ∧ splitting.NoReads ∧
    (∀ p ∈ splitting.pool, ¬(p.2.kind = .shadow ∧ p.2.slot = 0)) ∧ record.hold ≠ .thawing ∧
    (∀ p ∈ splitting.slots, p.2.record.key ≠ { origin := splitting.self, sequence := splitting.originSequence }) ∧
    splitting.link.mute = false ∧ splitting.link.openClose.length ≤ 2 ∧ splitting.alignment.provisional ≠ [] :=
  ⟨rfl, rfl, rfl, rfl, rfl, rfl, noReads_of rfl rfl, by decide⟩

/-- Nothing waits before the held line, or a buffered own line does. -/
theorem witness_SplitClearGivesNewChart_waits : splitting.candidateWaits = false ∧
    splitting.alignment.provisional = aHeld :: [] ∧
    ({ splitting with reception := { Reception.reset with buffers := [aBuffer] } } : State).candidateWaits = true := by decide

/-- A freeze of slot 0 that waits behind a write of slot 1. -/
def freezing : State :=
  { writing (withRecord record) { write .composite 3 with slot := 1 } with
    lineTable :=
      { LineTable.reset with
        queue := [{ write .composite 3 with slot := 1 }], started := true, requests := [.freeze 0] } }

def pendingEntry : LineEntry := { committed := 100, source := some 1, origin := some .peer, pending := some 200 }

/-- A freeze of slot 0 with a write to its line 3 queued, not started. -/
def freezingRedirect : State :=
  { running with
    slots := [(0, { record := record, entries := [(3, pendingEntry)], rows := [] })]
    lineTable := { LineTable.reset with queue := [write .composite 3], requests := [.freeze 0] } }

theorem witness_FreezeIsCarriedOut :
    (freezing.config.state = .run ∧ freezing.lineTable.requests = [QuietRequest.freeze 0] ∧ freezing.quiet 0 = true ∧
      freezing.NoReads ∧ (∀ w ∈ freezing.lineTable.queue, w.kind = .pool ∨ w.slot ≠ 0)) ∧
    (freezingRedirect.config.state = .run ∧ freezingRedirect.lineTable.requests = [QuietRequest.freeze 0] ∧
      freezingRedirect.quiet 0 = true ∧ freezingRedirect.NoReads ∧
      freezingRedirect.lineTable.queue = [write .composite 3]) :=
  ⟨⟨rfl, rfl, rfl, noReads_of rfl rfl, by decide⟩, rfl, rfl, rfl, noReads_of rfl rfl, rfl⟩

/-- Writes met by a freeze of slot 0: of another slot, a merge, and lines 2046 that win, tie and find the pool full. -/
theorem witness_WriteIsRedirected :
    ((write .pool 3).kind = .pool ∧ { write .composite 3 with slot := 1 }.slot ≠ 0) ∧
    (mergeWrite.kind = .merge ∧ mergeWrite.slot = 0 ∧ mergeWrite.frees = some 2) ∧
    ((write .composite 2046).kind = .composite ∧ (write .composite 2046).slot = 0 ∧ 1 ≤ (write .composite 2046).grade) ∧
    ((shadowed .none none false).shadow? 0 2046 = some (3, shadow 0 2046) ∧ Sparse.Rising (shadowed .none none false).pool ∧
      ¬(max 202 100 < (write .composite 2046).grade) ∧ max 202 100 < { write .composite 2046 with grade := 203 }.grade) ∧
    ((graded .none).shadow? 0 2046 = none ∧ ¬(202 < { write .composite 2046 with grade := 202 }.grade) ∧
      202 < { write .composite 2046 with grade := 203 }.grade ∧ Sparse.find (graded .none).pool 0 = none) ∧
    (∀ m < 512, Sparse.find poolTaken.pool m ≠ none) ∧ Sparse.Rising poolTaken.pool :=
  ⟨by decide, by decide, by decide, by decide, by decide, find_poolTaken, rising_fullPool⟩

/-! ### Reads, snapshots and tallies -/

/-- A READ_LINES of the highest line, pending behind no write. -/
def reading : State :=
  { withRecord record with
    port := { Port.reset with read := some { slot := 0, first := 2047, count := 1, asked := 0 } } }

theorem witness_ReadLinesAnswersLines : (withRecord record).portReady = true ∧ reading.config.state = .run ∧
    reading.port.read = some { slot := (0 : Byte).toNat, first := (2047 : BitVec 16).toNat, count := 1, asked := 0 } ∧
    min (max 1 (min (16 : Byte).toNat 16)) (2048 - (2047 : BitVec 16).toNat) = 1 ∧
    (∀ w ∈ reading.lineTable.queue, w.slot = (0 : Byte).toNat → 0 ≤ w.order) := by decide

def aBody (line : Nat) (snapshot : Option Snapshot) : SendBody :=
  { slot := 0, key := key, line := line, requester := 1, snapshot := snapshot, asked := 0, formed := false }

def aSnapshot : Snapshot := { grade := 200, source := some 1, pixels := blackLine }

/-- Bodies queued for a chart with a hold and a shadow of line 3. -/
def sending (hold : Hold) (bodies : List SendBody) : State :=
  { withRecord { record with hold := hold } with
    fetch := { Fetch.reset with bodies := bodies }, pool := [(2, shadow 0 3)] }

theorem witness_BodySnapshotIsMade :
    ((sending .none [aBody 3 none]).config.state = .run ∧ (aBody 3 none).snapshot = none ∧ (aBody 3 none).formed = false ∧
      (sending .none [aBody 3 none]).fetch.bodies = aBody 3 none :: [] ∧ (sending .none [aBody 3 none]).hold 0 = .none ∧
      (∀ w ∈ (sending .none [aBody 3 none]).lineTable.queue, w.slot = 0 → 0 ≤ w.order)) ∧
    ((sending .frozen [aBody 3 none]).hold 0 ≠ .none ∧
      (sending .frozen [aBody 3 none]).shadow? 0 3 = some (2, shadow 0 3)) ∧
    ((sending .none [aBody 4 none, aBody 3 none]).fetch.bodies = aBody 4 none :: aBody 3 none :: [] ∧
      (aBody 4 none).snapshot = none) ∧
    (aSnapshot.pixels.length = widthOfCode 0) := by
  refine ⟨by decide, by decide, by decide, ?_⟩
  exact (List.length_replicate (n := 1024) (a := (0xF : Gray))).trans rfl

def aBatch (waiting : Bool) : Batch :=
  { slot := 0, first := 2040, lines := [{ grade := 200, fingerprint := 0 }]
    deadline := if waiting then none else some 8000000, lastTaken := 0, waiting := waiting }

/-- A batch of slot 0's chart, with some TALLYs queued and MUTE set or clear. -/
def batching (waiting : Bool) (tallies : Nat) (mute : Bool) : State :=
  { withRecord record with
    fetch := { Fetch.reset with batch := some (aBatch waiting) }
    link := { Link.reset with tally := List.replicate tallies (QueuedFrame.fresh tallyFrame.payload), mute := mute } }

theorem witness_BatchIsTallied :
    (∀ w n m, (batching w n m).config.state = .run ∧ (batching w n m).fetch.batch = some (aBatch w) ∧
      (batching w n m).record? (aBatch w).slot = some record) ∧
    ((aBatch true).waiting = true ∧ (batching true 3 false).link.tally.length < 4 ∧ (batching true 3 false).link.mute = false) ∧
    (aBatch false).deadline = some 8000000 ∧
    ((batching false 3 false).link.mute = false ∧ (batching false 3 false).link.tally.length < 4) ∧
    (4 ≤ (batching false 4 false).link.tally.length ∧ (batching false 4 false).link.mute = false) ∧
    (batching false 0 true).link.mute = true := by
  refine ⟨fun _ _ _ => ⟨rfl, rfl, rfl⟩, by decide⟩

/-- Batches of 7 and 8 lines. -/
def longBatch (n : Nat) (waiting : Bool) : Batch :=
  { aBatch waiting with lines := List.replicate n { grade := 200, fingerprint := 0 } }

/-- Line 2041 is the next of a batch of one line; line 2047 is the eighth of one of seven; line 2045 breaks either. -/
theorem witness_BatchIsTallied_lines : running.fetch.batch = none ∧
    ((aBatch false).slot = 0 ∧ 2041 = (aBatch false).first + (aBatch false).lines.length ∧ (aBatch false).lines.length ≠ 7) ∧
    (2047 = (longBatch 7 false).first + (longBatch 7 false).lines.length ∧ (longBatch 7 false).lines.length = 7) ∧
    ¬(2045 = (aBatch false).first + (aBatch false).lines.length) ∧
    ((longBatch 7 true).waiting = true ∧ ¬((longBatch 8 true).lines.length < 8)) ∧
    (batching false 3 false).queueBatch.fetch.batch = none ∧ (batching false 4 false).queueBatch.fetch.batch ≠ none := by
  decide +kernel

/-- The eighth line queues the batch (R112). -/
theorem test_eighth_line : (State.tallyLine { batching false 0 false with
      fetch := { Fetch.reset with batch := some (longBatch 7 false) } } 0 2047 200 0).link.tally.length = 1 := by decide +kernel

/-! ### The station link -/

def aFrame (p : Payload) (faults : Nat) : QueuedFrame := { payload := p, faults := faults, withdrawn := false }
def aTally (faults : Nat) : QueuedFrame := aFrame tallyFrame.payload faults

/-- A link that waits on an idle line with a HAIL and a TALLY. -/
def waitingLink : Link := { idleLink with transmitter := .waiting, tally := [aTally 0], hail := some (aFrame hailFrame.payload 0) }

/-- A state of a link. -/
def linked (l : Link) : State := { running with link := l }

/-- Station 0's TALLY begins with byte 40: its bit 7 is dominant, its bit 6 recessive. -/
theorem witness_AttemptStartsAndLoses :
    ((linked waitingLink).config.state = .run ∧ waitingLink.transmitter = .waiting ∧ waitingLink.mute = false ∧
      (linked waitingLink).roster.state = .joined ∧ waitingLink.framing = .idleCount ∧ 12 ≤ waitingLink.recessive ∧
      waitingLink.waiting .tally ≠ [] ∧ waitingLink.waiting .openClose = [] ∧ waitingLink.waiting .askDecline = []) ∧
    (∀ c, ({ idleLink with transmitter := .waiting } : Link).waiting c = []) ∧
    (({ attempting .tally with tally := [aTally 2] } : Link).transmitter = .arbitrating ∧
      ({ attempting .tally with tally := [aTally 2] } : Link).attempt = some .tally ∧
      ({ attempting .tally with tally := [aTally 2] } : Link).waiting .tally = aTally 2 :: [] ∧
      ({ attempting .tally with tally := [aTally 2] } : Link).hailReplacement = none ∧
      (byteZero { sender := running.self, payload := (aTally 2).payload }).getLsbD (6 : Fin 8).val = true ∧
      (aTally 2).withdrawn = false ∧ { aTally 2 with withdrawn := true }.withdrawn = true) ∧
    (2 < 0 + (9 - (6 : Fin 8).val) ∧ ({ attempting .tally with transmitter := .sending } : Link).transmitter = .sending) := by
  refine ⟨by decide, ?_, by decide, by decide⟩
  intro c
  cases c <;> rfl

def newOpen : ChartOpen :=
  { key := key, rate := 0, width := 0, late := false, split := false, reannounce := false, highest := 0 }

def queuedRecord : ChartRecord := { record with ownOpen := .queued }

/-- A state with an attempt at a class and a record whose OPEN is queued. -/
def attemptingWith (c : FrameClass) (l : Link → Link) : State :=
  { withRecord queuedRecord with link := l (attempting c) }

def aFetch (phase : FetchPhase) (fallback : Option Station) : FetchEntry :=
  { target := 1, fallback := fallback, slot := 0, key := key, line := 7, phase := phase
    deadline := if phase = .askQueued then none else some 150000 }

def withFetch (s : State) (l : List FetchEntry) : State := { s with fetch := { s.fetch with fetches := l } }

def theAsk : Payload := .ask { key := key, line := 7, primary := 1, fallback := none }

def formedBody : SendBody := { aBody 7 (some aSnapshot) with formed := true }

def withBodies (s : State) (l : List SendBody) : State := { s with fetch := { s.fetch with bodies := l } }

/-- Faults 1 and 2 before the fault: it becomes the second, or the third. -/
theorem witness_CollisionFaultCounts :
    ((attemptingWith .tally (fun l => { l with tally := [aTally 1] })).link.tally = aTally 1 :: [] ∧ (aTally 1).faults < 2 ∧
      2 ≤ (aTally 2).faults ∧ (aTally 2).payload = tallyFrame.payload ∧ (aTally 1).withdrawn = false ∧
      (attemptingWith .tally id).link.attempt = some .tally ∧ (attemptingWith .tally id).link.transmitter = .arbitrating ∧
      (attemptingWith .tally id).config.state = .run) ∧
    ((attemptingWith .openClose (fun l => { l with openClose := [aFrame (.chartOpen newOpen) 2] })).link.openClose =
        aFrame (.chartOpen newOpen) 2 :: [] ∧ newOpen.reannounce = false ∧ (attemptingWith .openClose id).TablesOrdered ∧
      ∀ p ∈ (attemptingWith .openClose id).slots, ∀ q ∈ (attemptingWith .openClose id).slots,
        p.2.record.key = q.2.record.key → p = q) ∧
    ((attemptingWith .askDecline (fun l => { l with askDecline := [aFrame theAsk 2] })).link.askDecline =
        aFrame theAsk 2 :: [] ∧
      (withFetch (attemptingWith .askDecline id) [aFetch .askQueued none]).fetch.fetches.filter
        (fun x => x.isFor key 7 && x.phase = .askQueued) = [aFetch .askQueued none]) ∧
    ((attemptingWith .body (fun l => { l with segments := [aFrame (.body (segment 0)) 2] })).link.segments =
        aFrame (.body (segment 0)) 2 :: [] ∧
      (withBodies (attemptingWith .body id) [formedBody]).fetch.bodies = [formedBody]) ∧
    ((attemptingWith .hail (fun l => { l with hail := some (aFrame hailFrame.payload 2) })).link.hail =
        some (aFrame hailFrame.payload 2) ∧ (attemptingWith .hail id).link.hailReplacement = none) := by
  refine ⟨by decide, ⟨rfl, rfl, ?_, by decide⟩, by decide, ⟨rfl, rfl⟩, rfl, rfl⟩
  constructor <;> decide

theorem witness_FrameSentLeavesQueue :
    ((attemptingWith .tally (fun l => { l with tally := [aTally 2] })).link.tally = aTally 2 :: [] ∧
      (attemptingWith .tally id).config.state = .run ∧ (attemptingWith .tally id).link.transmitter = .arbitrating) ∧
    ((attemptingWith .openClose (fun l => { l with openClose := [aFrame closeFrame.payload 0] })).link.openClose =
        aFrame closeFrame.payload 0 :: [] ∧
      (attemptingWith .openClose (fun l => { l with openClose := [aFrame openFrame.payload 0] })).link.openClose =
        aFrame openFrame.payload 0 :: [] ∧
      newOpen.reannounce = false ∧ (attemptingWith .openClose id).slotOfKey newOpen.key = some 0) ∧
    ((attemptingWith .hail (fun l => { l with hail := some (aFrame hailFrame.payload 0) })).link.hail =
        some (aFrame hailFrame.payload 0) ∧ (attemptingWith .hail id).link.hailReplacement = none) ∧
    ((segment 6).endMark = false ∧ (segment 7).endMark = true ∧
      (withBodies (attemptingWith .body id) [formedBody]).fetch.bodies = [formedBody]) ∧
    ((withFetch (attemptingWith .askDecline id) [aFetch .askQueued none]).fetchFor key 7 = some (aFetch .askQueued none) ∧
      (aFetch .askQueued none).phase = .askQueued) :=
  ⟨⟨rfl, rfl, rfl⟩, ⟨rfl, rfl, rfl, by decide⟩, ⟨rfl, rfl⟩, ⟨rfl, rfl, rfl⟩, by decide⟩

theorem witness_DiscardedFrameReachesNoBlock :
    ((linked idleLink).config.state = .run ∧ idleLink.attempt = none ∧ idleLink.framing = .idleCount ∧ 12 ≤ idleLink.recessive) ∧
    (framingBroken [0x84, 0x61] false = true ∧ framingBroken [0x84] true = true ∧ framingBroken [0x84, 0x60] true = true ∧
      framingBroken badWord true = true ∧ badWord.length ≤ (badWord.getD 1 0).toNat + 4) ∧
    (framingBroken badWord false = false ∧ (badWord.getD 1 0).toNat ≤ 96 ∧
      badWord.length = (badWord.getD 1 0).toNat + 4 ∧ decodeFrame badWord = none) ∧
    Link.reset.framing = .waitForIdle ∧
    (({ Link.reset with framing := .idleCount, recessive := 11 } : Link).framing = .idleCount ∧ 11 < 12) :=
  ⟨by decide, by decide, ⟨by decide, by decide, by decide, test_bad_crc_is_discarded.1⟩, by decide, by decide⟩

theorem witness_OwnNumberFrameMutes :
    ((linked idleLink).config.state = .run ∧ idleLink.attempt = none ∧ idleLink.framing = .idleCount ∧
      12 ≤ idleLink.recessive ∧ decodeFrame ownWord = some ownFrame ∧ ownFrame.sender = (linked idleLink).self ∧
      idleLink.mute = false) ∧ ({ idleLink with mute := true } : Link).mute = true :=
  ⟨⟨rfl, rfl, rfl, by decide, test_own_word, rfl, rfl⟩, rfl⟩

/-! ### Frames from peers -/

/-- A state that can take a frame. -/
def taking (s : State) : State := { s with link := idleLink }

def boundRecord : ChartRecord := { record with bound := true }

/-- A reception bound to slot 0's OPEN chart. -/
def bound (r : ChartRecord) : State := { taking (withRecord r) with reception := { Reception.reset with binding := some 0 } }

theorem witness_HailIsKept :
    ((taking running).config.state = .run ∧ (taking running).link.canTakeFrame = true ∧
      decodeFrame hailWord = some hailFrame ∧ hailFrame.sender ≠ (taking running).self ∧
      (taking running).reception.binding = none) ∧
    ((bound boundRecord).reception.binding = some 0 ∧ (bound boundRecord).record? 0 = some boundRecord ∧
      boundRecord.state = .opened ∧ (bound boundRecord).link.reannouncementWaits boundRecord.key = false ∧
      (bound boundRecord).link.mute = false ∧ (bound boundRecord).link.openClose.length < 4) :=
  ⟨⟨rfl, rfl, test_hail_word, by decide, rfl⟩, by decide⟩

def theOpen : ChartOpen :=
  { key := key, rate := 0, width := 2, late := true, split := false, reannounce := true, highest := 2047 }

/-- A bound record of another key, its OPEN still queued. -/
def rekeyed : ChartRecord := { boundRecord with key := { origin := 0, sequence := 0 }, ownOpen := .queued }

/-- A part that runs at another line rate. -/
def slower : State :=
  { taking running with
    config := { running.config with settings := { running.config.settings with rate := 1 } } }

theorem witness_OpenMakesOrJoinsChart :
    (decodeFrame openWord = some openFrame ∧ openFrame.payload = .chartOpen theOpen ∧ openFrame.sender ≠ (taking running).self ∧
      slower.config.state = .run ∧ slower.link.canTakeFrame = true ∧ theOpen.rate ≠ slower.config.settings.rate) ∧
    (theOpen.rate = running.config.settings.rate ∧ (taking (withRecord record)).slotOfKey theOpen.key = some 0 ∧
      (taking (withRecord record)).record? 0 = some record ∧ record.state ≠ .closed) ∧
    ((bound rekeyed).slotOfKey theOpen.key = none ∧ (bound rekeyed).reception.binding = some 0 ∧
      (bound rekeyed).record? 0 = some rekeyed ∧ rekeyed.bound = true ∧ rekeyed.state = .opened ∧
      rekeyed.ownOpen = .queued ∧ rekeyed.late = false ∧ rekeyed.ownLinesHanded = false ∧ (bound rekeyed).TablesOrdered ∧
      (∀ e ∈ (bound rekeyed).fetch.fetches, e.slot ≠ 0) ∧ (bound rekeyed).alignment.migration = []) ∧
    ((taking running).slotOfKey theOpen.key = none ∧ (taking running).reception.binding = none ∧
      (taking running).TablesOrdered ∧ (taking running).slot? 0 = none ∧ 0 < (taking running).slotCount) := by
  refine ⟨⟨test_open_word, rfl, by decide, rfl, rfl, by decide⟩, by decide,
    ⟨by decide, rfl, rfl, rfl, rfl, rfl, rfl, rfl, ?_, by decide, rfl⟩, by decide, rfl, ?_, rfl, by decide⟩
  · constructor <;> decide
  · constructor <;> decide

/-- A bound record that fails one condition of R83, its late flag clear, is not re-keyed: the OPEN makes a record in slot 1. -/
theorem witness_OpenMakesOrJoinsChart_fails :
    ((bound { rekeyed with late := true }).reception.binding = some 0 ∧
      (bound { rekeyed with late := true }).record? 0 = some { rekeyed with late := true }) ∧
    ({ rekeyed with late := true } : ChartRecord).late ≠ false ∧
    (bound { rekeyed with late := true }).slotOfKey theOpen.key = none ∧
    (bound { rekeyed with late := true }).TablesOrdered ∧ (bound { rekeyed with late := true }).slot? 1 = none ∧
    (∀ d < 1, ((bound { rekeyed with late := true }).slot? d).isSome) ∧
    1 < (bound { rekeyed with late := true }).slotCount := by
  refine ⟨⟨rfl, rfl⟩, by decide, by decide, ?_, by decide⟩
  constructor <;> decide

/-- Slot 1 holds the OPEN's own chart, CLOSED, and slot 0 another record or nothing. -/
def reopened (hold : Hold) (others : List (Nat × Slot)) (binding : Option Nat) : State :=
  { taking running with
    reception := { Reception.reset with binding := binding }
    slots := others ++ [(1, slotWith { record with state := .closed, closeOrder := some 1, hold := hold })] }

/-- Its slot is the lowest free one, or slot 0 is, or a bound record takes the key. -/
theorem witness_OpenMakesOrJoinsChart_closed :
    (∀ h, (reopened h [] none).slotOfKey theOpen.key = some 1 ∧ ((reopened h [] none).record? 1).map ChartRecord.hold = some h) ∧
    ((reopened .none [] none).TablesOrdered ∧ (reopened .none [] none).slot? 0 = none ∧ (0 < (reopened .none [] none).slotCount)) ∧
    ((reopened .none [(0, slotWith rekeyed)] none).slot? 0 ≠ none ∧
      1 < (reopened .none [(0, slotWith rekeyed)] none).slotCount) ∧
    ((reopened .none [(0, slotWith rekeyed)] (some 0)).slotOfKey theOpen.key = some 1 ∧
      (reopened .none [(0, slotWith rekeyed)] (some 0)).reception.binding = some 0 ∧
      (reopened .none [(0, slotWith rekeyed)] (some 0)).record? 0 = some rekeyed ∧
      (reopened .none [(0, slotWith rekeyed)] (some 0)).alignment.migration = []) := by
  refine ⟨fun h => ⟨rfl, rfl⟩, ⟨?_, by decide, by decide⟩, by decide, by decide, rfl, rfl, rfl⟩
  constructor <;> decide

/-- Every slot in use: slot 1's record closed first, or both closed ones are held. -/
theorem witness_OpenMakesOrJoinsChart_full :
    (∀ h0 h1, ({ taking running with slots := fullDirectory h0 h1 } : State).reception.binding = none ∧
      (∀ d < ({ taking running with slots := fullDirectory h0 h1 } : State).slotCount,
        (Sparse.find (fullDirectory h0 h1) d).isSome)) ∧
    (({ taking running with slots := [(0, slotWith (closedAs 2 .none)), (1, slotWith (closedAs 1 .none)),
        (2, slotWith (closedAs 3 .frozen))] } : State).slotOfKey theOpen.key = none ∧ (closedAs 1 .none).state = .closed) ∧
    (∀ p ∈ fullDirectory .none .none, p.1 ≠ 1 → p.2.record.state = .closed → p.2.record.hold = .none →
      1 < p.2.record.closeOrder.getD 0) ∧
    ∀ p ∈ fullDirectory .frozen .thawing, p.2.record.state = .closed → p.2.record.hold ≠ .none := by
  refine ⟨fun h0 h1 => ⟨rfl, fun d hd => ?_⟩, by decide, by decide, by decide⟩
  have hd' : d < 3 := hd
  match d, hd' with
  | 0, _ => rfl
  | 1, _ => rfl
  | 2, _ => rfl

theorem witness_CloseEndsContributor :
    (decodeFrame closeWord = some closeFrame ∧
      closeFrame.payload = .chartClose { key := key, reason := .stop, lastLine := some 2047 } ∧
      closeFrame.sender ≠ (taking (withRecord record)).self ∧ (taking (withRecord record)).config.state = .run ∧
      (taking (withRecord record)).link.canTakeFrame = true ∧ (taking (withRecord record)).slotOfKey key = some 0 ∧
      (taking (withRecord record)).record? 0 = some record) ∧
    isActive 1 [⟨1, some .close⟩] = false ∧
    (isActive 1 stoppingRecord.contributors = true ∧
      ∃ y ∈ stoppingRecord.contributors, y.station ≠ 1 ∧ y.ended = none) ∧
    (isActive 1 record.contributors = true ∧ (∀ y ∈ record.contributors, y.station = 1 ∨ y.ended ≠ none) ∧
      record.state = .opened ∧ record.bound = false) := by
  refine ⟨⟨test_close_word, rfl, by decide, rfl, rfl, by decide, rfl⟩, by decide, by decide, by decide⟩

theorem witness_TallyUpdatesChart :
    (decodeFrame tallyWord = some tallyFrame ∧ tallyFrame.sender ≠ (taking running).self ∧
      (taking running).link.canTakeFrame = true ∧ (taking running).alignment.state = .idle ∧
      (taking running).slotOfKey key = none) ∧
    ((taking (withRecord record)).slotOfKey key = some 0 ∧ migrating.alignment.state = .migrating) :=
  ⟨⟨test_tally_word, by decide, rfl, rfl, by decide⟩, by decide, rfl⟩

/-- A chart that the ALIGNMENT UNIT collects for, expected at an offset. -/
def collecting (expected : Nat) : State :=
  { taking (withRecord aligningRecord) with
    alignment := { Alignment.reset with state := .collecting, slot := some 0, key := some key, expected := expected } }

/-- The TALLY's line 2047 is a reference from e − 2 to e + 65, both counted in. -/
theorem witness_TallyIsReference :
    (collecting 2049).slotOfKey key = some 0 ∧ (collecting 2049).alignment.state = .collecting ∧
    (collecting 2049).alignment.key = some key ∧
    [({ grade := 200, fingerprint := 0xE34C } : TallyEntry)][0]? = some { grade := 200, fingerprint := 0xE34C } ∧
    (collecting 2049).alignThreshold ≤ (200 : Byte).toNat ∧ 2049 ≤ 2047 + 0 + 2 ∧ 2047 + 0 ≤ 1982 + 65 ∧
    ¬(2050 ≤ 2047 + 0 + 2) ∧ ¬(2047 + 0 ≤ 1981 + 65) := by decide

/-- Six held lines and their references, of the fingerprint 0 and another. -/
def sixHeld : List HeldLine :=
  (List.range 6).map (fun i => { ownIndex := i, grade := 200, fingerprint := 0, entry := i })
def sixReferences (fp : Fingerprint) : List Reference :=
  (List.range 6).map (fun i => { line := i, station := 1, grade := 200, fingerprint := fp })

/-- With 64 lines handed only the offset 0 has six distances; a mean of 3 is the last that accepts it (R104, R105). -/
theorem witness_TrialsAreDecided :
    (∀ fp : Fingerprint, ∀ d ∈ ([-2, -1, 1, 2] : List Int), fp = 7 →
      (trialDistances 128 sixHeld (sixReferences fp) d).length < 6) ∧
    ((trialDistances 128 sixHeld (sixReferences 7) 0).length = 6 ∧ (trialDistances 128 sixHeld (sixReferences 7) 0).sum = 18) ∧
    ((trialDistances 128 sixHeld (sixReferences 15) 0).length = 6 ∧ 18 < (trialDistances 128 sixHeld (sixReferences 15) 0).sum) ∧
    (64 ≤ 64 ∧ ¬(64 ≤ 63) ∧ (trialDistances 128 sixHeld [] 0).length < 6) ∧
    (0 : Int) ≤ 0 + 2047 ∧ ¬((0 : Int) ≤ (0 : Nat) + (-1 : Int)) := by
  refine ⟨?_, by decide +kernel⟩
  intro fp d hd h
  subst h
  revert d
  decide +kernel

/-- A row of stations 1 (grade 200) and 2 (grade 100), met by grades of stations 3, 1 and 2 where the clauses meet. -/
theorem witness_TallyRanksHolders :
    (HolderRow.empty.best = none ∧ HolderRow.empty.second = none) ∧
    (row.best = some ⟨1, 200⟩ ∧ (1 : Station) ≠ 3 ∧ row.second = some ⟨2, 100⟩ ∧ (2 : Station) ≠ 3) ∧
    200 < 201 ∧ (200 ≤ 200 ∧ 100 < 200) ∧ (100 ≤ 200 ∧ 100 ≤ 100) ∧
    ((2 : Station) ≠ 1 ∧ 100 ≤ 100 ∧ 99 < 100) ∧ ((1 : Station) ≠ 2 ∧ 200 ≤ 200 ∧ 200 < 201) := by decide

/-- Of two entries from line 7 up the first is of grade 0 and passed over; line 6 and line 9 stand. -/
theorem witness_TallyRowsAreTaken :
    Sparse.Rising ({ record := record, entries := [], rows := [(7, row)] } : Slot).rows ∧
    [({ grade := 0, fingerprint := 0 } : TallyEntry), { grade := 5, fingerprint := 0 }][0]? =
      some { grade := 0, fingerprint := 0 } ∧ (6 < 7 ∨ 7 + 2 ≤ 6) ∧ (9 < 7 ∨ 7 + 2 ≤ 9) := by
  refine ⟨?_, by decide⟩
  simp

/-- A chart with line 7 at a grade, and bodies queued. -/
def asked (grade : Nat) (bodies : List SendBody) : State :=
  withBodies (taking { running with
    slots := [(0, { record := record, entries := [(7, { oldEntry with committed := grade })], rows := [] })] }) bodies

theorem witness_AskIsServed :
    (decodeFrame askWord = some askFrame ∧ askFrame.payload = .ask { key := key, line := 7, primary := 0, fallback := some 2 } ∧
      askFrame.sender ≠ (taking running).self ∧ (taking running).config.state = .run ∧
      (taking running).link.canTakeFrame = true ∧ (taking running).link.mute = false ∧
      (taking running).link.askDecline.length < 8 ∧ (0 : Station) = (taking running).self ∧
      (taking running).slotOfKey key = none) ∧
    ((taking (withRecord { record with state := .aligning })).slotOfKey key = some 0 ∧
      (taking (withRecord { record with state := .aligning })).record? 0 = some { record with state := .aligning }) ∧
    ((asked 1 []).slotOfKey key = some 0 ∧ (asked 1 []).record? 0 = some record ∧ record.state ≠ .aligning ∧
      ((asked 1 []).entry 0 7).committed ≤ 1 ∧ (asked 1 []).shadow? 0 7 = none) ∧
    ((asked 2 [aBody 8 none, aBody 9 none]).slotOfKey key = some 0 ∧ 1 < ((asked 2 []).entry 0 7).committed ∧
      2 ≤ (asked 2 [aBody 8 none, aBody 9 none]).fetch.bodies.length ∧
      ∀ x ∈ (asked 2 [aBody 8 none, aBody 9 none]).fetch.bodies, ¬(x.key = key ∧ x.line = 7)) ∧
    ((asked 2 []).fetch.bodies = [] ∧ record.hold = .none ∧
      ∀ w ∈ (asked 2 []).lineTable.queue, w.slot = 0 → (asked 2 []).lineTable.nextOrder ≤ w.order) ∧
    (decodeFrame fallbackWord = some fallbackFrame ∧
      fallbackFrame.payload = .ask { key := key, line := 7, primary := 2, fallback := some 0 } ∧
      (2 : Station) ≠ (taking running).self ∧ some (0 : Station) = some (taking running).self ∧
      (∀ t ∈ (taking running).fetch.timers, t.isFor key 7 = false) ∧ (taking running).fetch.timers.length < 4) := by
  refine ⟨⟨test_ask_word, rfl, by decide⟩, by decide, by decide, by decide, by decide, test_fallback_word, rfl, by decide⟩

/-- A fallback timer of a line of station 1's chart. -/
def lineTimer (line : Nat) : FallbackTimer := { key := key, line := line, primary := 1, requester := 3, expiry := 9 }

/-- The line's timer restarts in its place among four; with four of other lines running no timer starts. -/
theorem witness_AskIsServed_timers :
    (∃ t ∈ [lineTimer 5, lineTimer 6, lineTimer 7, lineTimer 8], t.key = key ∧ t.line = 7) ∧
    (∀ t ∈ [lineTimer 5, lineTimer 6, lineTimer 8, lineTimer 9], ¬(t.key = key ∧ t.line = 7)) ∧
    ¬([lineTimer 5, lineTimer 6, lineTimer 8, lineTimer 9].length < 4) := by decide

/-- A body of line 7 that is queued already, and an ASK of station 1 to station 2 without a fallback. -/
theorem witness_AskIsServed_queued :
    ((asked 2 [aBody 7 none]).slotOfKey key = some 0 ∧
      ∃ x ∈ (asked 2 [aBody 7 none]).fetch.bodies, x.key = key ∧ x.line = 7) ∧
    (2 : Station) ≠ (taking running).self ∧ (none : Option Station) ≠ some (taking running).self := by decide

/-- A fetch whose ASK was sent. -/
def fetching (phase : FetchPhase) : State := withFetch (taking (withRecord record)) [aFetch phase (some 2)]

theorem witness_DeclineRetiresFetch :
    (decodeFrame declineWord = some declineFrame ∧
      declineFrame.payload = .decline { key := key, line := 7, requester := 0, reason := .busy } ∧
      declineFrame.sender ≠ (fetching .awaitingFirst).self ∧ (fetching .awaitingFirst).config.state = .run ∧
      (fetching .awaitingFirst).link.canTakeFrame = true) ∧
    ((0 : Station) = (fetching .awaitingFirst).self ∧
      (fetching .awaitingFirst).fetchFor key 7 = some (aFetch .awaitingFirst (some 2)) ∧
      (aFetch .awaitingFirst (some 2)).phase ≠ .askQueued ∧ (aFetch .awaitingFirst (some 2)).target = declineFrame.sender ∧
      (fetching .awaitingFirst).slotOfKey key = some 0) ∧
    (1 : Station) ≠ (fetching .awaitingFirst).self ∧ DeclineReason.noLine ≠ .busy :=
  ⟨⟨test_decline_word, rfl, by decide, rfl, rfl⟩, by decide, by decide, by decide⟩

/-- A DECLINE too late for its fetch: none stands, or one whose ASK is queued still; and one for an unknown chart. -/
theorem witness_DeclineRetiresFetch_late :
    ((taking (withRecord record)).fetchFor key 7 = none ∧ (taking (withRecord record)).slotOfKey key = some 0) ∧
    ((fetching .askQueued).fetchFor key 7 = some (aFetch .askQueued (some 2)) ∧
      ¬((aFetch .askQueued (some 2)).phase ≠ .askQueued)) ∧
    ((taking running).fetchFor key 7 = none ∧ (taking running).slotOfKey key = none) := by decide

/-- A context of station 1 that expects a segment. -/
def assembling (next : Nat) : State :=
  { taking (withRecord record) with fetch := { Fetch.reset with contexts := [(1, { aContext none with next := next })] } }

theorem witness_BodySegmentsAssemble :
    (decodeFrame segmentWord0 = some (segmentFrame 0) ∧ (segmentFrame 0).payload = .body (segment 0) ∧
      (segmentFrame 0).sender ≠ running.self ∧ (taking running).config.state = .run ∧
      (taking running).link.canTakeFrame = true ∧
      (segment 0).header = some { grade := 200, source := 3, width := 0, requester := 0 } ∧
      Sparse.find (taking running).fetch.contexts 1 = none ∧ (segment 0).endMark = false ∧
      (∀ t ∈ (taking running).fetch.timers, t.isFor key 7 = false) ∧ (taking running).fetchFor key 7 = none) ∧
    ((fetching .awaitingFirst).fetchFor key 7 = some (aFetch .awaitingFirst (some 2)) ∧
      (aFetch .awaitingFirst (some 2)).target = (segmentFrame 0).sender) ∧
    (decodeFrame segmentWord6 = some (segmentFrame 6) ∧ (segment 6).header = none ∧
      Sparse.find (assembling 6).fetch.contexts 1 = some { aContext none with next := 6 } ∧
      (aContext none).waitingSlot = none ∧ (aContext none).key = (segment 6).key ∧ (aContext none).line = (segment 6).line ∧
      (aContext none).count = (segment 6).count ∧ { aContext none with next := 6 }.next = (segment 6).number ∧
      (segment 6).number + 1 ≠ (segment 6).count ∧ (segment 6).endMark = false) ∧
    { aContext none with next := 5 }.next ≠ (segment 6).number ∧
    (decodeFrame segmentWord7 = some (segmentFrame 7) ∧ { aContext none with next := 7 }.next = (segment 7).number ∧
      (segment 7).number + 1 = (segment 7).count ∧ (segment 7).endMark = true ∧
      (assembling 7).slotOfKey (segment 7).key = some 0 ∧ (assembling 7).record? 0 = some record ∧
      record.key = (segment 7).key ∧ (assembling 7).NoReads ∧ (assembling 7).lineTable.requests = [] ∧
      (assembling 7).lineTable.queue.length < 4 ∧ (assembling 7).lineTable.store = none ∧
      (assembling 7).reception.buffers = [] ∧ (∀ p ∈ (assembling 7).fetch.contexts, p.2.waitingSlot = none)) ∧
    ((bodiesWait.reception.buffers = [] ∧ Sparse.find bodiesWait.fetch.contexts 1 = some (aContext (some 0))) ∧
      (aContext (some 0)).waitingSlot ≠ none) ∧
    (taking running).slotOfKey (segment 7).key = none :=
  ⟨⟨test_segment_0_word, rfl, by decide +kernel⟩, by decide +kernel, ⟨test_segment_6_word, by decide +kernel⟩, by decide,
    ⟨test_segment_7_word, by decide +kernel, by decide +kernel, by decide +kernel, by decide, rfl, rfl, noReads_of rfl rfl,
    by decide⟩, ⟨⟨rfl, rfl⟩, by decide⟩, by decide⟩

/-- A fetch that awaits its fallback is answered by a segment 0 for this station, and one already RECEIVING is not (R121). -/
theorem witness_BodySegmentsAssemble_answers :
    ((aFetch .awaitingFallback (some 2)).phase = .awaitingFallback ∧ (aFetch .awaitingFallback (some 2)).fallback = some 2) ∧
    ¬((aFetch .receiving none).phase = .awaitingFirst ∨ (aFetch .receiving none).phase = .awaitingFallback) ∧
    ((segment 0).header.map BodyHeader.requester = some running.self) := by decide

/-! ### Timers -/

def livePeer : RosterEntry := { state := .live, lossDeadline := some 6000000, lastHail := none }

/-- Station 1 is LIVE; the chart has another ACTIVE contributor; some fetches stand. -/
def losing (l : List FetchEntry) : State :=
  { withFetch (withRecord stoppingRecord) l with
    roster := { Roster.reset with state := .joined, peers := [(1, livePeer)] } }

theorem witness_LostPeerLeavesCharts :
    ((losing []).config.state = .run ∧ (losing []).rosterEntry 1 = livePeer ∧ livePeer.state = .live ∧
      livePeer.lossDeadline = some 6000000 ∧
      (losing []).TablesOrdered ∧ (losing []).fetchOf 1 = none) ∧
    ((losing [aFetch .receiving none]).fetch.fetches.filter (fun y => y.target == 1) = [aFetch .receiving none] ∧
      (aFetch .askQueued none).phase = .askQueued) := by
  refine ⟨⟨rfl, rfl, rfl, rfl, ?_, by decide⟩, by decide⟩
  constructor <;> decide

/-- Two charts that the loss of station 1 closes, the first by its quiet flag, and one in which station 0 is ACTIVE still. -/
def losingCharts : State :=
  { losing [] with
    slots :=
      [(0, slotWith { record with contributors := [⟨0, none⟩, ⟨1, none⟩], quietFlag := true, lastCloseReason := some .stop }),
       (1, slotWith { record with contributors := [⟨0, none⟩, ⟨1, none⟩], key := { origin := 2, sequence := 0 } }),
       (2, slotWith { record with lastCloseReason := some .stop, key := { origin := 3, sequence := 0 } })] }

/-- Each ends by a reason of R92, and they take the close orders 1 and 2. -/
theorem test_loss_closes : (after (.lossTimerExpiry 1) losingCharts).slots.map (fun p =>
      (p.2.record.state, p.2.record.closeReason, p.2.record.closeOrder)) =
    [(.closed, some .quiet, some 1), (.opened, none, none), (.closed, some .stop, some 2)] := by decide +kernel

theorem witness_HailTimersQueueHails :
    (({ running with roster := { Roster.reset with listenDeadline := some 6000000 } } : State).roster.state = .listen ∧
      ({ running with roster := { Roster.reset with listenDeadline := some 6000000 } } : State).roster.listenDeadline
        = some 6000000 ∧ running.link.hail = none) ∧
    (({ running with roster := { Roster.reset with state := .joined, hailDeadline := some 9 } } : State).roster.hailDeadline
        = some 9 ∧
      ({ waitingLink with transmitter := .free } : Link).attempt ≠ some .hail) := by decide

def deferredRow : HolderRow := { row with deferral := some 550000 }

theorem witness_ChartTimersExpire :
    ((withRecord record).config.state = .run ∧ (withRecord record).record? 0 = some record ∧
      record.quietDeadline = some 5 ∧ record.bound = false ∧ record.state ≠ .closed) ∧
    ((withRecord boundRecord).record? 0 = some boundRecord ∧ boundRecord.quietDeadline = some 5 ∧
      boundRecord.bound = true) ∧
    ((({ running with slots := [(0, { record := record, entries := [], rows := [(2047, deferredRow)] })] } : State).slot? 0).map
      (fun sl => sl.row 2047) = some deferredRow ∧ deferredRow.deferral = some 550000) := by decide

theorem witness_FetchTimersExpire :
    (∀ p f, (withFetch running [aFetch p f]).config.state = .run ∧
      (withFetch running [aFetch p f]).fetchOf 1 = some (aFetch p f) ∧ (aFetch p f).phase = p ∧
      (aFetch p f).fallback = f) ∧
    (aFetch .awaitingFirst none).deadline = some 150000 ∧ (aFetch .receiving none).deadline = some 150000 ∧
    (some (2 : Station) ≠ none) :=
  ⟨fun _ _ => ⟨rfl, rfl, rfl, rfl⟩, rfl, rfl, by decide⟩

def aTimer : FallbackTimer := { key := key, line := 7, primary := 1, requester := 2, expiry := 150000 }

/-- The timer runs in a state. -/
def timed (s : State) : State := { s with fetch := { s.fetch with timers := [aTimer] } }

theorem witness_FallbackTimerServes :
    ((timed running).config.state = .run ∧ (timed running).fetch.timers = [] ++ aTimer :: [] ∧
      (∀ x ∈ ([] : List FallbackTimer) ++ [], x.isFor aTimer.key aTimer.line = false) ∧ (timed running).link.mute = false ∧
      (timed running).link.askDecline.length < 8 ∧ (timed running).slotOfKey aTimer.key = none) ∧
    ((timed (asked 1 [])).slotOfKey aTimer.key = some 0 ∧ (timed (asked 1 [])).record? 0 = some record ∧
      record.state ≠ .aligning ∧ (timed (asked 1 [])).fetch.bodies = [] ∧
      ((timed (asked 1 [])).entry 0 aTimer.line).committed ≤ 1 ∧ (timed (asked 1 [])).shadow? 0 aTimer.line = none) ∧
    (1 < ((timed (asked 2 [])).entry 0 aTimer.line).committed ∧ record.hold = .none ∧
      ∀ w ∈ (timed (asked 2 [])).lineTable.queue, w.slot = 0 → (timed (asked 2 [])).lineTable.nextOrder ≤ w.order) := by
  decide

/-! ### The chart port and the attention unit -/

/-- Three messages formed: one place left. -/
def threeFormed (s : State) : State := { s with port := { Port.reset with queue := List.replicate 3 (.ack 0x09 .ok 0) } }

theorem witness_HoldRequestsAreAnswered :
    ((threeFormed running).portReady = true ∧ (threeFormed running).slotCount ≤ (3 : Byte).toNat ∧
      (threeFormed running).slot? (2 : Byte).toNat = none) ∧
    ((0 : Byte).toNat < (withRecord { record with hold := .frozen }).slotCount ∧
      (withRecord { record with hold := .frozen }).record? (0 : Byte).toNat = some { record with hold := .frozen }) ∧
    ((writing (withRecord record) (write .composite 3)).portReady = true ∧ record.hold ≠ .frozen ∧
      QuietRequest.freeze 0 ∉ (writing (withRecord record) (write .composite 3)).lineTable.requests ∧
      (writing (withRecord record) (write .composite 3)).quiet 0 = false) ∧
    ((writing (withRecord record) (write .pool 3)).quiet 0 = true ∧
      (writing (withRecord record) (write .pool 3)).lineTable.requests = [] ∧
      (writing (withRecord record) (write .pool 3)).NoReads ∧
      (∀ w ∈ (writing (withRecord record) (write .pool 3)).lineTable.queue, w.kind = .pool ∨ w.slot ≠ 0) ∧
      (∀ p ∈ (writing (withRecord record) (write .pool 3)).slots, p.1 = 0 → ∀ q ∈ p.2.entries,
        q.2.pending = none ∧ q.2 ≠ LineEntry.empty)) ∧
    ((sending .frozen []).record? (0 : Byte).toNat = some { record with hold := .frozen } ∧
      ∃ p ∈ (sending .frozen []).pool, p.2.kind = .shadow ∧ p.2.slot = 0) ∧
    (∀ p ∈ (withRecord { record with hold := .frozen }).pool, ¬(p.2.kind = .shadow ∧ p.2.slot = 0)) ∧
    ((sending .frozen []).candidateWaits = false ∧ Sparse.find (sending .frozen []).pool 2 = some (shadow 0 3) ∧
      (shadow 0 3).kind = .shadow ∧ (shadow 0 3).merging = false ∧ Sparse.Rising (sending .frozen []).pool ∧
      (∀ p ∈ (sending .frozen []).pool, p.1 = 2) ∧ (sending .frozen []).lineTable.queue.length < 4 ∧
      (sending .frozen []).NoReads ∧ (sending .frozen []).lineTable.requests = []) ∧
    ({ sending .frozen [] with reception := { Reception.reset with buffers := [aBuffer] } } : State).candidateWaits = true := by
  refine ⟨by decide, by decide, by decide, ⟨rfl, rfl, noReads_of rfl rfl, by decide⟩, by decide, by decide, ?_, by decide⟩
  exact ⟨by decide, rfl, rfl, rfl, by decide, by decide, by decide, noReads_of rfl rfl, rfl⟩

def closedRecord : ChartRecord := { record with state := .closed, closeOrder := some 1, quietDeadline := none }

theorem witness_DiscardReleasesSlot :
    ((threeFormed running).portReady = true ∧ (threeFormed running).slotCount ≤ (3 : Byte).toNat) ∧
    ((2 : Byte).toNat < (withRecord record).slotCount ∧ (withRecord record).record? 0 = some record ∧ record.state ≠ .closed) ∧
    (closedRecord.state = .closed ∧ { closedRecord with hold := .frozen }.hold ≠ .none) ∧
    ((withRecord closedRecord).portReady = true ∧ (withRecord closedRecord).record? 0 = some closedRecord ∧
      closedRecord.hold = .none) := by decide

/-- A slot with a write in progress and a body of its own before one whose snapshot stands. -/
def discarding : State :=
  withBodies (writing (withRecord closedRecord) (write .composite 3))
    [formedBody, { aBody 8 (some aSnapshot) with slot := 1 }]

theorem witness_ReleaseSlot : discarding.record? 0 = some closedRecord ∧ discarding.lineTable.started = true ∧
    discarding.lineTable.queue.head? = some (write .composite 3) ∧ (write .composite 3).slot = 0 ∧
    discarding.fetch.bodies.filter (fun b => b.slot != 0) = { aBody 8 (some aSnapshot) with slot := 1 } :: [] ∧
    { aBody 8 (some aSnapshot) with slot := 1 }.snapshot = some aSnapshot ∧
    { aBody 8 (some aSnapshot) with slot := 1 }.formed = false ∧
    (withRecord closedRecord).fetch.bodies.filter (fun b => b.slot != 0) = [] := ⟨rfl, rfl, rfl, rfl, rfl, rfl, rfl, rfl⟩

/-- PEER_JOINED is promoted over the native level 6 of LINE_FAULT. -/
def eventful : State :=
  { running with
    attention := { Attention.reset with events := [⟨.lineFault, 0⟩, ⟨.peerJoined, 3⟩], promotions := [.peerJoined] } }

theorem witness_EventsAreTakenByRank : eventful.portReady = true ∧ eventful.EventsDistinct ∧
    eventful.attention.promotions.length ≤ 2 ∧
    (∀ e ∈ eventful.attention.events, (if e.kind ∈ eventful.attention.promotions then 6 else e.kind.level) ≠ (0 : Byte).toNat) ∧
    ((⟨.peerJoined, 3⟩ : Event) ∈ eventful.attention.events ∧
      (if EventKind.peerJoined ∈ eventful.attention.promotions then 6 else 2) = (6 : Byte).toNat ∧
      ranksAbove eventful.attention.promotions ⟨.peerJoined, 3⟩ ⟨.lineFault, 0⟩) ∧
    running.attention.events = [] := by
  refine ⟨by decide, ?_, by decide, by decide, ⟨by decide, by decide, ?_⟩, rfl⟩
  · show eventful.attention.events.Pairwise (fun a b => a.before b = true)
    decide
  · exact Or.inr ⟨rfl, Or.inl (by decide)⟩

theorem witness_MaskAndPromotionsAreSet : running.portReady = true ∧ (7 : Byte).toNat ≤ 7 ∧ 7 < (8 : Byte).toNat ∧
    ((2 : Byte).toNat = 1 ∨ (2 : Byte).toNat = 2 ∨ 15 < (2 : Byte).toNat) ∧ 15 < (16 : Byte).toNat ∧
    ¬((3 : Byte).toNat = 1 ∨ (3 : Byte).toNat = 2 ∨ 15 < (3 : Byte).toNat) ∧
    ¬((15 : Byte).toNat = 1 ∨ (15 : Byte).toNat = 2 ∨ 15 < (15 : Byte).toNat) := by decide

theorem witness_ReportsChangeNothing : (threeFormed running).portReady = true ∧ 2 < running.slotCount := by decide

/-- Three messages formed and a read pending: FULL. -/
def full : State := { reading with port := { reading.port with queue := List.replicate 3 (.ack 0x09 .ok 0) } }

theorem witness_BadAndLateRequestsChangeNothing :
    (running.config.state = .run ∧ running.portReady = true ∧ requestFormGood (0x08 :: [8]) = false) ∧
    (full.config.state = .run ∧ 4 ≤ full.port.queue.length + full.placesHeld ∧ isTransfer .poll = true ∧
      Instr.poll.wellFormed = true) := by decide

theorem witness_ReadTransferTakesHead : running.port.queue = [] ∧
    (threeFormed running).port.queue = .ack 0x09 .ok 0 :: List.replicate 2 (.ack 0x09 .ok 0) := by decide

/-- Items of two grays, a directory with a slot in use behind an unused one, a roster, and the last of the fault causes. -/
def twoGrays : LineItem :=
  { line := 2047, grade := 200, held := true, source := some 5, origin := some .merged, pixels := [0xA, 0x5] }

def aReport : StatusReport :=
  { state := .mute, station := 7, binding := some 15, unphased := true, demodulator := .image, poolInUse := 512
    provisionalInUse := 64, fetchesInUse := 4, slotCount := 16, width := 2, causes := [.widthCode, .widthReduced]
    roster := [.self, .peer livePeer] }

theorem witness_ReadTransferTakesHead_layouts : (∀ x ∈ [twoGrays, twoGrays], x.pixels.length = 2 * 1) ∧
    [twoGrays, twoGrays][1]? = some twoGrays ∧ 1 + 1 = [twoGrays, twoGrays].length ∧
    (Response.lines .ok 0 7 [twoGrays]).bytes.length < 65539 ∧
    ([none, some { record := record, filled := 3, pool := 1 }] : List (Option SlotReport))[0]? = some none ∧
    aReport.binding.getD 0 < 16 ∧ aReport.causes.Nodup ∧ aReport.roster[0]? = some .self := by decide +kernel

/-- The item's flags: end mark, held, a source, origin MERGED, station 5 (R180, R182). -/
theorem test_lines_bytes : (Response.lines .ok 0 7 [twoGrays]).bytes =
    [0x81, 0, 10, 0, 0, 0, 7, 1, 0x07, 0xFF, 200, 0xFD, 0xA5] := by decide +kernel

/-! ### Originations, take-ups, full queues and replacements -/

/-- The CRC of `badWord` fails. -/
theorem witness_FramesReadBack_crc : badWord = [0x84, 0x03, 0x00, 0x00, 0x00] ++ [0x21, 0x00] ∧
    (0x21 : Byte) ++ (0x00 : Byte) ≠ crc [0x84, 0x03, 0x00, 0x00, 0x00] := by decide +kernel

/-- At W 1024 a pulse takes 25 pixels: 24 dark ones are none, and of two runs of 25 the first counts (R11). -/
theorem witness_GraysAndGradesFollowTones_pulse : 40 ≤ 1024 ∧
    pulsePosition (List.replicate 24 3 ++ List.replicate 1000 4) 1024 = none ∧
    pulsePosition (4 :: (List.replicate 25 3 ++ 4 :: List.replicate 25 0)) 1024 = some 1 ∧
    (5 ∈ [9, 5, 7] ∧ 9 ∈ [9, 5, 7] ∧ (∀ x ∈ [9, 5, 7], 5 ≤ x ∧ x ≤ 9) ∧ spread [9, 5, 7] = 9 - 5) := by decide +kernel

/-- As `wantingFull`, a DECLINE the oldest of the eight, in flight or not. -/
def wantingDeclining (attempt : Option FrameClass) : State :=
  { wanting with link := { Link.reset with
      attempt := attempt
      askDecline := aFrame declineFrame.payload 0 :: (List.range 7).map (fun n => anAsk (n + 100)) } }

theorem witness_SettleIssuesAsks_full :
    (wantingDeclining none).nextEligible = some (0, record, 7, row, ⟨1, 200⟩) ∧
    (wantingDeclining (some .askDecline)).nextEligible = some (0, record, 7, row, ⟨1, 200⟩) ∧
    8 ≤ (wantingDeclining none).link.askDecline.length ∧
    ((wantingDeclining none).link.askDecline.drop 0).any QueuedFrame.isDecline = true ∧
    ((wantingDeclining (some .askDecline)).link.askDecline.drop 1).any QueuedFrame.isDecline = false := by decide +kernel

/-- The DECLINE that is not in flight gives way to the ASK (R56). -/
theorem test_ask_takes_declines_place : (wantingDeclining none).settle.link.askDecline.map QueuedFrame.payload =
    ((List.range 7).map (fun n => anAsk (n + 100)) ++ [anAsk 7]).map QueuedFrame.payload ∧
    (wantingDeclining (some .askDecline)).settle.fetch.fetches = [] := by decide +kernel

/-- A record of this station's first key. -/
def ownKeyed (r : ChartRecord) : ChartRecord := { r with key := { origin := 0, sequence := 0 } }

/-- With the first key held by an OPEN record and the second free, the second is taken. -/
theorem originates_second (s : State) (p : Nat × Slot) (h : s.self = 0 ∧ s.originSequence = 0) (hp : p.2.record.state = .opened)
    (h0 : s.slots.find? (fun p => p.2.record.key == { origin := 0, sequence := 0 }) = some p)
    (h1 : s.slots.find? (fun p => p.2.record.key == { origin := 0, sequence := 1 }) = none) : originates s 1 s := by
  refine ⟨⟨1, by decide, by rw [h.2]; rfl, fun j hj => ⟨p, ?_, by simp [hp]⟩⟩, Or.inl ⟨by simp only [h.1]; exact h1, rfl⟩⟩
  obtain rfl : j = 0 := by omega
  rw [h.1, h.2]
  exact h0

/-- No record holds the key, or a CLOSED one of hold NONE, which is then released; and a start tone and an eighth clear period
whose next key an OPEN record holds (R79). -/
theorem witness_originates :
    originates running 0 running ∧
    originates (withRecord (ownKeyed (closedAs 1 .none))) 0 ((withRecord (ownKeyed (closedAs 1 .none))).releaseSlot 0) ∧
    (originates { starting with slots := [(0, slotWith (ownKeyed record))] } 1
        { starting with slots := [(0, slotWith (ownKeyed record))] } ∧
      ({ starting with slots := [(0, slotWith (ownKeyed record))] } : State).TablesOrdered ∧
      ({ starting with slots := [(0, slotWith (ownKeyed record))] } : State).slot? 1 = none) ∧
    originates (eighth [(0, slotWith (ownKeyed record))]) 1 (eighth [(0, slotWith (ownKeyed record))]) ∧
    (ownKeyed record).lastOpenHeard = none ∧ (ownKeyed record).lastTally = none ∧ 1 < starting.slotCount := by
  refine ⟨⟨⟨0, by decide, by decide, by simp⟩, Or.inl ⟨rfl, rfl⟩⟩,
    ⟨⟨0, by decide, by decide, by simp⟩, Or.inr ⟨(0, slotWith (ownKeyed (closedAs 1 .none))), rfl, by decide, rfl⟩⟩,
    ⟨originates_second _ (0, slotWith (ownKeyed record)) ⟨rfl, rfl⟩ rfl rfl rfl, ?_, rfl⟩,
    originates_second _ (0, slotWith (ownKeyed record)) ⟨rfl, rfl⟩ rfl rfl rfl, by decide⟩
  constructor <;> decide

/-- A start tone passes over the key of an OPEN record and takes that of a CLOSED one, which goes (R79). -/
theorem test_next_key : (after .startToneConfirmed { starting with slots := [(0, slotWith (ownKeyed record))] }).slots.map
      (fun p => (p.1, p.2.record.key.sequence)) = [(0, 0), (1, 1)] ∧
    (after .startToneConfirmed { starting with slots := [(0, slotWith (ownKeyed (closedAs 1 .none)))] }).slots.map
      (fun p => (p.1, p.2.record.key.sequence, p.2.record.state)) = [(0, 0, .opened)] := by decide +kernel

/-- As `adopting`, a fetch standing for the adopted slot, its ASK queued, while a migration runs. -/
def adoptingBusy : State :=
  { adopting with
    link := { Link.reset with askDecline := [anAsk 7] }
    fetch := { Fetch.reset with fetches := [{ aFetch .askQueued none with slot := 1 }] }
    alignment := { Alignment.reset with state := .migrating, slot := some 0, key := some key, migration := [(aHeld, 0)] }
    pool := [(4, PoolEntry.newProvisional 0 0)] }

/-- The fetch goes with its ASK, and the migration with its line (R60, R98, R119). -/
theorem test_adoption_takes_up : (after .startToneConfirmed adoptingBusy).fetch.fetches = [] ∧
    (after .startToneConfirmed adoptingBusy).link.askDecline = [] ∧ (after .startToneConfirmed adoptingBusy).pool = [] ∧
    (after .startToneConfirmed adoptingBusy).alignment.state = .collecting ∧
    (after .startToneConfirmed adoptingBusy).alignment.migration = [] := by decide +kernel

/-- A full OPEN/CLOSE queue: its oldest CLOSE, here in flight or not, gives way unless it is in flight (R55). -/
def fullOpenClose (attempt : Option FrameClass) : Link :=
  { Link.reset with attempt := attempt, openClose := aFrame closeFrame.payload 0 :: List.replicate 3 (aFrame openFrame.payload 0) }

theorem test_full_open_close_queue :
    ((fullOpenClose none).queueOpenClose closeFrame.payload).map Link.openClose =
      some (List.replicate 3 (aFrame openFrame.payload 0) ++ [aFrame closeFrame.payload 0]) ∧
    (fullOpenClose (some .openClose)).queueOpenClose closeFrame.payload = none := by decide +kernel

/-- A HAIL in flight with a replacement: it loses arbitration, collides or is sent (R58, R72). -/
def hailing (joining : Bool) : Link :=
  { attempting .hail with
    hail := some (aFrame (.hail { joining := joining, width := 0, rate := 0, boundKey := none }) 2)
    hailReplacement := some (aFrame (.hail { joining := true, width := 0, rate := 0, boundKey := some key }) 0) }

theorem witness_HailReplacement :
    (∀ j, (linked (hailing j)).config.state = .run ∧ (hailing j).transmitter = .arbitrating ∧ (hailing j).attempt = some .hail ∧
      (hailing j).waiting .hail = aFrame (.hail { joining := j, width := 0, rate := 0, boundKey := none }) 2 :: [] ∧
      (hailing j).hailReplacement =
        some (aFrame (.hail { joining := true, width := 0, rate := 0, boundKey := some key }) 0)) ∧
    (byteZero { sender := running.self, payload := .hail { joining := false, width := 0, rate := 0, boundKey := none } }).getLsbD
      (7 : Fin 8).val = true := by
  refine ⟨fun j => ⟨rfl, rfl, rfl, rfl, rfl⟩, by decide +kernel⟩

theorem test_hail_replacement :
    ((after (.arbitrationLost 7) (linked (hailing false))).link.hail.map QueuedFrame.payload =
      some (.hail { joining := true, width := 0, rate := 0, boundKey := some key })) ∧
    ((after .frameSent (linked (hailing true))).link.hail.map QueuedFrame.payload =
      some (.hail { joining := false, width := 0, rate := 0, boundKey := some key })) ∧
    ((after .collisionFault (linked (hailing false))).link.hail.map QueuedFrame.payload =
      some (.hail { joining := true, width := 0, rate := 0, boundKey := some key })) := by decide +kernel

/-- A frame withdrawn in flight, a CLOSE and a DECLINE at their third fault, and a body at its third with a second behind it. -/
theorem witness_CollisionFaultCounts_leaves :
    ((attemptingWith .openClose (fun l => { l with openClose := [{ aFrame (.chartOpen newOpen) 0 with withdrawn := true }] })).link.openClose =
        { aFrame (.chartOpen newOpen) 0 with withdrawn := true } :: [] ∧
      ({ aFrame (.chartOpen newOpen) 0 with withdrawn := true } : QueuedFrame).withdrawn = true) ∧
    ((attemptingWith .openClose (fun l => { l with openClose := [aFrame closeFrame.payload 2] })).link.openClose =
      aFrame closeFrame.payload 2 :: [] ∧ ({ newOpen with reannounce := true } : ChartOpen).reannounce = true) ∧
    ((attemptingWith .askDecline (fun l => { l with askDecline := [aFrame declineFrame.payload 2] })).link.askDecline =
      aFrame declineFrame.payload 2 :: [] ∧ 2 ≤ (aFrame declineFrame.payload 2).faults) ∧
    ((withBodies (attemptingWith .body id) [formedBody, aBody 9 none]).fetch.bodies = formedBody :: aBody 9 none :: [] ∧
      (aBody 9 none).formed = false ∧ (aBody 9 none).snapshot = none ∧ (aBody 9 (some aSnapshot)).snapshot = some aSnapshot) :=
  ⟨⟨rfl, rfl⟩, ⟨rfl, rfl⟩, ⟨rfl, Nat.le_refl 2⟩, rfl, rfl, rfl, rfl⟩

/-- A withdrawn OPEN that collides leaves without LINE_FAULT, a CLOSE at its third fault with it (R60, R62). -/
theorem test_withdrawn_collides :
    ((after .collisionFault (attemptingWith .openClose (fun l =>
      { l with openClose := [{ aFrame (.chartOpen newOpen) 2 with withdrawn := true }] }))).link.openClose = [] ∧
      (after .collisionFault (attemptingWith .openClose (fun l =>
        { l with openClose := [{ aFrame (.chartOpen newOpen) 2 with withdrawn := true }] }))).attention.events = []) ∧
    (after .collisionFault (attemptingWith .openClose (fun l =>
      { l with openClose := [aFrame closeFrame.payload 2] }))).attention.events = [⟨.lineFault, 0⟩] := by decide +kernel

/-- As `merging`, a freeze waiting, a store waiting for the entry that the merge frees, and a write queued for it. -/
def mergingBusy : State :=
  { merging with
    lineTable := { merging.lineTable with
      queue := [mergeWrite, { write .pool 2 with order := 1 }], requests := [.freeze 0]
      store := some { slot := 0, entry := 2, grade := 90, pixels := blackLine } } }

/-- The store goes, the write is kept for no entry, and the freeze comes before the next write (R37; log entry 13). -/
theorem test_freed_entry : (after .compositeWriteComplete mergingBusy).lineTable.store = none ∧
    (after .compositeWriteComplete mergingBusy).lineTable.queue.map Write.stale = [true] ∧
    (after .compositeWriteComplete mergingBusy).lineTable.started = false := by decide +kernel

/-- As `splitting`, behind a freeze of slot 1: a COMPOSITE write of origin PEER, a MERGE into an entry of origin PEER, a POOL write
in progress to a SHADOW entry of origin PEER, and a record that holds the next key. -/
def splittingBusy : State :=
  { splitting with
    lineTable := { LineTable.reset with
      requests := [.freeze 1, .splitClear 0], started := true
      queue := [write .pool 5, { write .composite 3 with order := 1 }, { mergeWrite with target := 8, order := 2 }] }
    pool := [(2, { shadow 0 8 with origin := some .own, merging := true }), (5, shadow 0 6)]
    slots := [(0, { slotWith { record with state := .aligning, bound := true, offset := none, expected := some 0 } with
        entries := [(3, { oldEntry with pending := some 200 }), (8, { oldEntry with origin := some .peer, pending := some 200 })] }),
      (1, slotWith (ownKeyed record))] }

theorem witness_SplitClearGivesNewChart_busy : splittingBusy.config.state = .run ∧ splittingBusy.alignment.state = .splitWait ∧
    splittingBusy.alignment.slot = some 0 ∧
    splittingBusy.record? 0 = some { record with state := .aligning, bound := true, offset := none, expected := some 0 } ∧
    splittingBusy.lineTable.requests = [QuietRequest.freeze 1] ++ QuietRequest.splitClear 0 :: [] ∧
    QuietRequest.splitClear 0 ∉ [QuietRequest.freeze 1] ∧ QuietRequest.freeze 0 ∉ [QuietRequest.freeze 1] ∧
    splittingBusy.lineTable.queue.head?.map Write.kind = some .pool ∧ splittingBusy.NoReads ∧ splittingBusy.TablesOrdered ∧
    ∀ (x : State) (f : Slot → Slot), (∀ sl, (f sl).record.key = sl.record.key) → x.self = 0 ∧ x.originSequence = 0 →
      x.slots = Sparse.modify splittingBusy.slots 0 f → originates x 1 x := by
  refine ⟨rfl, rfl, rfl, rfl, rfl, by decide, by decide, rfl, noReads_of rfl rfl, ?_, fun x f hf h hx => ?_⟩
  · constructor <;> decide
  · refine originates_second x (1, slotWith (ownKeyed record)) h rfl ?_ ?_ <;>
      (simp [hx, splittingBusy, Sparse.modify, List.find?, hf, slotWith, ownKeyed, record, key]; try rfl)

/-- The three writes go, the one in progress cut short; the merged line's SHADOW entry stays, UNMERGED; the key of the record in
slot 1 is passed over (R38, R79, R151). -/
theorem test_split_cancels : (after .splitClear splittingBusy).lineTable.queue.map Write.kind = [.composite] ∧
    (after .splitClear splittingBusy).pool.map Prod.fst = [2] ∧ (after .splitClear splittingBusy).interruptedWrites = 1 ∧
    ((after .splitClear splittingBusy).record? 0).map ChartRecord.key = some { origin := 0, sequence := 1 } := by decide +kernel

/-- An ASK under MUTE, and one to a part whose DECLINE queue is full (R56, R126, R136). -/
theorem witness_AskIsServed_dropped :
    ({ taking running with link := { idleLink with mute := true } } : State).link.mute = true ∧
    ({ taking running with link := { idleLink with mute := true } } : State).link.canTakeFrame = true ∧
    8 ≤ (List.replicate 8 (anAsk 9)).length ∧
    (after (.askReceived askWord) { taking running with link := { idleLink with askDecline := List.replicate 8 (anAsk 9) } }).link.askDecline =
      List.replicate 8 (anAsk 9) := by decide +kernel

/-- A row's stations: the best, the second, and one that is not listed; at 101 the second passes a best of 100. -/
theorem witness_HolderRows :
    (row.best = some ⟨1, 200⟩ ∧ row.second = some ⟨2, 100⟩ ∧ (1 : Station) ≠ 2 ∧ (1 : Station) ≠ 3 ∧ (2 : Station) ≠ 3) ∧
    (100 < 101 ∧ (HolderRow.empty.best = none ∨ HolderRow.empty.second = none)) := by decide

/-- A station listed, and one that is not, among the contributors. -/
theorem witness_Contributors : (∀ x ∈ ([] : List Contributor), x.station ≠ 1) ∧
    ∃ x ∈ [({ station := 1, ended := some .close } : Contributor)], x.station = 1 := by decide

/-- A re-announcement that waits already, and one that does not (R73). -/
theorem witness_HailIsKept_waits :
    (∃ g ∈ [aFrame (.chartOpen { newOpen with reannounce := true }) 0], ∃ o, g.payload = .chartOpen o ∧
      o.key = boundRecord.key ∧ o.reannounce = true) ∧
    ¬(∃ g ∈ ([] : List QueuedFrame), ∃ o, g.payload = .chartOpen o ∧ o.key = boundRecord.key ∧ o.reannounce = true) ∧
    (bound boundRecord).reception.binding = some 0 ∧ (bound boundRecord).record? 0 = some boundRecord ∧
    boundRecord.state = .opened ∧ { boundRecord with state := .aligning }.state ≠ .opened :=
  ⟨⟨_, List.mem_singleton_self _, { newOpen with reannounce := true }, rfl, rfl, rfl⟩, by simp, rfl, rfl, rfl, by decide⟩

/-! ## Single steps, their expected values worked out from the rules -/

/-- R161, R175: the cold reset posts RESTARTED (cold) and WIDTH_CODE for a strap width code 3; LISTEN lasts 6 s. -/
theorem test_strap_stream : (after (.strapStreamRead 0x0600000000000000) State.reset).attention.events =
      [⟨.configFault, 0⟩, ⟨.restarted, 0⟩] ∧
    (after (.strapStreamRead 0x0600000000000000) State.reset).roster.listenDeadline = some 6000000 ∧
    (after (.strapStreamRead 0x0600000000000000) State.reset).config.state = .run := by decide +kernel

/-- R41, R96, R149, R154: the write in progress tears its entry, the record closes with RESET and leaves THAWING. -/
theorem test_reset_asserted : ((after .resetAsserted resetting).entry 0 3).committed = 1 ∧
    (after .resetAsserted resetting).record? 0 = some { record with
      state := .closed, contributors := [⟨1, some .reset⟩], quietDeadline := none, closeReason := some .reset
      closeOrder := some 1 } ∧
    (after .resetAsserted resetting).attention.thawDoneAtRelease = [0] := by
  refine ⟨rfl, rfl, rfl⟩

/-- R9, R79, R80: the chart's key is (0, 0), its OPEN waits, and the transmitter wakes. -/
theorem test_start_tone : (after .startToneConfirmed starting).reception.binding = some 0 ∧
    (after .startToneConfirmed starting).originSequence = 1 ∧
    (after .startToneConfirmed starting).link.openClose = [QueuedFrame.fresh (.chartOpen
      { key := ⟨0, 0⟩, rate := 0, width := 0, late := false, split := false, reannounce := false, highest := 0 })] ∧
    (after .startToneConfirmed starting).link.transmitter = .waiting := by decide +kernel

/-- R80: the record whose OPEN was heard later is adopted. -/
theorem test_start_tone_adopts : (after .startToneConfirmed adopting).reception.binding = some 1 ∧
    (after .startToneConfirmed adopting).alignment.state = .collecting := by decide +kernel

/-- R16, R17, R91: the chart is unbound and a CLOSE with STOP waits. -/
theorem test_stop_tone : (after .stopToneConfirmed stoppingBound).reception.binding = none ∧
    (after .stopToneConfirmed stoppingBound).link.openClose =
      [QueuedFrame.fresh (.chartClose { key := key, reason := .stop, lastLine := none })] := by decide +kernel

/-- R29, R163: the grade is committed, and the two first pixels stand in the first byte of line 3. -/
theorem test_composite_write :
    ((after .compositeWriteComplete (writing (withRecord record) (write .composite 3))).entry 0 3).committed = 200 ∧
    Memory.readByte (after .compositeWriteComplete (writing (withRecord record) (write .composite 3))).memory (3 * 512) = 0xFF ∧
    Memory.readByte (after .compositeWriteComplete (writing (withRecord record) (write .composite 3))).memory (3 * 512 + 1) = 0 ∧
    (after .compositeWriteComplete (writing (withRecord record) (write .composite 3))).attention.events =
      [⟨.linesImproved, 0⟩] := by decide +kernel

/-- R31, R147: the merge line of the lowest chart line is taken. -/
theorem test_merge_taken : (after .candidateTaken thawing).lineTable.queue.map Write.target = [1] ∧
    (after .candidateTaken thawing).lineTable.queue.map Write.frees = [some 5] := by decide +kernel

/-- R31, R108: the held line migrates and is taken as it arrives, CLOSE comes before OPEN, and the chart's key is this station's. -/
theorem test_split_clear : (after .splitClear splitting).alignment.migration = [] ∧
    (after .splitClear splitting).lineTable.queue.map (fun w => (w.kind, w.target, w.frees)) = [(.composite, 0, some 4)] ∧
    (after .splitClear splitting).link.openClose.length = 2 ∧
    ((after .splitClear splitting).record? 0).map ChartRecord.key = some ⟨0, 0⟩ := by decide +kernel

/-- R39, R145: the queued write goes into shadow entry 0. -/
theorem test_freeze_redirects : (after (.freezeCarriedOut 0) freezingRedirect).hold 0 = .frozen ∧
    (after (.freezeCarriedOut 0) freezingRedirect).lineTable.queue.map (fun w => (w.kind, w.target)) = [(.pool, 0)] ∧
    ((after (.freezeCarriedOut 0) freezingRedirect).shadow? 0 3).map Prod.fst = some 0 := by decide +kernel

/-- As `freezingRedirect`, its write no match for the composite, with a READ_LINES of the slot that waits for it. -/
def freezingRead : State :=
  { freezingRedirect with
    slots := [(0, { record := record, entries := [(3, { oldEntry with pending := some 200 })], rows := [] })]
    port := { Port.reset with read := some { slot := 0, first := 3, count := 1, asked := 1 } } }

/-- R33, R39, R180: the freeze cancels the last write that the read awaits, and its LINES response stands before the freeze's. -/
theorem test_cancelled_write_makes_read_due : (after (.freezeCarriedOut 0) freezingRead).port.read = none ∧
    (after (.freezeCarriedOut 0) freezingRead).port.queue.map Response.kind = [0x81, 0x83] ∧
    (after (.freezeCarriedOut 0) freezingRead).lineTable.queue = [] := by decide +kernel

/-- R49, R61: the TALLY goes before the HAIL. -/
theorem test_transmit_start : (after .transmitStart (linked waitingLink)).link.attempt = some .tally ∧
    (after .transmitStart (linked waitingLink)).link.transmitter = .arbitrating := by decide +kernel

/-- R62: the third fault drops the frame and posts LINE_FAULT. -/
theorem test_third_fault :
    (after .collisionFault (attemptingWith .tally (fun l => { l with tally := [aTally 2] }))).link.tally = [] ∧
    (after .collisionFault (attemptingWith .tally (fun l => { l with tally := [aTally 2] }))).attention.events =
      [⟨.lineFault, 0⟩] := by decide +kernel

/-- R46: a TALLY of one line has 12 bytes: 109 bit times. -/
theorem test_frame_sent : (after .frameSent (attemptingWith .tally (fun l => { l with tally := [aTally 0] }))).now = 109 ∧
    (after .frameSent (attemptingWith .tally (fun l => { l with tally := [aTally 0] }))).link.tally = [] := by decide +kernel

/-- R74: MUTE is set, STATION_CONFLICT is posted. -/
theorem test_own_number : (after (.ownNumberFrame ownWord) (linked idleLink)).link.mute = true ∧
    (after (.ownNumberFrame ownWord) (linked idleLink)).attention.events = [⟨.stationConflict, 0⟩] := by decide +kernel

/-- R66, R67: the sender is LIVE for 6 s from the end of its 7 bytes, 64 bit times. -/
theorem test_hail : Sparse.find (after (.hailReceived hailWord) (taking running)).roster.peers 1 =
    some { state := .live, lossDeadline := some 6000064
           lastHail := some { width := 1, rate := 2, boundKey := some ⟨3, 0x25⟩ } } := by decide +kernel

/-- R86, R92: its only contributor gone, the chart closes with STOP and close order 1. -/
theorem test_close : ((after (.closeReceived closeWord) (taking (withRecord record))).record? 0).map
      (fun r => (r.state, r.closeReason, r.closeOrder, r.highest)) = some (.closed, some .stop, some 1, some 2047) := by
  decide +kernel

/-- R115, R118: station 1 holds line 2047, and its line is asked for. -/
theorem test_tally : ((after (.tallyReceived tallyWord) (taking (withRecord record))).slot? 0).map
      (fun sl => (sl.row 2047).best) = some (some ⟨1, 200⟩) ∧
    (after (.tallyReceived tallyWord) (taking (withRecord record))).fetch.fetches.map (fun e => (e.target, e.line)) =
      [(1, 2047)] := by decide +kernel

/-- R126: an unknown chart is declined. -/
theorem test_ask : (after (.askReceived askWord) (taking running)).link.askDecline =
    [QueuedFrame.fresh (.decline { key := key, line := 7, requester := 1, reason := .unknownChart })] := by decide +kernel

/-- R123, R125: a BUSY retires the fetch and defers the line for 550 ms from the end of the frame, 91 bit times. -/
theorem test_decline : (after (.declineReceived declineWord) (fetching .awaitingFirst)).fetch.fetches = [] ∧
    ((after (.declineReceived declineWord) (fetching .awaitingFirst)).slot? 0).map (fun sl => (sl.row 7).deferral) =
      some (some 550091) := by decide +kernel

/-- R68, R86, R134: the peer is LOST, its contribution ended, the fetch retired with an attempt. -/
theorem test_loss : ((after (.lossTimerExpiry 1) (losing [aFetch .receiving none])).record? 0).map ChartRecord.contributors =
      some [⟨0, none⟩, ⟨1, some .loss⟩] ∧
    ((after (.lossTimerExpiry 1) (losing [aFetch .receiving none])).slot? 0).map (fun sl => (sl.row 7).attempts) = some 1 ∧
    (after (.lossTimerExpiry 1) (losing [aFetch .receiving none])).now = 6000000 := by decide +kernel

/-- R113: after 8 s of 1 s periods the age is 7, the most a TALLY carries. -/
theorem test_batch : (after .batchTimerExpiry (batching false 0 false)).link.tally =
    [QueuedFrame.fresh (.tally { key := key, first := 2040, age := 7, entries := [{ grade := 200, fingerprint := 0 }] })] := by
  decide +kernel

/-- R181, R143: a freeze of a quiet slot is answered at once: kind 83, three bytes, request 03, OK. -/
theorem test_freeze : (after (.freeze 0) (withRecord record)).hold 0 = .frozen ∧
    (after (.freeze 0) (withRecord record)).port.queue.map Response.bytes = [[0x83, 0, 3, 0x03, 0, 0]] := by decide +kernel

/-- R180: a read of a slot not in use answers LINES with BAD_SLOT and no item. -/
theorem test_read_lines_bad_slot : (after (.readLines 2 0x0102 1) running).port.queue.map Response.bytes =
    [[0x81, 0, 5, 0x01, 2, 0x01, 0x02, 0]] := by decide +kernel

/-- R168, R172: the promoted PEER_JOINED comes before LINE_FAULT at level 6. -/
theorem test_take : (after (.take 6) eventful).port.queue.map Response.bytes = [[0x84, 0, 4, 0x06, 0, 0x0E, 3]] ∧
    (after (.take 6) eventful).attention.events = [⟨.lineFault, 0⟩] := by decide +kernel

/-- R170: 7 is clamped to 6 and answered. -/
theorem test_set_mask : (after (.setMask 7) running).attention.mask = 6 ∧
    (after (.setMask 7) running).port.queue.map Response.bytes = [[0x83, 0, 3, 0x08, 0, 6]] := by decide +kernel

/-- R171: the second kind names a level-7 kind, so the whole request is refused. -/
theorem test_promote : (after (.promote 3 2) running).attention.promotions = [] ∧
    (after (.promote 3 2) running).port.queue.map Response.bytes = [[0x83, 0, 3, 0x09, 6, 0]] := by decide +kernel

/-- R179: JOINED as station 0, three slots, the roster's own place C0 00 00 first. -/
theorem test_status : ((after .status running).port.queue.map Response.bytes).map (List.take 15) =
    [[0x85, 0, 33, 0x10, 0, 0, 0, 0, 0, 3, 0, 0, 0xC0, 0, 0]] := by decide +kernel

/-- R177, R182: the head's first bytes are clocked out after READY, zeros after its end. -/
theorem test_read_transfer : (after (.readTransfer ⟨0x02, 7⟩) (threeFormed running)).port.clockedOut =
      [0x01, 0x83, 0, 3, 0x09, 0, 0, 0] ∧
    (after (.readTransfer ⟨0x02, 7⟩) (threeFormed running)).port.queue.length = 2 := by decide +kernel

/-- R177: a transfer whose first byte is neither 01 nor 02 clocks out zeros after READY, and the queue stands. -/
theorem test_ignored_transfer : (after (.readTransfer ⟨0x03, 2⟩) (threeFormed running)).port.clockedOut = [0x01, 0, 0] ∧
    (after (.readTransfer ⟨0x03, 2⟩) (threeFormed running)).port.queue.length = 3 := by decide +kernel

/-- R16: a STOP tone confirmed at the sample that ends the 16th faded line leaves the reception for it to end. -/
theorem test_tone_outlives_fade : (after .imageLineEnd { stopping with
      reception := { stopping.reception with endDue := true, fadeCount := 15, binding := none } }).reception.state = .image := by
  decide +kernel

/-- The transmitter after a step on an empty queue. -/
def transmitterAt (now : Nat) : Option Transmitter :=
  match step { linked (attempting .tally) with now := now } with
  | .next t => some t.link.transmitter
  | _ => none

/-- R50: the start bit and byte 0 take 9 bit times, and ARBITRATION_LOST then acts no more. -/
theorem test_sending : transmitterAt 7 = some .arbitrating ∧ transmitterAt 8 = some .sending ∧
    after (.arbitrationLost 6) (linked { attempting .tally with transmitter := .sending }) =
      linked { attempting .tally with transmitter := .sending } := by decide +kernel

/-- R72: a HAIL timer handled late runs on from its deadline. -/
theorem test_hail_timer : (after .hailTimerExpiry { running with
      now := 2000040, roster := { Roster.reset with state := .joined, hailDeadline := some 2000000 } }).roster.hailDeadline =
    some 4000000 := by decide +kernel

/-- R47: a frame cut short of the length it announces, with no dominant resync bit, is no frame that ends. -/
theorem test_short_frame_is_ill_formed : (Instr.receiveFrameDiscarded [0x84, 0x03, 0x00] false).wellFormed = false ∧
    (Instr.receiveFrameDiscarded [0x84, 0x03, 0x00] true).wellFormed = true := by decide +kernel

/-- R177: a request written while the port reads FULL is ignored. -/
theorem test_full_port : (after .poll full).port.queue = full.port.queue ∧ (after .poll full).port.clockedOut = [0x02, 0] := by
  decide +kernel

end Sys2Proof.Tests
end

section
/-!
PROOF. The load of a state: the lengths and counts that the manual bounds, and how far each operation lets them grow.
-/
namespace Sys2Proof.Machine

/-! ## The load -/

/-- All that the bounds of R19, R28, R55 to R57, R119, R126, R128, R167, R170, R171 and R178 speak of. -/
structure Load where
  writes : Nat
  buffers : Nat
  fetches : Nat
  timers : Nat
  bodies : Nat
  openClose : Nat
  askDecline : Nat
  tally : Nat
  promotions : Nat
  mask : Nat
  places : Nat
  events : List Event

/-- The load of a state: formed messages and held places count together (R178). -/
def State.load (s : State) : Load where
  writes := s.lineTable.queue.length
  buffers := s.reception.buffers.length
  fetches := s.fetch.fetches.length
  timers := s.fetch.timers.length
  bodies := s.fetch.bodies.length
  openClose := s.link.openClose.length
  askDecline := s.link.askDecline.length
  tally := s.link.tally.length
  promotions := s.attention.promotions.length
  mask := s.attention.mask
  places := s.port.queue.length + s.placesHeld
  events := s.attention.events

/-- From `a` to `b` the write queue grows by at most `w`, the places by at most `p`, and every other bound is kept. -/
structure Load.Grows (w p : Nat) (a b : Load) : Prop where
  writes : b.writes ≤ a.writes + w
  buffers : a.buffers ≤ 2 → b.buffers ≤ 2
  fetches : a.fetches ≤ 4 → b.fetches ≤ 4
  timers : a.timers ≤ 4 → b.timers ≤ 4
  bodies : a.bodies ≤ 2 → b.bodies ≤ 2
  openClose : a.openClose ≤ 4 → b.openClose ≤ 4
  askDecline : a.askDecline ≤ 8 → b.askDecline ≤ 8
  tally : a.tally ≤ 4 → b.tally ≤ 4
  promotions : a.promotions ≤ 2 → b.promotions ≤ 2
  mask : a.mask ≤ 6 → b.mask ≤ 6
  places : b.places ≤ a.places + p
  events : a.events.Pairwise (fun x y => x.before y = true) → b.events.Pairwise (fun x y => x.before y = true)

/-- `t` is reached from `s` with at most `w` writes and `p` places more. -/
abbrev State.Grows (w p : Nat) (s t : State) : Prop := Load.Grows w p s.load t.load

variable {s t u : State} {w p w' p' : Nat}

theorem Load.Grows.trans {a b c : Load} (h : Load.Grows w p a b) (k : Load.Grows w' p' b c) :
    Load.Grows (w + w') (p + p') a c where
  writes := by have := h.writes; have := k.writes; omega
  buffers := k.buffers ∘ h.buffers
  fetches := k.fetches ∘ h.fetches
  timers := k.timers ∘ h.timers
  bodies := k.bodies ∘ h.bodies
  openClose := k.openClose ∘ h.openClose
  askDecline := k.askDecline ∘ h.askDecline
  tally := k.tally ∘ h.tally
  promotions := k.promotions ∘ h.promotions
  mask := k.mask ∘ h.mask
  places := by have := h.places; have := k.places; omega
  events := k.events ∘ h.events

/-- A smaller growth is a greater one. -/
theorem Load.Grows.weaken {a b : Load} (h : Load.Grows w p a b) (hw : w ≤ w') (hp : p ≤ p') : Load.Grows w' p' a b :=
  { h with
    writes := by have := h.writes; omega
    places := by have := h.places; omega }

/-- What leaves the load as it was lets nothing grow. -/
theorem State.Grows.of_load (h : t.load = s.load) : s.Grows 0 0 t := by
  unfold State.Grows
  rw [h]
  exact ⟨Nat.le_refl _, id, id, id, id, id, id, id, id, id, Nat.le_refl _, id⟩

theorem State.Grows.refl (s : State) : s.Grows 0 0 s := .of_load rfl

/-- What follows a growth and leaves the load as it is grows no further. -/
theorem Load.Grows.same (h : s.Grows w p t) (k : u.load = t.load) : s.Grows w p u := h.trans (State.Grows.of_load k)

/-! ## Parts of the state that the load looks at -/

/-- The station link's queues keep their bounds from `l` to `m` (R55 to R57). -/
structure Link.KeepsPlaces (l m : Link) : Prop where
  openClose : l.openClose.length ≤ 4 → m.openClose.length ≤ 4
  askDecline : l.askDecline.length ≤ 8 → m.askDecline.length ≤ 8
  tally : l.tally.length ≤ 4 → m.tally.length ≤ 4

theorem Link.KeepsPlaces.trans {l m n : Link} (h : l.KeepsPlaces m) (k : m.KeepsPlaces n) : l.KeepsPlaces n :=
  ⟨k.openClose ∘ h.openClose, k.askDecline ∘ h.askDecline, k.tally ∘ h.tally⟩

/-- What leaves the three bounded queues keeps their bounds. -/
theorem Link.KeepsPlaces.of_same {l m : Link} (h1 : m.openClose = l.openClose) (h2 : m.askDecline = l.askDecline)
    (h3 : m.tally = l.tally) : l.KeepsPlaces m := by
  constructor <;> simp only [h1, h2, h3] <;> exact id

theorem Link.KeepsPlaces.refl (l : Link) : l.KeepsPlaces l := .of_same rfl rfl rfl

/-- A change of the link alone that keeps its queues' bounds lets nothing grow. -/
theorem State.grows_link {l : Link} (h : s.link.KeepsPlaces l) : s.Grows 0 0 { s with link := l } :=
  { State.Grows.refl s with openClose := h.openClose, askDecline := h.askDecline, tally := h.tally }

/-- A change of the FETCH UNIT alone that makes none of its lists longer lets nothing grow. -/
theorem State.grows_fetch {f : Fetch} (h1 : f.fetches.length ≤ s.fetch.fetches.length)
    (h2 : f.timers.length ≤ s.fetch.timers.length) (h3 : f.bodies.length ≤ s.fetch.bodies.length) :
    s.Grows 0 0 { s with fetch := f } :=
  { State.Grows.refl s with
    fetches := fun h => Nat.le_trans h1 h
    timers := fun h => Nat.le_trans h2 h
    bodies := fun h => Nat.le_trans h3 h }

/-- The freezes that wait in a list of requests (R178). -/
def freezesIn (l : List QuietRequest) : Nat :=
  (l.filterMap (fun r => match r with
    | .freeze c => some c
    | .splitClear _ => none)).length

theorem State.placesHeld_eq (s : State) :
    s.placesHeld = s.port.read.toList.length + freezesIn s.lineTable.requests := by
  unfold State.placesHeld
  cases s.port.read <;> rfl

theorem freezesIn_filter_le (f : QuietRequest → Bool) (l : List QuietRequest) : freezesIn (l.filter f) ≤ freezesIn l :=
  (List.filter_sublist.filterMap _).length_le

/-- A list that loses a freeze holds one place fewer at least. -/
theorem freezesIn_filter_lt (f : QuietRequest → Bool) (c : Nat) (hf : f (.freeze c) = false) (l : List QuietRequest)
    (h : QuietRequest.freeze c ∈ l) : freezesIn (l.filter f) + 1 ≤ freezesIn l := by
  induction l with
  | nil => simp at h
  | cons q t ih =>
    rcases List.mem_cons.1 h with rfl | h
    · have := freezesIn_filter_le f t
      simpa [hf, freezesIn] using this
    · have := ih h
      cases hq : f q <;> cases q <;> simp only [List.filter_cons, hq, freezesIn] at this ⊢ <;> simp at this ⊢ <;> omega

theorem freezesIn_append (l m : List QuietRequest) : freezesIn (l ++ m) = freezesIn l + freezesIn m := by
  simp [freezesIn]

/-- A change of the LINE TABLE alone that makes neither its queue longer nor more freezes wait lets nothing grow. -/
theorem State.grows_lineTable {l : LineTable} (h1 : l.queue.length ≤ s.lineTable.queue.length)
    (h2 : freezesIn l.requests ≤ freezesIn s.lineTable.requests) : s.Grows 0 0 { s with lineTable := l } :=
  { State.Grows.refl s with
    writes := h1
    places := by
      show s.port.queue.length + ((if s.port.read.isSome then 1 else 0) + freezesIn l.requests) ≤
        s.port.queue.length + ((if s.port.read.isSome then 1 else 0) + freezesIn s.lineTable.requests)
      omega }

/-- A change of the RECEPTION UNIT alone lets nothing grow where it keeps the line buffers within two. -/
theorem State.grows_reception {f : Reception → Reception}
    (h : s.reception.buffers.length ≤ 2 → (f s.reception).buffers.length ≤ 2) : s.Grows 0 0 (s.modifyReception f) :=
  { State.Grows.refl s with buffers := h }

/-! ## Updates that leave the load as it was -/

@[simp] theorem State.modifySlot_load (s : State) (c : Nat) (f : Slot → Slot) : (s.modifySlot c f).load = s.load := rfl
@[simp] theorem State.modifyRecord_load (s : State) (c : Nat) (f : ChartRecord → ChartRecord) :
    (s.modifyRecord c f).load = s.load := rfl
@[simp] theorem State.modifyEntry_load (s : State) (c n : Nat) (f : LineEntry → LineEntry) :
    (s.modifyEntry c n f).load = s.load := rfl
@[simp] theorem State.modifyRow_load (s : State) (c n : Nat) (f : HolderRow → HolderRow) :
    (s.modifyRow c n f).load = s.load := rfl
@[simp] theorem State.setHold_load (s : State) (c : Nat) (h : Hold) : (s.setHold c h).load = s.load := rfl
@[simp] theorem State.putPool_load (s : State) (n : Nat) (e : PoolEntry) : (s.putPool n e).load = s.load := rfl
@[simp] theorem State.modifyPool_load (s : State) (n : Nat) (f : PoolEntry → PoolEntry) :
    (s.modifyPool n f).load = s.load := rfl
@[simp] theorem State.setBatch_load (s : State) (b : Option Batch) : (s.setBatch b).load = s.load := rfl
@[simp] theorem State.setContext_load (s : State) (n : Nat) (c : Option Context) : (s.setContext n c).load = s.load := rfl
@[simp] theorem State.storeWrite_load (s : State) (x : Write) : (s.storeWrite x).load = s.load := rfl
@[simp] theorem State.reach_load (s : State) (d : Nat) : (s.reach d).load = s.load := rfl
@[simp] theorem State.elapse_load (s : State) (d : Nat) : (s.elapse d).load = s.load := rfl
@[simp] theorem State.withPending_load (s : State) (l : List Instr) : (s.withPending l).load = s.load := rfl
@[simp] theorem State.enterSending_load (s : State) : s.enterSending.load = s.load := rfl
@[simp] theorem State.tick_load (s : State) : s.tick.load = s.load := rfl
@[simp] theorem State.arrive_load (s : State) (l : List Byte) : (s.arrive l).load = s.load := rfl
@[simp] theorem State.setRosterEntry_load (s : State) (q : Station) (e : RosterEntry) :
    (s.setRosterEntry q e).load = s.load := rfl
@[simp] theorem State.setAlignment_load (s : State) (a : Alignment) : { s with alignment := a }.load = s.load := rfl
@[simp] theorem State.setSlots_load (s : State) (l : List (Nat × Slot)) : { s with slots := l }.load = s.load := rfl
@[simp] theorem State.setStore_load (s : State) (o : Option ProvisionalStore) :
    { s with lineTable := { s.lineTable with store := o } }.load = s.load := rfl
@[simp] theorem State.setConfig_load (s : State) (c : Configuration) : { s with config := c }.load = s.load := rfl
@[simp] theorem State.setNow_load (s : State) (n : Nat) : { s with now := n }.load = s.load := rfl
@[simp] theorem State.interruptWrite_load (s : State) (x : Write) : (s.interruptWrite x).load = s.load := rfl
@[simp] theorem State.removeSlot_load (s : State) (c o : Nat) : (s.removeSlot c o).load = s.load := rfl
@[simp] theorem State.rekeyBodies_load (s : State) (c : Nat) (k : Key) : (s.rekeyBodies c k).load = s.load := rfl
@[simp] theorem State.clearOwnOpens_load (s : State) : s.clearOwnOpens.load = s.load := rfl
@[simp] theorem State.clockOut_load (s : State) (l : List Byte) : (s.clockOut l).load = s.load := rfl
@[simp] theorem State.settlePendingGrades_load (s : State) (c : Nat) : (s.settlePendingGrades c).load = s.load := rfl

@[simp] theorem State.unmerge_load (s : State) (l : List Nat) : (s.unmerge l).load = s.load := by
  induction l generalizing s with
  | nil => rfl
  | cons n l ih => exact ih _

@[simp] theorem State.startNext_load (s : State) : s.startNext.load = s.load := by
  unfold State.startNext
  split
  · rename_i h; simp [State.load, State.placesHeld_eq, h]
  · rename_i h
    split
    · rfl
    · simp [State.load, State.placesHeld_eq, h]

@[simp] theorem State.cutWrite_load (s : State) : s.cutWrite.load = s.load := by
  unfold State.cutWrite
  split
  · split <;> rfl
  · rfl

@[simp] theorem State.settleMigration_load (s : State) : s.settleMigration.load = s.load := by
  unfold State.settleMigration; split <;> rfl

@[simp] theorem State.releaseAlignment_load (s : State) (c : Nat) : (s.releaseAlignment c).load = s.load := by
  unfold State.releaseAlignment; split <;> rfl

@[simp] theorem State.releasePool_load (s : State) (c : Nat) : (s.releasePool c).load = s.load := by
  unfold State.releasePool; dsimp only; split <;> rfl

@[simp] theorem State.wakeTransmitter_load (s : State) : s.wakeTransmitter.load = s.load := by
  unfold State.wakeTransmitter; split <;> rfl

@[simp] theorem State.ownOpenNotice_load (s : State) (k : Key) : (s.ownOpenNotice k).load = s.load := by
  unfold State.ownOpenNotice; split <;> rfl

@[simp] theorem State.freePool_load (s : State) (n : Nat) : (s.freePool n).load = s.load := by
  simp [State.load, State.placesHeld_eq]

@[simp] theorem State.freePools_load (s : State) (l : List Nat) : (s.freePools l).load = s.load := by
  induction l generalizing s with
  | nil => rfl
  | cons n l ih => exact (ih _).trans (s.freePool_load n)

@[simp] theorem State.freeNamed_load (s : State) (n : Option Nat) : (s.freeNamed n).load = s.load := by
  cases n with
  | none => rfl
  | some n => exact s.freePool_load n

@[simp] theorem State.rejectCandidate_load (s : State) (c : Candidate) : (s.rejectCandidate c).load = s.load :=
  s.freeNamed_load _

/-- The link's segments and whether a body's are formed are not of the load (R59). -/
@[simp] theorem State.formSegments_load (s : State) : s.formSegments.load = s.load := by
  unfold State.formSegments
  split
  · rename_i h
    split
    · simp [State.load, State.placesHeld_eq, h]
    · rfl
  · rfl

theorem State.assignShadow_load {c n e : Nat} (h : s.assignShadow c n = some (e, t)) : t.load = s.load := by
  unfold State.assignShadow at h
  split at h
  · cases h; rfl
  · split at h
    · cases h; rfl
    · cases h

end Sys2Proof.Machine
end

section
/-!
PROOF. How far the blocks' shared operations let the load grow, in the order of their definitions: events, the link's queues, the
write queue and its candidates, reads, fetches, and releases.
-/
namespace Sys2Proof.Machine

variable {s t u : State} {w p : Nat}

/-! ## Events and responses (R167, R174, R178) -/

theorem State.post_grows (s : State) (k : EventKind) (n : Nat) : s.Grows 0 0 (s.post k n) :=
  { State.Grows.refl s with events := pairwise_insertEvent _ _ }

theorem State.removeSlotEvents_grows (s : State) (c : Nat) : s.Grows 0 0 (s.removeSlotEvents c) :=
  { State.Grows.refl s with events := fun h => h.filter _ }

theorem State.respond_grows (s : State) (r : Response) : s.Grows 0 1 (s.respond r) :=
  { State.Grows.refl s with
    places := by
      show (s.port.queue ++ [r]).length + s.placesHeld ≤ s.port.queue.length + s.placesHeld + 1
      simp; omega }

/-- A growth goes on through a post. -/
theorem Load.Grows.post (h : s.Grows w p t) (k : EventKind) (n : Nat) : s.Grows w p (t.post k n) :=
  h.trans (t.post_grows k n)

/-! ## The link's queues (R54 to R58, R60) -/

theorem removeFirst_length {α : Type} {f : α → Bool} {l m : List α} (h : removeFirst f l = some m) :
    m.length + 1 = l.length := by
  induction l generalizing m with
  | nil => simp [removeFirst] at h
  | cons x t ih =>
    simp only [removeFirst] at h
    split at h
    · cases h; rfl
    · obtain ⟨r, hr, rfl⟩ := Option.map_eq_some_iff.1 h
      simp [ih hr]

theorem displaceOldest_length {f : QueuedFrame → Bool} {b : Bool} {l m : List QueuedFrame}
    (h : displaceOldest f b l = some m) : m.length + 1 = l.length := by
  unfold displaceOldest at h
  split at h
  · split at h
    · cases h
    · obtain ⟨r, hr, rfl⟩ := Option.map_eq_some_iff.1 h
      simp [removeFirst_length hr]
  · exact removeFirst_length h

/-- A frame that joins a queue leaves it within its places (R55, R56). -/
theorem joinQueue_length {n : Nat} {f : QueuedFrame → Bool} {b : Bool} {l m : List QueuedFrame} {x : Payload}
    (h : joinQueue n f b l x = some m) (hl : l.length ≤ n) : m.length ≤ n := by
  unfold joinQueue at h
  split at h
  · cases h; simp; omega
  · obtain ⟨r, hr, rfl⟩ := Option.map_eq_some_iff.1 h
    have := displaceOldest_length hr
    simp; omega

theorem withdrawFrom_length (f : QueuedFrame → Bool) (b : Bool) (l : List QueuedFrame) :
    (withdrawFrom f b l).length ≤ l.length := by
  unfold withdrawFrom
  split
  · split
    · simp
    · simpa using List.length_filter_le _ _
  · exact List.length_filter_le _ _

theorem Link.queueOpenClose_keeps {l m : Link} {x : Payload} (h : l.queueOpenClose x = some m) : l.KeepsPlaces m := by
  unfold Link.queueOpenClose at h
  split at h
  · cases h
  · obtain ⟨q, hq, rfl⟩ := Option.map_eq_some_iff.1 h
    exact { Link.KeepsPlaces.refl l with openClose := joinQueue_length hq }

theorem Link.queueAsk_keeps {l m : Link} {a : Ask} (h : l.queueAsk a = some m) : l.KeepsPlaces m := by
  unfold Link.queueAsk at h
  split at h
  · cases h
  · obtain ⟨q, hq, rfl⟩ := Option.map_eq_some_iff.1 h
    exact { Link.KeepsPlaces.refl l with askDecline := joinQueue_length hq }

theorem Link.queueTally_keeps {l m : Link} {x : Tally} (h : l.queueTally x = some m) : l.KeepsPlaces m := by
  unfold Link.queueTally at h
  split at h
  · cases h
    exact { Link.KeepsPlaces.refl l with tally := fun _ => by simp; omega }
  · cases h

theorem Link.queueDecline_keeps (l : Link) (d : Decline) : l.KeepsPlaces (l.queueDecline d) := by
  unfold Link.queueDecline
  split
  · exact .refl l
  · split
    · exact { Link.KeepsPlaces.refl l with askDecline := fun _ => by simp; omega }
    · exact .refl l

theorem Link.queueHail_keeps (l : Link) (h : Hail) : l.KeepsPlaces (l.queueHail h) := by
  unfold Link.queueHail
  split
  · exact .refl l
  · split <;> exact .of_same rfl rfl rfl

theorem Link.withdrawAsk_keeps (l : Link) (k : Key) (n : Nat) : l.KeepsPlaces (l.withdrawAsk k n) :=
  { Link.KeepsPlaces.refl l with askDecline := Nat.le_trans (withdrawFrom_length _ _ _) }

theorem Link.withdrawOpen_keeps (l : Link) (k : Key) : l.KeepsPlaces (l.withdrawOpen k) :=
  { Link.KeepsPlaces.refl l with openClose := Nat.le_trans (withdrawFrom_length _ _ _) }

theorem Link.replaceHead_keeps (l : Link) (c : FrameClass) (new : List QueuedFrame) (hn : new.length ≤ 1) :
    l.KeepsPlaces (l.replaceHead c new) := by
  have room : ∀ (q : List QueuedFrame) (n : Nat), 1 ≤ n → q.length ≤ n → (new ++ q.drop 1).length ≤ n := by
    intro q n h1 h2; simp; omega
  cases c with
  | openClose => exact { Link.KeepsPlaces.refl l with openClose := room _ _ (by omega) }
  | askDecline => exact { Link.KeepsPlaces.refl l with askDecline := room _ _ (by omega) }
  | tally => exact { Link.KeepsPlaces.refl l with tally := room _ _ (by omega) }
  | body => exact .of_same rfl rfl rfl
  | hail =>
    unfold Link.replaceHead
    dsimp only
    split <;> exact .of_same rfl rfl rfl

theorem Link.endAttempt_keeps (l : Link) : l.KeepsPlaces l.endAttempt := .of_same rfl rfl rfl

theorem Link.start_keeps (l : Link) (now : Nat) : l.KeepsPlaces (l.start now) := by
  unfold Link.start; split <;> exact .of_same rfl rfl rfl

theorem Link.lose_keeps (l : Link) : l.KeepsPlaces l.lose := by
  unfold Link.lose
  split
  · exact (l.replaceHead_keeps _ _ (by split <;> simp)).trans (Link.endAttempt_keeps _)
  · exact .refl l

/-! ## The record's frames (R80, R82, R91) and the batch (R113) -/

theorem State.queueOpenClose_grows (s : State) (x : Payload) : s.Grows 0 0 (s.queueOpenClose x) := by
  unfold State.queueOpenClose
  split
  · rename_i h; exact State.grows_link (Link.queueOpenClose_keeps h)
  · exact .refl s

theorem State.queueOwnOpen_grows (s : State) (c : Nat) (split : Bool) : s.Grows 0 0 (s.queueOwnOpen c split) := by
  unfold State.queueOwnOpen
  split
  · split
    · rename_i h; exact (State.grows_link (Link.queueOpenClose_keeps h)).same (State.modifyRecord_load _ _ _)
    · exact .of_load rfl
  · exact .refl s

theorem State.closingTest_grows (s : State) (c : Nat) : s.Grows 0 0 (s.closingTest c) := by
  unfold State.closingTest
  split
  · split
    · exact (State.Grows.of_load (State.modifyRecord_load _ _ _)).post _ _
    · exact .refl s
  · exact .refl s

theorem State.closingTests_grows (s : State) (l : List Nat) : s.Grows 0 0 (s.closingTests l) := by
  induction l generalizing s with
  | nil => exact .refl s
  | cons c l ih => exact (s.closingTest_grows c).trans (ih _)

theorem State.queueBatch_grows (s : State) : s.Grows 0 0 s.queueBatch := by
  unfold State.queueBatch
  split
  · exact .refl s
  · split
    · exact .of_load rfl
    · split
      · exact .of_load rfl
      · split
        · rename_i h; exact (State.grows_link (Link.queueTally_keeps h)).same (State.setBatch_load _ _)
        · exact .of_load rfl

theorem State.tallyLine_grows (s : State) (c n g : Nat) (fp : Fingerprint) : s.Grows 0 0 (s.tallyLine c n g fp) := by
  unfold State.tallyLine
  split
  · exact .of_load rfl
  · dsimp only
    split
    · split
      · exact .of_load rfl
      · exact .refl s
    · split
      · split
        · exact (State.Grows.of_load (State.setBatch_load _ _)).trans (State.queueBatch_grows _)
        · exact .of_load rfl
      · split
        · exact s.queueBatch_grows.same (State.setBatch_load _ _)
        · exact s.queueBatch_grows

theorem State.tallyCandidate_grows (s : State) (c : Candidate) : s.Grows 0 0 (s.tallyCandidate c) := by
  unfold State.tallyCandidate
  split
  · exact s.tallyLine_grows _ _ _ _
  · exact .refl s

/-! ## The write queue (R26, R28) and the candidates for it (R24 to R31) -/

theorem State.queueWrite_grows (s : State) (x : Write) : s.Grows 1 0 (s.queueWrite x) := by
  have h : s.Grows 1 0 { s with lineTable := { s.lineTable with
      queue := s.lineTable.queue ++ [{ x with order := s.lineTable.nextOrder }]
      nextOrder := s.lineTable.nextOrder + 1 } } :=
    { State.Grows.refl s with writes := by show (s.lineTable.queue ++ [_]).length ≤ _; simp [State.load] }
  exact h.same (State.startNext_load _)

theorem State.cancelWrites_grows (s : State) (f : Write → Bool) : s.Grows 0 0 (s.cancelWrites f) := by
  obtain ⟨m, i, h, -⟩ := s.cancelWrites_eq f
  rw [h]
  have h1 : s.Grows 0 0 { s with lineTable := { s.lineTable with
      queue := s.lineTable.queue.filter (fun w => !f w)
      started := s.lineTable.started && s.lineTable.queue.head?.any (fun w => !f w) } } :=
    State.grows_lineTable (List.length_filter_le _ _) (Nat.le_refl _)
  exact h1.same rfl

theorem State.freeAndCancel_grows (s : State) (l : List Nat) : s.Grows 0 0 (s.freeAndCancel l) :=
  (s.cancelWrites_grows _).same (State.freePools_load _ _)

theorem State.thawEnd_grows (s : State) (c : Nat) : s.Grows 0 0 (s.thawEnd c) := by
  unfold State.thawEnd
  split
  · exact (State.Grows.of_load (State.setHold_load _ _ _)).post _ _
  · exact .refl s

theorem State.acceptCandidate_grows (s : State) (c : Candidate) : s.Grows 1 0 (s.acceptCandidate c) :=
  ((s.queueWrite_grows _).same (State.modifyEntry_load _ _ _ _)).trans (State.tallyCandidate_grows _ c)

theorem State.holdCandidate_grows (s : State) (c : Candidate) (shadow : Option Nat) : s.Grows 1 0 (s.holdCandidate c shadow) := by
  unfold State.holdCandidate
  split
  · split
    · rename_i h
      have assigned : s.Grows 0 0 _ := .of_load (State.assignShadow_load h)
      exact ((assigned.same (State.modifyPool_load _ _ _)).trans (State.queueWrite_grows _ _)).trans
        (State.tallyCandidate_grows _ c)
    · exact ((s.post_grows _ _).same (State.rejectCandidate_load _ _)).weaken (by omega) (by omega)
  · exact (State.Grows.of_load (State.rejectCandidate_load _ _)).weaken (by omega) (by omega)

/-- A candidate's taking queues one write at most (R24 to R27). -/
theorem State.takeCandidate_grows (s : State) (c : Candidate) : s.Grows 1 0 (s.takeCandidate c) := by
  have rejected : s.Grows 1 0 (s.rejectCandidate c) :=
    (State.Grows.of_load (State.rejectCandidate_load _ _)).weaken (by omega) (by omega)
  unfold State.takeCandidate
  split
  · exact rejected
  · split
    · exact s.holdCandidate_grows _ _
    · split
      · exact s.acceptCandidate_grows c
      · exact rejected

theorem State.queueStore_grows (s : State) (st : ProvisionalStore) : s.Grows 1 0 (s.queueStore st) :=
  (State.Grows.of_load (State.modifyPool_load _ _ _)).trans (State.queueWrite_grows _ _)

theorem State.takeMerge_grows (s : State) (n : Nat) (e : PoolEntry) : s.Grows 1 0 (s.takeMerge n e) :=
  ((State.Grows.of_load (State.modifyPool_load _ _ _)).trans (State.queueWrite_grows _ _)).same
    (State.modifyEntry_load _ _ _ _)

theorem State.takeBody_grows (s : State) (n : Nat) (c : Context) (k : Nat) : s.Grows 1 0 (s.takeBody n c k) := by
  unfold State.takeBody
  dsimp only
  split
  · split
    · have left : s.Grows 0 0 { s with
          fetch := { s.fetch with contexts := Sparse.erase s.fetch.contexts n }
          lineTable := { s.lineTable with lastServed := Fin.ofNat 8 n } } := .of_load rfl
      exact left.trans (State.takeCandidate_grows _ _)
    · exact (State.Grows.of_load rfl).weaken (by omega) (by omega)
  · exact (State.Grows.of_load rfl).weaken (by omega) (by omega)

theorem State.takeMigration_grows (s : State) (c : Nat) (h : HeldLine) (n : Nat) : s.Grows 1 0 (s.takeMigration c h n) := by
  unfold State.takeMigration
  have dropped : s.Grows 0 0 { s with alignment := { s.alignment with migration := s.alignment.migration.drop 1 } } :=
    .of_load rfl
  exact (dropped.trans (State.takeCandidate_grows _ _)).same (State.settleMigration_load _)

/-- Of the waiting candidates one is taken, which queues one write at most (R31). -/
theorem State.takeNext_grows (s : State) : s.Grows 1 0 s.takeNext := by
  unfold State.takeNext
  split
  · have emptied : s.Grows 0 0 { s with lineTable := { s.lineTable with store := none } } := .of_load rfl
    exact emptied.trans (State.queueStore_grows _ _)
  · split
    · rename_i rest h
      have taken : s.Grows 0 0 (s.modifyReception (fun r => { r with buffers := rest })) :=
        State.grows_reception (fun hb => by rw [h, List.length_cons] at hb; exact Nat.le_of_succ_le hb)
      exact taken.trans (State.takeCandidate_grows _ _)
    · split
      · exact s.takeBody_grows _ _ _
      · split
        · exact s.takeMigration_grows _ _ _
        · split
          · exact s.takeMerge_grows _ _
          · exact (State.Grows.refl s).weaken (by omega) (by omega)

/-! ## Reads and completions (R29, R30, R33) -/

/-- A read that is made gives up the place it held to its response (R178). -/
theorem State.makeRead_grows (s : State) : s.Grows 0 0 s.makeRead := by
  unfold State.makeRead
  split
  · rename_i r h
    exact { State.Grows.refl s with
      places := by simp [State.load, State.respond, State.placesHeld_eq, h]; omega }
  · exact .refl s

theorem State.makeDueReads_grows (s : State) : s.Grows 0 0 s.makeDueReads := by
  unfold State.makeDueReads
  have snapshots : ∀ x : State, x.Grows 0 0
      { x with fetch := { x.fetch with bodies := x.withSnapshots x.snapshotDue x.fetch.bodies } } := fun x =>
    State.grows_fetch (Nat.le_refl _) (Nat.le_refl _) (by simp [State.withSnapshots])
  dsimp only
  split
  · exact (s.makeRead_grows.trans (snapshots _)).same (State.formSegments_load _)
  · exact (snapshots _).same (State.formSegments_load _)

theorem State.popWrite_grows (s : State) : s.Grows 0 0 s.popWrite :=
  State.grows_lineTable (by simp) (Nat.le_refl _)

theorem State.completeComposite_grows (s : State) (x : Write) : s.Grows 0 0 (s.completeComposite x) := by
  unfold State.completeComposite
  have stored : s.Grows 0 0 (((s.popWrite).storeWrite x).modifyEntry x.slot x.target (fun e => e.completed x)) :=
    s.popWrite_grows.same rfl
  exact ((((stored.same (State.freeNamed_load _ _)).post _ _).same (State.modifyRecord_load _ _ _)).trans
    (State.thawEnd_grows _ _)).same (State.startNext_load _)

theorem State.completePool_grows (s : State) (x : Write) : s.Grows 0 0 (s.completePool x) := by
  unfold State.completePool
  have stored : s.Grows 0 0 ((s.popWrite).storeWrite x) := s.popWrite_grows.same rfl
  dsimp only
  split
  · exact (stored.same (State.freeNamed_load _ _)).same (State.startNext_load _)
  · exact ((stored.same (State.modifyPool_load _ _ _)).same (State.freeNamed_load _ _)).same (State.startNext_load _)

/-! ## Fetches, bodies and fallback timers (R117 to R128, R135) -/

theorem State.retire_grows (s : State) (e : FetchEntry) : s.Grows 0 0 (s.retire e) := by
  unfold State.retire
  have left : s.Grows 0 0 { s with fetch := { s.fetch with fetches := s.fetch.fetches.filter (fun x => x != e) } } :=
    State.grows_fetch (List.length_filter_le _ _) (Nat.le_refl _) (Nat.le_refl _)
  split
  · exact left.trans (State.grows_link (Link.withdrawAsk_keeps _ _ _))
  · exact left

theorem State.retireAll_grows (s : State) (counted : Bool) (l : List FetchEntry) : s.Grows 0 0 (s.retireAll counted l) := by
  induction l generalizing s with
  | nil => exact .refl s
  | cons e l ih =>
    simp only [State.retireAll]
    split
    · exact ((s.retire_grows e).same (State.modifyRow_load _ _ _ _)).trans (ih _)
    · exact (s.retire_grows e).trans (ih _)

theorem State.retireWhere_grows (s : State) (f : FetchEntry → Bool) (counted : Bool) :
    s.Grows 0 0 (s.retireWhere f counted) := s.retireAll_grows _ _

theorem State.updateFetch_grows (s : State) (e new : FetchEntry) : s.Grows 0 0 (s.updateFetch e new) :=
  State.grows_fetch (by simp) (Nat.le_refl _) (Nat.le_refl _)

theorem State.cancelTimers_grows (s : State) (f : FallbackTimer → Bool) : s.Grows 0 0 (s.cancelTimers f) :=
  State.grows_fetch (Nat.le_refl _) (List.length_filter_le _ _) (Nat.le_refl _)

/-- A line is eligible only while the fetch list has a place (R117). -/
theorem State.eligible_fetches {c n : Nat} {r : ChartRecord} {row : HolderRow} {b : Holder}
    (h : s.eligible c r n row = some b) : s.fetch.fetches.length < 4 := by
  unfold State.eligible at h
  split at h
  · split at h
    · rename_i hc; simp at hc; omega
    · cases h
  · cases h

theorem State.nextEligible_fetches {x : Nat × ChartRecord × Nat × HolderRow × Holder} (h : s.nextEligible = some x) :
    s.fetch.fetches.length < 4 := by
  obtain ⟨a, -, ha⟩ := List.exists_of_findSome?_eq_some h
  obtain ⟨b, -, hb⟩ := List.exists_of_findSome?_eq_some ha
  obtain ⟨y, hy, -⟩ := Option.map_eq_some_iff.1 hb
  exact State.eligible_fetches hy

theorem State.issueAsk_grows (s : State) (c : Nat) (r : ChartRecord) (n : Nat) (row : HolderRow) (b : Holder)
    (h : s.fetch.fetches.length < 4) : s.Grows 0 0 (s.issueAsk c r n row b) := by
  unfold State.issueAsk
  dsimp only
  split
  · rename_i hl
    exact { State.grows_link (Link.queueAsk_keeps hl) with
      fetches := fun _ => by simp [State.load]; omega }
  · exact .refl s

theorem State.issueAsksUpTo_grows (s : State) (k : Nat) : s.Grows 0 0 (s.issueAsksUpTo k) := by
  induction k generalizing s with
  | zero => exact .refl s
  | succ k ih =>
    unfold State.issueAsksUpTo
    split
    · rename_i h; exact (s.issueAsk_grows _ _ _ _ _ (State.nextEligible_fetches h)).trans (ih _)
    · exact .refl s

/-- What follows every event at once keeps the bounds (R49, R118). -/
theorem State.settle_grows (s : State) : s.Grows 0 0 s.settle :=
  ((s.issueAsksUpTo_grows 4).same (State.wakeTransmitter_load _)).same (State.enterSending_load _)

theorem State.dropBody_grows (s : State) (i : Nat) : s.Grows 0 0 (s.dropBody i) := by
  have left : s.Grows 0 0 { s with fetch := { s.fetch with bodies := s.fetch.bodies.eraseIdx i } } :=
    State.grows_fetch (Nat.le_refl _) (Nat.le_refl _) (List.eraseIdx_sublist _ _).length_le
  exact left.same (State.formSegments_load _)

theorem State.withdrawBodies_grows (s : State) (c : Nat) : s.Grows 0 0 (s.withdrawBodies c) := by
  unfold State.withdrawBodies
  have left : ∀ x : State, x.Grows 0 0
      { x with fetch := { x.fetch with bodies := x.fetch.bodies.filter (fun b => b.slot != c) } } := fun x =>
    State.grows_fetch (Nat.le_refl _) (Nat.le_refl _) (List.length_filter_le _ _)
  dsimp only
  split
  · exact ((left s).trans (State.grows_link (l := s.link.withdrawSegments) (.of_same rfl rfl rfl))).same
      (State.formSegments_load _)
  · exact (left s).same (State.formSegments_load _)

theorem State.declineTo_grows (s : State) (k : Key) (n : Nat) (r : Station) (x : DeclineReason) :
    s.Grows 0 0 (s.declineTo k n r x) := State.grows_link (Link.queueDecline_keeps _ _)

theorem State.queueBody_grows (s : State) (c : Nat) (k : Key) (n : Nat) (r : Station) (h : s.fetch.bodies.length < 2) :
    s.Grows 0 0 (s.queueBody c k n r) := by
  have queued : ∀ b : SendBody, s.Grows 0 0 { s with fetch := { s.fetch with bodies := s.fetch.bodies ++ [b] } } :=
    fun b => { State.Grows.refl s with bodies := fun _ => by simp [State.load]; omega }
  exact (queued _).same (State.formSegments_load _)

theorem State.serve_grows (s : State) (k : Key) (n : Nat) (r : Station) : s.Grows 0 0 (s.serve k n r) := by
  unfold State.serve
  split
  · exact .refl s
  · split
    · exact s.declineTo_grows _ _ _ _
    · split
      · exact s.declineTo_grows _ _ _ _
      · split
        · exact .refl s
        · split
          · exact s.declineTo_grows _ _ _ _
          · split
            · exact s.declineTo_grows _ _ _ _
            · exact s.queueBody_grows _ _ _ _ (by omega)

theorem State.startFallback_grows (s : State) (a : Ask) (r : Station) : s.Grows 0 0 (s.startFallback a r) := by
  unfold State.startFallback
  dsimp only
  split
  · exact .refl s
  · split
    · exact State.grows_fetch (Nat.le_refl _) (by simp) (Nat.le_refl _)
    · split
      · exact { State.Grows.refl s with timers := fun _ => by simp [State.load]; omega }
      · exact .refl s

theorem State.segmentZeroHeard_grows (s : State) (st : Station) (b : Segment) (h : BodyHeader) :
    s.Grows 0 0 (s.segmentZeroHeard st b h) := by
  unfold State.segmentZeroHeard
  dsimp only
  split
  · split
    · exact (s.cancelTimers_grows _).trans (State.updateFetch_grows _ _ _)
    · exact s.cancelTimers_grows _
  · exact s.cancelTimers_grows _

/-! ## Releases and creation (R40, R77 to R79, R95, R135) -/

theorem State.releaseFetch_grows (s : State) (c : Nat) (k : Key) : s.Grows 0 0 (s.releaseFetch c k) := by
  unfold State.releaseFetch
  have h : s.Grows 0 0 (((s.retireWhere (fun e => e.slot = c) false).cancelTimers (fun t => t.key == k)).withdrawBodies c) :=
    ((s.retireWhere_grows _ _).trans (State.cancelTimers_grows _ _)).trans (State.withdrawBodies_grows _ _)
  dsimp only
  split
  · exact (h.same (State.setBatch_load _ none)).trans (State.Grows.of_load rfl)
  · exact h.same rfl

end Sys2Proof.Machine
end

section
/-!
PROOF. How far the larger operations let the load grow: the release of a slot, the creation of a chart, the split, the freeze and
the end of a reception.
-/
namespace Sys2Proof.Machine

variable {s t u : State} {w p : Nat}

/-! ## Reads leave the LINE TABLE as it is -/

theorem State.formSegments_lineTable (s : State) : s.formSegments.lineTable = s.lineTable := by
  unfold State.formSegments
  split
  · split <;> rfl
  · rfl

theorem State.makeRead_lineTable (s : State) : s.makeRead.lineTable = s.lineTable := by
  unfold State.makeRead; split <;> rfl

theorem State.makeDueReads_lineTable (s : State) : s.makeDueReads.lineTable = s.lineTable := by
  unfold State.makeDueReads
  rw [State.formSegments_lineTable]
  dsimp only
  split
  · exact s.makeRead_lineTable
  · rfl

/-! ## A freeze that is answered gives up its place (R142, R178) -/

theorem State.mem_waitingFreezes (s : State) (c : Nat) :
    c ∈ s.waitingFreezes ↔ QuietRequest.freeze c ∈ s.lineTable.requests := by
  unfold State.waitingFreezes
  rw [List.mem_filterMap]
  constructor
  · rintro ⟨q, hq, h⟩
    cases q with
    | freeze d => cases h; exact hq
    | splitClear d => cases h
  · exact fun h => ⟨_, h, rfl⟩

/-- A response takes the place that was given up for it. -/
theorem Load.Grows.answered (h : s.Grows w 0 t) (hp : t.load.places + 1 ≤ s.load.places) (r : Response) :
    s.Grows w 0 (t.respond r) :=
  { h.trans (t.respond_grows r) with places := by have := (t.respond_grows r).places; omega }

/-! ## The release of a slot (R40, R95) -/

/-- The LINE TABLE's part of a release lets nothing grow, and gives up the place of a freeze that waits for the slot. -/
theorem State.releaseLines_grows (s : State) (c : Nat) : s.Grows 0 0 (s.releaseLines c) ∧
    (c ∈ s.waitingFreezes → (s.releaseLines c).load.places + 1 ≤ s.load.places) := by
  unfold State.releaseLines
  have forgotten : ∀ x : State, x.lineTable = s.lineTable → s.Grows 0 0 x → ∀ y, y = { x with
      lineTable := { x.lineTable with
        requests := x.lineTable.requests.filter (fun q => q != QuietRequest.splitClear c && q != QuietRequest.freeze c) }
      reception := { x.reception with buffers := x.reception.buffers.filter (fun b => b.slot != c) } } →
      s.Grows 0 0 (y.cancelWrites (fun w => w.slot = c)) ∧
        (c ∈ s.waitingFreezes → (y.cancelWrites (fun w => w.slot = c)).load.places + 1 ≤ s.load.places) := by
    rintro x hx h y rfl
    have buffers : x.Grows 0 0
        (x.modifyReception (fun r => { r with buffers := r.buffers.filter (fun b => b.slot != c) })) :=
      State.grows_reception (Nat.le_trans (List.length_filter_le _ _))
    have requests := (h.trans buffers).trans (State.grows_lineTable (l := { x.lineTable with
      requests := x.lineTable.requests.filter (fun q => q != QuietRequest.splitClear c && q != QuietRequest.freeze c) })
      (Nat.le_refl _) (freezesIn_filter_le _ _))
    refine ⟨requests.trans (State.cancelWrites_grows _ _), fun hc => ?_⟩
    have hlt := freezesIn_filter_lt (fun q => q != QuietRequest.splitClear c && q != QuietRequest.freeze c) c (by simp)
      s.lineTable.requests ((s.mem_waitingFreezes c).1 hc)
    refine Nat.le_trans (Nat.succ_le_succ (State.cancelWrites_grows _ _).places) ?_
    have := h.places
    simp only [State.load, State.placesHeld_eq, hx] at this hlt ⊢
    omega
  dsimp only
  split
  · exact forgotten s.makeRead s.makeRead_lineTable s.makeRead_grows _ rfl
  · exact forgotten s rfl (.refl s) _ rfl

/-- A release lets nothing grow: a LINES response and a BAD_SLOT answer take the places that their requests held. -/
theorem State.releaseSlot_grows (s : State) (c : Nat) : s.Grows 0 0 (s.releaseSlot c) := by
  unfold State.releaseSlot
  split
  · exact .refl s
  · rename_i r _
    obtain ⟨lines, given⟩ := s.releaseLines_grows c
    have rest : (s.releaseLines c).Grows 0 0 ((((((s.releaseLines c).releaseFetch c r.key).releaseAlignment c).releasePool
        c).removeSlot c (r.closeOrder.getD 0)).removeSlotEvents c) :=
      ((((State.releaseFetch_grows _ _ _).same (State.releaseAlignment_load _ _)).same (State.releasePool_load _ _)).same
        (State.removeSlot_load _ _ _)).trans (State.removeSlotEvents_grows _ _)
    refine Load.Grows.same ?_ (State.startNext_load _)
    split
    · rename_i hc
      have := rest.places
      have := given (by simpa using hc)
      exact (lines.trans rest).answered (by omega) _
    · exact lines.trans rest

/-! ## Creation and a reception's request (R77 to R81, R98) -/

theorem State.allocate_grows {c : Nat} (h : s.allocate = some (c, t)) : s.Grows 0 0 t := by
  unfold State.allocate at h
  dsimp only at h
  split at h
  · cases h; exact .refl _
  · obtain ⟨d, -, hd⟩ := Option.map_eq_some_iff.1 h
    cases hd
    exact s.releaseSlot_grows _

theorem State.create_grows (s : State) (r : ChartRecord) : s.Grows 0 0 (s.create r).2 := by
  unfold State.create
  split
  · rename_i h; exact ((State.allocate_grows h).same rfl).post _ _
  · exact s.post_grows _ _

theorem State.originKey_grows (s : State) : s.Grows 0 0 s.originKey.2 := by
  unfold State.originKey
  dsimp only
  split
  · exact (s.releaseSlot_grows _).same rfl
  · exact .of_load rfl

theorem State.originate_grows (s : State) (late : Bool) : s.Grows 0 0 (s.originate late).2 := by
  unfold State.originate
  dsimp only
  split
  · rename_i h
    have created := State.create_grows s.originKey.2 { s.originKey.2.newRecord s.originKey.1 with
      offset := some 0, bound := true, late := late, contributors := [{ station := s.originKey.2.self, ended := none }] }
    rw [h] at created
    exact (s.originKey_grows.trans created).trans (State.queueOwnOpen_grows _ _ _)
  · rename_i h
    have created := State.create_grows s.originKey.2 { s.originKey.2.newRecord s.originKey.1 with
      offset := some 0, bound := true, late := late, contributors := [{ station := s.originKey.2.self, ended := none }] }
    rw [h] at created
    exact s.originKey_grows.trans created

theorem State.takeUp_grows (s : State) (c : Nat) (k : Key) (e : Nat) : s.Grows 0 0 (s.takeUp c k e) := by
  unfold State.takeUp
  exact ((s.retireWhere_grows _ _).same (State.setAlignment_load _ _)).same (State.freePools_load _ _)

theorem State.bind_grows (s : State) (c e : Nat) (late : Bool) : s.Grows 0 0 (s.bind c e late) := by
  unfold State.bind
  split
  · exact (State.Grows.of_load (State.modifyRecord_load _ _ _)).trans (State.takeUp_grows _ _ _ _)
  · exact .refl s

theorem State.requestStarted_grows (s : State) : s.Grows 0 0 s.requestStarted.2 := by
  unfold State.requestStarted
  split
  · exact s.bind_grows _ _ _
  · exact s.originate_grows _

theorem State.requestLate_grows (s : State) (n : Nat) : s.Grows 0 0 (s.requestLate n).2 := by
  unfold State.requestLate
  split
  · exact s.bind_grows _ _ _
  · exact s.originate_grows _

/-! ## Alignment (R101 to R109) -/

theorem State.acceptOffset_grows (s : State) (c : Nat) (d : Int) : s.Grows 0 0 (s.acceptOffset c d) := by
  unfold State.acceptOffset
  exact ((((State.Grows.of_load (State.modifyRecord_load s c _)).post .chartAligned c).same
    (State.setAlignment_load _ _)).same (State.freePools_load _ _)).same (State.settleMigration_load _)

theorem State.askSplit_grows (s : State) (c : Nat) : s.Grows 0 0 (s.askSplit c) := by
  have asked : s.Grows 0 0 { s with
      lineTable := { s.lineTable with requests := s.lineTable.requests ++ [.splitClear c] } } :=
    State.grows_lineTable (Nat.le_refl _) (by rw [freezesIn_append]; rfl)
  exact asked.same rfl

theorem State.evaluate_grows (s : State) : s.Grows 0 0 s.evaluate := by
  unfold State.evaluate State.alignDecision
  split
  · split
    · split
      · split
        · exact s.acceptOffset_grows _ _
        · exact s.askSplit_grows _
      · exact s.askSplit_grows _
    · exact .refl s
  · exact .refl s

theorem State.alignTally_grows (s : State) (st : Station) (x : Tally) : s.Grows 0 0 (s.alignTally st x) := by
  unfold State.alignTally
  split
  · dsimp only
    split
    · exact (State.Grows.of_load (State.setAlignment_load s _)).trans (State.evaluate_grows _)
    · exact .of_load rfl
  · exact .refl s

theorem State.dropStore_grows (s : State) (st : ProvisionalStore) : s.Grows 0 0 (s.dropStore st) :=
  .of_load (State.freePool_load _ _)

theorem State.abandon_grows (s : State) (c : Nat) : s.Grows 0 0 (s.abandon c) := by
  unfold State.abandon
  have withdrawn : s.Grows 0 0 { s with
      lineTable := { s.lineTable with requests := s.lineTable.requests.filter (fun q => q != QuietRequest.splitClear c) } } :=
    State.grows_lineTable (Nat.le_refl _) (freezesIn_filter_le _ _)
  have idle : s.Grows 0 0 { s with
      lineTable := { s.lineTable with requests := s.lineTable.requests.filter (fun q => q != QuietRequest.splitClear c) }
      alignment := Alignment.reset } := withdrawn.same rfl
  exact (((idle.trans (State.freeAndCancel_grows _ _)).same (State.modifyRecord_load _ _ _)).post _ _).same
    (State.startNext_load _)

/-! ## What the directory hears (R83 to R87, R91) -/

theorem State.endReport_grows (s : State) (c : Nat) (reason : CloseReason) : s.Grows 0 0 (s.endReport c reason) := by
  unfold State.endReport
  split
  · exact .refl s
  · refine Load.Grows.trans ?_ (State.closingTest_grows _ _)
    rename_i r _
    have closed : s.Grows 0 0 ((s.modifyRecord c (fun r => { r with
        bound := false, contributors := contributorEnds s.self .close r.contributors
        lastCloseReason := some reason })).queueOpenClose
          (.chartClose { key := r.key, reason := reason, lastLine := r.lastOwn })) :=
      (State.Grows.of_load (State.modifyRecord_load _ _ _)).trans (State.queueOpenClose_grows _ _)
    split <;> split
    · exact (closed.trans (State.abandon_grows _ _)).trans (State.queueBatch_grows _)
    · exact closed.trans (State.abandon_grows _ _)
    · exact closed.trans (State.queueBatch_grows _)
    · exact closed

theorem State.rekey_grows (s : State) (c : Nat) (r : ChartRecord) (o : ChartOpen) (st : Station) :
    s.Grows 0 0 (s.rekey c r o st) := by
  unfold State.rekey
  exact (((State.grows_link (s.link.withdrawOpen_keeps r.key)).same (State.modifyRecord_load _ _ _)).same
    (State.rekeyBodies_load _ _ _)).trans (State.takeUp_grows _ _ _ _)

theorem State.openUnknown_grows (s : State) (st : Station) (o : ChartOpen) : s.Grows 0 0 (s.openUnknown st o) := by
  unfold State.openUnknown
  split
  · exact s.rekey_grows _ _ _ _
  · exact s.create_grows _

theorem State.openHeard_grows (s : State) (st : Station) (o : ChartOpen) : s.Grows 0 0 (s.openHeard st o) := by
  unfold State.openHeard
  split
  · exact .refl s
  · split
    · exact s.openUnknown_grows _ _
    · dsimp only
      split
      · split
        · exact .of_load rfl
        · split
          · exact .of_load rfl
          · split
            · exact (s.releaseSlot_grows _).trans (State.openUnknown_grows _ _ _)
            · exact .refl s
      · exact .refl s

theorem State.closeHeard_grows (s : State) (st : Station) (f : ChartClose) : s.Grows 0 0 (s.closeHeard st f) := by
  unfold State.closeHeard
  split
  · exact .refl s
  · split
    · exact .refl s
    · dsimp only
      split
      · exact Load.Grows.same (State.Grows.of_load (State.modifyRecord_load _ _ _)) (State.modifyRecord_load _ _ _) |>.trans
          (State.closingTest_grows _ _)
      · exact .of_load rfl

theorem State.tallyHeard_load (s : State) (st : Station) (x : Tally) : (s.tallyHeard st x).load = s.load := by
  unfold State.tallyHeard; split <;> rfl

theorem State.peerLost_grows (s : State) (st : Station) : s.Grows 0 0 (s.peerLost st) := by
  unfold State.peerLost
  exact (State.Grows.of_load (State.setSlots_load s _)).trans (State.closingTests_grows _ _)

/-! ## The split and the freeze (R38, R39, R108, R143) -/

theorem State.clearPeerLines_grows (s : State) (c : Nat) : s.Grows 0 0 (s.clearPeerLines c) := by
  unfold State.clearPeerLines
  have cancelled : s.Grows 0 0 { s with
      lineTable := { s.lineTable with queue := s.lineTable.queue.filter (fun w => !s.splitCancels c w) } } :=
    State.grows_lineTable (List.length_filter_le _ _) (Nat.le_refl _)
  exact (((cancelled.same (State.modifySlot_load _ _ _)).same (State.settlePendingGrades_load _ _)).same
    (State.unmerge_load _ _)).same (State.freePools_load _ _)

theorem State.clearPeerShadows_grows (s : State) (c : Nat) : s.Grows 0 0 (s.clearPeerShadows c) :=
  (s.freeAndCancel_grows _).trans (State.thawEnd_grows _ _)

theorem State.splitRecord_grows (s : State) (c : Nat) (k : Key) : s.Grows 0 0 (s.splitRecord c k) := by
  unfold State.splitRecord
  dsimp only
  exact (((s.originKey_grows.same (State.modifySlot_load _ _ _)).trans (State.queueOpenClose_grows _ _)).trans
    (State.queueOwnOpen_grows _ _ _)).post _ _

theorem State.carryOutSplit_grows (s : State) (c : Nat) : s.Grows 0 0 (s.carryOutSplit c) := by
  unfold State.carryOutSplit
  split
  · exact .refl s
  · rename_i r _
    have taken : s.Grows 0 0 { s with lineTable := { s.lineTable with
        requests := s.lineTable.requests.filter (fun q => q != QuietRequest.splitClear c) } } :=
      State.grows_lineTable (Nat.le_refl _) (freezesIn_filter_le _ _)
    have cleared := (taken.trans (State.clearPeerLines_grows _ c)).trans (State.makeDueReads_grows _)
    have emptied := (cleared.same (State.modifySlot_load _ c (fun sl => { sl with rows := [] }))).trans
      (State.cancelTimers_grows _ (fun t => t.key == r.key))
    have posted := ((emptied.trans (State.clearPeerShadows_grows _ c)).trans (State.splitRecord_grows _ c r.key)).post .alignSplit c
    exact ((posted.same (State.setAlignment_load _ _)).same (State.settleMigration_load _)).same (State.startNext_load _)

theorem State.keepWrite_grows (s : State) (x : Write) : s.Grows 1 0 (s.keepWrite x) :=
  { State.Grows.refl s with writes := by simp [State.load] }

/-- A freeze keeps a queued write in its place or drops it (R39). -/
theorem State.redirectWrite_grows (s : State) (c : Nat) (x : Write) : s.Grows 1 0 (s.redirectWrite c x) := by
  have dropped : ∀ {y : State}, s.Grows 0 0 y → s.Grows 1 0 y := fun h => h.weaken (by omega) (by omega)
  unfold State.redirectWrite
  split
  · exact s.keepWrite_grows x
  · split
    · exact dropped (.of_load (State.unmerge_load _ _))
    · dsimp only
      split
      · split
        · rename_i h
          have assigned := State.Grows.of_load (State.assignShadow_load h)
          exact (assigned.same (State.modifyPool_load _ _ _)).trans (State.keepWrite_grows _ _)
        · exact dropped ((s.post_grows _ _).same (State.freeNamed_load _ _))
      · exact dropped (.of_load (State.freeNamed_load _ _))

theorem State.makeReadsAmong_grows (s : State) (l : List Write) : s.Grows 0 0 (s.makeReadsAmong l) := by
  unfold State.makeReadsAmong
  have h := State.makeDueReads_grows { s with lineTable := { s.lineTable with queue := s.lineTable.queue ++ l } }
  have hl := State.makeDueReads_lineTable { s with lineTable := { s.lineTable with queue := s.lineTable.queue ++ l } }
  have hp := h.places
  simp only [State.load, State.placesHeld_eq, hl] at hp
  exact { h with
    writes := Nat.le_refl _
    places := by simp only [State.load, State.placesHeld_eq]; omega }

theorem State.redirectWrites_grows (s : State) (c : Nat) (l : List Write) : s.Grows l.length 0 (s.redirectWrites c l) := by
  induction l generalizing s with
  | nil => exact .refl s
  | cons x l ih =>
    exact (((s.redirectWrite_grows c x).trans (State.makeReadsAmong_grows _ l)).trans (ih _)).weaken
      (by simp; omega) (by omega)

/-- A freeze that waited is carried out: its queue is gone through anew, its answer takes the place it held (R39, R143, R178). -/
theorem State.carryOutFreeze_grows (s : State) (c : Nat) (h : QuietRequest.freeze c ∈ s.lineTable.requests) :
    s.Grows 0 0 (s.carryOutFreeze c) := by
  unfold State.carryOutFreeze
  have emptied : s.Grows 0 0 { s with lineTable := { s.lineTable with
      requests := s.lineTable.requests.filter (fun q => q != QuietRequest.freeze c), queue := [] } } :=
    State.grows_lineTable (by simp) (freezesIn_filter_le _ _)
  have redirected := (State.Grows.of_load (State.modifySlot_load { s with lineTable := { s.lineTable with
      requests := s.lineTable.requests.filter (fun q => q != QuietRequest.freeze c), queue := [] } } c Slot.dropPending)).trans
    (State.redirectWrites_grows _ c s.lineTable.queue)
  have held : s.Grows 0 0 _ := { emptied.trans redirected with
    writes := by have := redirected.writes; simpa [State.load] using this }
  have hlt := freezesIn_filter_lt (fun q => q != QuietRequest.freeze c) c (by simp) _ h
  have given := redirected.places
  refine Load.Grows.same ?_ (State.startNext_load _)
  refine (held.same (State.setHold_load _ c .frozen)).answered ?_ _
  refine Nat.le_trans (Nat.succ_le_succ given) ?_
  simp only [State.load, State.placesHeld_eq]
  omega

theorem State.carryOut_grows (s : State) (q : QuietRequest) : s.Grows 0 0 (s.carryOut q) := by
  unfold State.carryOut
  split
  · rename_i h
    cases q with
    | splitClear c =>
      dsimp only
      split
      · exact s.carryOutSplit_grows c
      · exact .refl s
    | freeze c =>
      dsimp only
      split
      · exact s.carryOutFreeze_grows c h
      · exact .refl s
  · exact .refl s

theorem State.carryOutAll_grows (s : State) (l : List QuietRequest) : s.Grows 0 0 (s.carryOutAll l) := by
  induction l generalizing s with
  | nil => exact .refl s
  | cons q l ih => exact ((s.carryOut_grows q).trans (State.makeDueReads_grows _)).trans (ih _)

/-- What the LINE TABLE owes is done without any table growing (R33, R37). -/
theorem State.takeDueSteps_grows (s : State) : s.Grows 0 0 s.takeDueSteps :=
  s.makeDueReads_grows.trans (State.carryOutAll_grows _ _)

/-! ## The ends and starts of receptions (R9, R13, R16, R17) -/

theorem State.endReception_grows (s : State) (reason : CloseReason) : s.Grows 0 0 (s.endReception reason) := by
  have ended : s.Grows 0 0 (s.modifyReception Reception.ended) := State.grows_reception id
  unfold State.endReception
  split
  · exact ended.trans (State.endReport_grows _ _ _)
  · exact ended

theorem State.startReception_grows (s : State) : s.Grows 0 0 s.startReception := by
  unfold State.startReception
  dsimp only
  exact (Load.Grows.trans (State.grows_reception (s := s) id) (State.requestStarted_grows _)).trans (State.grows_reception id)

theorem State.lengthTest_grows (s : State) : s.Grows 0 0 s.lengthTest := by
  unfold State.lengthTest
  split
  · exact s.endReception_grows _
  · exact .refl s

theorem State.enterImage_grows (s : State) (o : Nat) : s.Grows 0 0 (s.enterImage o) := by
  unfold State.enterImage
  dsimp only
  split
  · exact (State.grows_reception (s := s) id).trans (State.lengthTest_grows _)
  · exact State.grows_reception id

theorem State.lateEntry_grows (s : State) : s.Grows 0 0 s.lateEntry := by
  unfold State.lateEntry
  dsimp only
  exact (((State.grows_reception (s := s) id).trans (State.requestLate_grows _ _)).trans (State.grows_reception id)).trans
    (State.enterImage_grows _ _)

end Sys2Proof.Machine
end

section
/-!
PROOF. Every step keeps the bounds: what each command does to the load, and the statement BoundsAreKept.
-/
namespace Sys2Proof.Machine

/-! ## What is kept -/

/-- From `s` to `t` the bounds, the places and the distinctness of the pending set are kept. -/
structure State.Keeps (s t : State) : Prop where
  bounds : s.WithinBounds → t.WithinBounds
  places : s.PlacesBounded → t.PlacesBounded
  events : s.EventsDistinct → t.EventsDistinct

variable {s t u : State} {w p : Nat}

theorem State.Keeps.refl (s : State) : s.Keeps s := ⟨id, id, id⟩

theorem State.Keeps.trans (h : s.Keeps t) (k : t.Keeps u) : s.Keeps u :=
  ⟨k.bounds ∘ h.bounds, k.places ∘ h.places, k.events ∘ h.events⟩

/-- A growth for which the write queue and the places have room keeps everything. -/
theorem Load.Grows.keeps_of_room (h : s.Grows w p t) (hw : w = 0 ∨ s.lineTable.queue.length + w ≤ 4)
    (hp : p = 0 ∨ s.port.queue.length + s.placesHeld + p ≤ 4) : s.Keeps t where
  bounds b :=
    { writes := by
        have h1 : t.lineTable.queue.length ≤ s.lineTable.queue.length + w := h.writes
        have h2 := b.writes
        omega
      buffers := h.buffers b.buffers
      fetches := h.fetches b.fetches
      timers := h.timers b.timers
      bodies := h.bodies b.bodies
      openClose := h.openClose b.openClose
      askDecline := h.askDecline b.askDecline
      tally := h.tally b.tally
      promotions := h.promotions b.promotions
      mask := h.mask b.mask }
  places b := by
    have h1 : t.port.queue.length + t.placesHeld ≤ s.port.queue.length + s.placesHeld + p := h.places
    have h2 : s.port.queue.length + s.placesHeld ≤ 4 := b
    unfold State.PlacesBounded
    omega
  events := h.events

theorem Load.Grows.keeps (h : s.Grows 0 0 t) : s.Keeps t := h.keeps_of_room (.inl rfl) (.inl rfl)

/-- A write that is queued while a place is free keeps the bounds (R28). -/
theorem Load.Grows.keeps_of_writePlace (h : s.Grows 1 0 t) (hq : s.writePlaceFree = true) : s.Keeps t :=
  h.keeps_of_room (.inr (by simpa [State.writePlaceFree] using hq)) (.inl rfl)

/-- A request that is taken while the port reads READY keeps the bounds (R177). -/
theorem Load.Grows.keeps_of_ready (h : s.Grows 0 1 t) (hr : s.portReady = true) : s.Keeps t :=
  h.keeps_of_room (.inl rfl) (.inr (by simp [State.portReady] at hr; omega))

/-- What follows every event at once is kept too. -/
theorem State.Keeps.settle (h : s.Keeps t) : s.Keeps t.settle := h.trans t.settle_grows.keeps

/-- Of two steps, each of which keeps, either keeps. -/
theorem State.Keeps.iteElse {c : Prop} [Decidable c] (h : s.Keeps t) (k : s.Keeps u) : s.Keeps (if c then t else u) := by
  split
  · exact h
  · exact k

/-- A step that is taken only where it is due keeps what it keeps. -/
theorem State.Keeps.ite {c : Prop} [Decidable c] (h : s.Keeps t) : s.Keeps (if c then t else s) := h.iteElse (.refl s)

theorem State.whenCan_keeps {b : Bool} {f : State → State} (h : b = true → s.Keeps (f s)) : s.Keeps (s.whenCan b f) := by
  unfold State.whenCan
  split
  · rename_i hb; exact h hb
  · exact .refl s

theorem State.whenRunning_keeps {f : State → State} (h : s.Keeps (f s)) : s.Keeps (s.whenRunning f) := by
  unfold State.whenRunning
  split
  · exact h
  · exact .refl s

/-! ## Lines and candidates that arrive (R19, R30, R31, R99) -/

theorem State.takeArrival_keeps (s : State) (waited : Bool) : s.Keeps (s.takeArrival waited) := by
  unfold State.takeArrival
  split
  · rename_i h
    simp only [Bool.and_eq_true] at h
    exact (s.takeDueSteps_grows.trans (State.takeNext_grows _)).keeps_of_writePlace h.1.2
  · exact .refl s

theorem State.handStore_keeps (s : State) (st : ProvisionalStore) : s.Keeps (s.handStore st) := by
  unfold State.handStore
  split
  · rename_i h
    exact (s.queueStore_grows st).keeps_of_writePlace (by simp only [Bool.and_eq_true] at h; exact h.1)
  · dsimp only
    split
    · exact ((s.dropStore_grows _).same (State.setStore_load _ _)).keeps
    · exact (State.Grows.of_load (State.setStore_load _ _)).keeps

theorem State.alignLine_keeps (s : State) (c n g : Nat) (fp : Fingerprint) (x : Pixels) :
    s.Keeps (s.alignLine c n g fp x) := by
  have held : ∀ y : State, y.Keeps (y.holdLine c n g fp x) := by
    intro y
    unfold State.holdLine
    split
    · split
      · exact ((State.Grows.of_load (State.putPool_load _ _ _)).same (State.setAlignment_load _ _)).keeps.trans
          (State.handStore_keeps _ _)
      · exact .refl y
    · exact .refl y
  unfold State.alignLine
  split
  · exact ((State.Grows.of_load (State.setAlignment_load s _)).keeps.trans (held _)).trans (State.evaluate_grows _).keeps
  · exact .refl s

theorem joinBuffers_length (l : List BufferedLine) (b : BufferedLine) (h : l.length ≤ 2) : (joinBuffers l b).length ≤ 2 := by
  unfold joinBuffers
  split <;> simp <;> omega

theorem State.offerOwnLine_keeps (s : State) (b : BufferedLine) : s.Keeps (s.offerOwnLine b) := by
  unfold State.offerOwnLine
  refine s.takeDueSteps_grows.keeps.trans ?_
  dsimp only
  split
  · rename_i h
    simp only [Bool.and_eq_true] at h
    exact (State.takeCandidate_grows _ _).keeps_of_writePlace h.1.2
  · exact (State.grows_reception (joinBuffers_length _ b)).keeps

theorem State.reportOwnLine_load (s : State) (c : Nat) (n : Option Nat) : (s.reportOwnLine c n).load = s.load := rfl

theorem State.handOn_keeps (s : State) (l : FinishedLine) : s.Keeps (s.handOn l) := by
  unfold State.handOn
  split
  · exact .refl s
  · split
    · exact .refl s
    · split
      · exact (State.Grows.of_load (State.reportOwnLine_load _ _ _)).keeps.trans (State.alignLine_keeps _ _ _ _ _ _)
      · split
        · exact .refl s
        · split
          · exact (State.Grows.of_load (State.reportOwnLine_load _ _ _)).keeps.trans (State.offerOwnLine_keeps _ _)
          · exact .refl s

theorem State.splitAtOnce_grows (s : State) : s.Grows 0 0 s.splitAtOnce := by
  unfold State.splitAtOnce
  split
  · split
    · exact s.makeDueReads_grows.trans (State.carryOutSplit_grows _ _)
    · exact .refl s
  · exact .refl s

theorem State.bodyComplete_keeps (s : State) (st : Station) (c : Context) (k : Nat) : s.Keeps (s.bodyComplete st c k) := by
  unfold State.bodyComplete
  have retired : s.Grows 0 0 ((s.retireWhere (fun e => e.isFor c.key c.line) false).cancelTimers
      (fun t => t.isFor c.key c.line)) := (s.retireWhere_grows _ _).trans (State.cancelTimers_grows _ _)
  have noted := retired.same (State.modifyRow_load _ k c.line (fun r =>
    let r := { r with deferral := none }
    if r.lists st then r.regrade st c.grade else r))
  dsimp only
  split
  · rename_i h
    exact noted.keeps.trans
      ((State.takeBody_grows _ _ _ _).keeps_of_writePlace (by simp only [Bool.and_eq_true] at h; exact h.1))
  · exact (noted.same (State.setContext_load _ _ _)).keeps

/-! ## The RECEPTION UNIT (chapter 1) -/

theorem State.searchEnds_keeps (s : State) : s.Keeps s.searchEnds := by
  unfold State.searchEnds
  have next : ∀ n, s.Grows 0 0 (s.nextPeriod.modifyReception (fun r => { r with lateCount := n })) := fun n =>
    (State.grows_reception (s := s) id).trans (State.grows_reception id)
  exact (next _).keeps.trans (State.lateEntry_grows _).keeps.ite

theorem State.phasingEnds_keeps (s : State) : s.Keeps s.phasingEnds := by
  unfold State.phasingEnds
  have next : ∀ ph, s.Grows 0 0 (s.nextPeriod.modifyReception (fun r => { r with phasing := ph })) := fun ph =>
    (State.grows_reception (s := s) id).trans (State.grows_reception id)
  dsimp only
  split
  · exact (((next _).trans (State.grows_reception id)).trans (State.enterImage_grows _ _)).keeps
  · exact (next _).keeps

theorem State.imageLineEnds_keeps (s : State) : s.Keeps s.imageLineEnds := by
  unfold State.imageLineEnds
  have handed : ∀ n, s.Keeps ((s.nextPeriod.handOn s.finishedLine).modifyReception (fun r => { r with fadeCount := n })) :=
    fun n => ((State.grows_reception (s := s) id).keeps.trans (State.handOn_keeps _ _)).trans (State.grows_reception id).keeps
  have arrived := fun n => ((handed n).trans (State.splitAtOnce_grows _).keeps).trans
    (State.takeArrival_keeps _ s.candidateWaits)
  exact (arrived _).trans ((State.grows_reception id).keeps.iteElse ((State.endReception_grows _ _).keeps.iteElse
    ((State.grows_reception id).trans (State.lengthTest_grows _)).keeps))

theorem State.startConfirmed_keeps (s : State) : s.Keeps s.startConfirmed := by
  unfold State.startConfirmed
  have flagged : s.Grows 0 0 (s.modifyReception (fun r => { r with startRun := ToneRun.confirm r.startRun })) :=
    State.grows_reception id
  dsimp only
  split
  · exact (flagged.trans (State.startReception_grows _)).keeps
  · exact ((flagged.trans (State.endReception_grows _ _)).trans (State.startReception_grows _)).keeps
  · exact ((flagged.trans (State.endReception_grows _ _)).trans (State.startReception_grows _)).keeps
  · exact flagged.keeps

theorem State.stopConfirmed_keeps (s : State) : s.Keeps s.stopConfirmed := by
  unfold State.stopConfirmed
  have flagged : s.Grows 0 0 (s.modifyReception (fun r => { r with stopRun := ToneRun.confirm r.stopRun })) :=
    State.grows_reception id
  dsimp only
  split
  · exact (flagged.trans (State.endReception_grows _ _)).keeps
  · exact (flagged.trans (State.endReception_grows _ _)).keeps
  · exact flagged.keeps
  · exact flagged.keeps

theorem State.startToneEnds_keeps (s : State) : s.Keeps s.startToneEnds := (State.grows_reception (s := s) id).keeps

theorem State.takePeriodEnd_keeps (s : State) : s.Keeps s.takePeriodEnd := by
  unfold State.takePeriodEnd
  split
  · split
    · exact s.searchEnds_keeps
    · exact s.phasingEnds_keeps
    · exact s.imageLineEnds_keeps
    · exact .refl s
  · exact .refl s

theorem State.settleReception_keeps (s : State) : s.Keeps s.settleReception := by
  unfold State.settleReception
  exact (((s.takePeriodEnd_keeps.trans (State.startConfirmed_keeps _).ite).trans (State.stopConfirmed_keeps _).ite).trans
    (State.startToneEnds_keeps _).ite).trans (State.grows_reception id).keeps

theorem Reception.assemble_buffers (r : Reception) (w n f env : Nat) : (r.assemble w n f env).buffers = r.buffers := by
  unfold Reception.assemble
  split
  · rfl
  · rfl
  · rfl
  · split <;> rfl

theorem State.takeSample_keeps (s : State) (audio : BitVec 16) (quadrature : Int) :
    s.Keeps (s.takeSample audio quadrature) := by
  unfold State.takeSample
  have sampled : s.Grows 0 0 (s.modifyReception (fun r => r.sample s.width s.samples audio quadrature)) :=
    State.grows_reception (fun h => by
      show ((s.reception.assemble _ _ _ _).buffers).length ≤ 2
      rw [Reception.assemble_buffers]
      exact h)
  dsimp only
  split
  · exact (sampled.trans (State.lengthTest_grows _)).keeps.settle
  · exact sampled.keeps

/-! ## Frames from peers (R53) -/

theorem State.peerHeard_grows (s : State) (st : Station) : s.Grows 0 0 (s.peerHeard st) := by
  unfold State.peerHeard
  dsimp only
  split
  · exact .of_load rfl
  · exact (State.Grows.of_load (State.setRosterEntry_load _ _ _)).post _ _

/-- A frame that the blocks of its kind take within the bounds is taken within them. -/
theorem State.receive_keeps {α : Type} (s : State) (frame : List Byte) (pick : Payload → Option α)
    (act : α → Station → State → State) (h : ∀ a st x, State.Keeps x (act a st x)) : s.Keeps (s.receive frame pick act) := by
  unfold State.receive
  refine State.whenCan_keeps fun _ => ?_
  split
  · split
    · split
      · exact .refl s
      · exact (((State.Grows.of_load (State.arrive_load s frame)).trans (State.peerHeard_grows _ _)).keeps.trans
          (h _ _ _)).settle
    · exact .refl s
  · exact .refl s

theorem State.takeHail_keeps (h : Hail) (st : Station) (s : State) : s.Keeps (s.takeHail h st) := by
  unfold State.takeHail State.reannounce
  have noted : ∀ e, s.Grows 0 0 (s.setRosterEntry st e) := fun e => .of_load rfl
  dsimp only
  split
  · split
    · split
      · exact ((noted _).trans (State.queueOpenClose_grows _ _)).keeps
      · exact (noted _).keeps
    · exact (noted _).keeps
  · exact (noted _).keeps

theorem State.tallyHolders_load (s : State) (st : Station) (x : Tally) : (s.tallyHolders st x).load = s.load := by
  unfold State.tallyHolders; split <;> rfl

theorem State.takeTally_keeps (x : Tally) (st : Station) (s : State) : s.Keeps (s.takeTally x st) := by
  unfold State.takeTally
  exact ((((State.Grows.of_load (State.tallyHeard_load s st x)).same (State.tallyHolders_load _ _ _)).trans
    (State.alignTally_grows _ _ _)).trans (State.splitAtOnce_grows _)).keeps.trans (State.takeArrival_keeps _ _)

theorem State.deferAsked_load (s : State) (a : Ask) : (s.deferAsked a).load = s.load := by
  unfold State.deferAsked
  split
  · split <;> rfl
  · rfl

theorem State.takeAsk_keeps (a : Ask) (st : Station) (s : State) : s.Keeps (s.takeAsk a st) := by
  unfold State.takeAsk
  have deferred := State.Grows.of_load (State.deferAsked_load s a)
  dsimp only
  split
  · exact (deferred.trans (State.serve_grows _ _ _ _)).keeps
  · split
    · exact (deferred.trans (State.startFallback_grows _ _ _)).keeps
    · exact deferred.keeps

theorem State.declineRow_load (s : State) (d : Decline) (st : Station) (counted : Bool) :
    (s.declineRow d st counted).load = s.load := by
  unfold State.declineRow; split <;> rfl

theorem State.takeDecline_keeps (d : Decline) (st : Station) (s : State) : s.Keeps (s.takeDecline d st) := by
  unfold State.takeDecline
  have cancelled := s.cancelTimers_grows (fun t => t.isFor d.key d.line && t.primary == st)
  dsimp only
  split
  · split
    · exact ((cancelled.trans (State.retire_grows _ _)).same (State.declineRow_load _ _ _ _)).keeps
    · exact (cancelled.same (State.declineRow_load _ _ _ _)).keeps
  · exact cancelled.keeps

theorem State.takeLaterSegment_keeps (s : State) (st : Station) (c : Option Context) (b : Segment) :
    s.Keeps (s.takeLaterSegment st c b) := by
  have noted : ∀ c, s.Keeps (s.setContext st.val c) := fun c => (State.Grows.of_load (State.setContext_load _ _ _)).keeps
  unfold State.takeLaterSegment
  split
  · exact .refl s
  · split
    · exact noted _
    · exact noted _
    · split
      · exact ((s.cancelTimers_grows _).same (State.setContext_load _ _ _)).keeps
      · exact s.takeDueSteps_grows.keeps.trans (State.bodyComplete_keeps _ _ _ _)

theorem State.takeSegment_keeps (b : Segment) (st : Station) (s : State) : s.Keeps (s.takeSegment b st) := by
  unfold State.takeSegment
  cases b.header with
  | none => exact State.Keeps.iteElse (.refl s) (State.takeLaterSegment_keeps _ _ _ _)
  | some h =>
    have heard := (s.segmentZeroHeard_grows st b h).keeps
    exact heard.trans (State.Keeps.iteElse (.refl _) (State.Grows.of_load (State.setContext_load _ _ _)).keeps)

/-! ## The link's own commands (R49, R50, R62, R63) -/

theorem State.sentNotice_grows (s : State) (f : QueuedFrame) : s.Grows 0 0 (s.sentNotice f) := by
  unfold State.sentNotice
  split
  · split
    · exact .refl s
    · exact .of_load (State.ownOpenNotice_load _ _)
  · exact .refl s
  · exact .refl s
  · exact .refl s
  · split
    · exact .refl s
    · unfold State.askSent
      split
      · split
        · exact s.updateFetch_grows _ _
        · exact .refl s
      · exact .refl s
  · split
    · exact s.dropBody_grows 0
    · exact .refl s
  · split
    · exact .of_load rfl
    · exact .refl s

theorem State.droppedNotice_grows (s : State) (f : QueuedFrame) : s.Grows 0 0 (s.droppedNotice f) := by
  unfold State.droppedNotice
  split
  · split
    · exact .refl s
    · exact .of_load (State.ownOpenNotice_load _ _)
  · exact .refl s
  · exact .refl s
  · exact .refl s
  · exact .refl s
  · exact s.retireWhere_grows _ _
  · exact (State.grows_link (s := s) (l := { s.link with segments := [] }) (.of_same rfl rfl rfl)).trans
      (State.dropBody_grows _ 0)

theorem Link.endedAttempt_keeps (l : Link) (c : FrameClass) (new : List QueuedFrame) (hn : new.length ≤ 1) :
    l.KeepsPlaces (l.replaceHead c new).endAttempt := (l.replaceHead_keeps c new hn).trans (Link.endAttempt_keeps _)

theorem State.completeAttempt_grows (s : State) : s.Grows 0 0 s.completeAttempt := by
  unfold State.completeAttempt
  split
  · rename_i c f _ _
    have left : s.Grows 0 0 { s with
        now := s.frameEnd f.payload.frameBytes, link := (s.link.replaceHead c []).endAttempt.frameArrived } :=
      (State.grows_link ((s.link.endedAttempt_keeps c [] (by simp)).trans (.of_same rfl rfl rfl))).same rfl
    exact left.trans (State.sentNotice_grows _ f)
  · exact .refl s

theorem State.faultAttempt_grows (s : State) : s.Grows 0 0 s.faultAttempt := by
  unfold State.faultAttempt
  split
  · rename_i c f _ _
    have left : ∀ new : List QueuedFrame, new.length ≤ 1 →
        s.Grows 0 0 { s with link := (s.link.replaceHead c new).endAttempt } := fun new hn =>
      State.grows_link (s.link.endedAttempt_keeps c new hn)
    split
    · exact left [] (by simp)
    · split
      · exact left _ (by simp)
      · exact ((left [] (by simp)).trans (State.droppedNotice_grows _ f)).post _ _
  · exact .refl s

theorem State.conflict_grows (s : State) : s.Grows 0 0 s.conflict := by
  unfold State.conflict
  split
  · exact .refl s
  · have cleared : s.Grows 0 0 { s.clearOwnOpens with
        link := s.link.setMute
        fetch := { s.fetch with fetches := [], timers := [], bodies := [] } } :=
      { State.Grows.refl s with
        fetches := fun _ => by simp [State.load]
        timers := fun _ => by simp [State.load]
        bodies := fun _ => by simp [State.load]
        openClose := fun _ => by simp [State.load, Link.setMute]
        askDecline := fun _ => by simp [State.load, Link.setMute]
        tally := fun _ => by simp [State.load, Link.setMute] }
    exact cleared.post _ _

/-! ## Resets (chapter 9) -/

theorem State.postAll_grows (s : State) (k : EventKind) (l : List Nat) : s.Grows 0 0 (s.postAll k l) := by
  induction l generalizing s with
  | nil => exact .refl s
  | cons n l ih => exact (s.post_grows k n).trans (ih _)

theorem State.release_grows (s : State) : s.Grows 0 0 s.release := by
  unfold State.release State.postRelease
  have run : s.Grows 0 0 { s with
      config := { s.config with state := .run }
      roster := { s.roster with listenDeadline := some (s.now + Config.listenTime) } } := .of_load rfl
  have posted := run.post .restarted s.config.pendingReset.code
  dsimp only
  split
  · exact ((posted.trans (State.postAll_grows _ _ _)).trans (State.postAll_grows _ _ _)).same rfl
  · exact (posted.trans (State.postAll_grows _ _ _)).same rfl

/-- A state whose queues stand as a reset leaves them has grown from any whose mask and promotions it keeps. -/
theorem State.grows_of_reset (h1 : t.lineTable = LineTable.reset) (h2 : t.reception = Reception.reset)
    (h3 : t.fetch = Fetch.reset) (h4 : t.link = Link.reset) (h5 : t.port = Port.reset) (h6 : t.attention.events = [])
    (h7 : s.attention.promotions.length ≤ 2 → t.attention.promotions.length ≤ 2)
    (h8 : s.attention.mask ≤ 6 → t.attention.mask ≤ 6) : s.Grows 0 0 t := by
  constructor <;> simp only [State.load, State.placesHeld_eq, h1, h2, h3, h4, h5, h6]
  case promotions => exact h7
  case mask => exact h8
  all_goals simp [LineTable.reset, Reception.reset, Fetch.reset, Link.reset, Port.reset, freezesIn]

theorem State.coldValues_grows (s : State) (c : ConfigState) : s.Grows 0 0 (s.coldValues c) :=
  State.grows_of_reset rfl rfl rfl rfl rfl rfl (fun _ => by simp [State.coldValues, State.reset, Attention.reset])
    (fun _ => by simp [State.coldValues, State.reset, Attention.reset])

theorem State.tearWrite_attention (s : State) : s.tearWrite.attention = s.attention := by
  unfold State.tearWrite
  split
  · rfl
  · split
    · dsimp only
      split
      · split <;> rfl
      · rfl
      · rfl
    · rfl

theorem State.warmReset_grows (s : State) : s.Grows 0 0 s.warmReset := by
  have h : ∀ f : Attention → List EventKind × Nat, f = (fun a => (a.promotions, a.mask)) →
      f s.warmReset.attention = f s.attention := by
    rintro _ rfl
    show (s.tearWrite.attention.promotions, s.tearWrite.attention.mask) = _
    rw [State.tearWrite_attention]
  have hpm := h _ rfl
  simp only [Prod.mk.injEq] at hpm
  exact State.grows_of_reset rfl rfl rfl rfl rfl rfl (fun k => by rw [hpm.1]; exact k) (fun k => by rw [hpm.2]; exact k)

/-! ## Requests (R177 to R181) -/

/-- A request that needs one place keeps the bounds: it is taken only while the port reads READY (R177). -/
theorem State.request_keeps (s : State) (n : Nat) (f : State → State) (h : s.portReady = true → s.Keeps (f s)) :
    s.Keeps (s.request n f) := by
  unfold State.request
  refine State.whenCan_keeps fun _ => ?_
  split
  · rename_i hr; exact (h hr).trans (State.Grows.of_load (State.clockOut_load _ _)).keeps
  · exact (State.Grows.of_load (State.clockOut_load _ _)).keeps

theorem State.askLines_grows (s : State) (slot : Byte) (first count : Nat) : s.Grows 0 1 (s.askLines slot first count) := by
  unfold State.askLines
  split
  · exact s.respond_grows _
  · split
    · exact s.respond_grows _
    · rename_i hr
      split
      · exact s.respond_grows _
      · have asked : ∀ r : PendingRead, s.Grows 0 1 { s with port := { s.port with read := some r } } := fun r =>
          { State.Grows.refl s with
            places := by
              simp only [Option.not_isSome_iff_eq_none] at hr
              simp [State.load, State.placesHeld_eq, hr]; omega }
        dsimp only
        split
        · exact (asked _).trans (State.makeRead_grows _)
        · exact asked _

theorem State.askFreeze_grows (s : State) (slot : Byte) : s.Grows 0 1 (s.askFreeze slot) := by
  unfold State.askFreeze
  dsimp only
  split
  · exact s.respond_grows _
  · split
    · exact s.respond_grows _
    · have asked : s.Grows 0 1 { s with lineTable := { s.lineTable with
          requests := s.lineTable.requests ++ [QuietRequest.freeze slot.toNat] } } :=
        { State.Grows.refl s with
          places := by
            simp only [State.load, State.placesHeld_eq, freezesIn_append]
            simp [freezesIn]; omega }
      split
      · refine (asked.trans (State.makeDueReads_grows _)).trans (State.carryOutFreeze_grows _ _ ?_)
        rw [State.makeDueReads_lineTable]
        simp
      · exact asked

theorem State.askThaw_keeps (s : State) (slot : Byte) (hr : s.portReady = true) : s.Keeps (s.askThaw slot) := by
  unfold State.askThaw
  dsimp only
  split
  · exact (s.respond_grows _).keeps_of_ready hr
  · split
    · exact (s.respond_grows _).keeps_of_ready hr
    · have thawing : ∀ h, s.Grows 0 0 (s.setHold slot.toNat h) := fun h => .of_load rfl
      split
      · exact (((thawing _).trans (State.respond_grows _ _)).keeps_of_ready hr).trans (State.takeArrival_keeps _ _)
      · exact (((thawing _).post _ _).trans (State.respond_grows _ _)).keeps_of_ready hr

theorem State.askDiscard_grows (s : State) (slot : Byte) : s.Grows 0 1 (s.askDiscard slot) := by
  unfold State.askDiscard
  dsimp only
  split
  · exact s.respond_grows _
  · split
    · exact s.respond_grows _
    · split
      · exact s.respond_grows _
      · exact (s.releaseSlot_grows _).trans (State.respond_grows _ _)

theorem State.answerEvent_grows (s : State) (request : Byte) (e : Option Event) (x : EventAnswer) :
    s.Grows 0 1 (s.answerEvent request e x) := by
  unfold State.answerEvent
  split
  · rename_i e
    have removed : s.Grows 0 0 { s with attention := s.attention.remove e } :=
      { State.Grows.refl s with events := fun h => h.filter _ }
    exact removed.trans (State.respond_grows _ _)
  · exact s.respond_grows _

theorem State.askMask_grows (s : State) (mask : Byte) : s.Grows 0 1 (s.askMask mask) := by
  unfold State.askMask
  split
  · exact s.respond_grows _
  · have set : s.Grows 0 0 { s with attention := { s.attention with mask := min mask.toNat 6 } } :=
      { State.Grows.refl s with mask := fun _ => by simp [State.load] }
    exact set.trans (State.respond_grows _ _)

theorem promotionList_length {a b : Nat} {l : List EventKind} (h : promotionList a b = some l) : l.length ≤ 2 := by
  simp only [promotionList, Option.ite_none_right_eq_some] at h
  replace h := h.2
  split at h
  · cases h; split <;> simp
  · cases h; simp
  · cases h; simp
  · cases h; simp

theorem State.askPromote_grows (s : State) (first second : Byte) : s.Grows 0 1 (s.askPromote first second) := by
  unfold State.askPromote
  split
  · rename_i l h
    have set : s.Grows 0 0 { s with attention := { s.attention with promotions := l } } :=
      { State.Grows.refl s with promotions := fun _ => promotionList_length h }
    exact set.trans (State.respond_grows _ _)
  · exact s.respond_grows _

/-! ## The timers (chapters 4, 5, 7) -/

theorem State.losePeer_grows (s : State) (st : Station) (d : Nat) : s.Grows 0 0 (s.losePeer st d) := by
  unfold State.losePeer
  have lost : s.Grows 0 0 (((s.reach d).setRosterEntry st
      { (s.reach d).rosterEntry st with state := .lost, lossDeadline := none }).post .peerLost st.val) :=
    (State.Grows.of_load rfl).post _ _
  have retired := (lost.trans (State.peerLost_grows _ st)).trans (State.retireWhere_grows _ (fun e => e.target == st) true)
  dsimp only
  split
  · split
    · exact retired.same (State.setContext_load _ _ _)
    · exact retired
  · exact retired

theorem State.queueHail_grows (s : State) (d : Nat) : s.Grows 0 0 (s.queueHail d) :=
  (State.grows_link (s.link.queueHail_keeps s.hailNow)).same rfl

end Sys2Proof.Machine
end

section
/-!
PROOF. Every command keeps the bounds, the places and the distinctness of the pending set; the statement BoundsAreKept.
-/
namespace Sys2Proof.Machine

variable {s t : State}

/-- Where an outcome is a next state, that state keeps what `s` keeps. -/
def State.KeepsIn (s : State) (o : Host.Outcome State Fault Refusal) : Prop := ∀ t, o = .next t → s.Keeps t

theorem State.Keeps.next (h : s.Keeps t) : s.KeepsIn (.next t) := by
  rintro u hu
  cases hu
  exact h

/-- A growth of nothing, and what follows every event at once. -/
theorem Load.Grows.settled (h : s.Grows 0 0 t) : s.Keeps t.settle := h.keeps.settle

/-! ## The commands, block by block -/

theorem State.strapStreamRead_keeps (s : State) (stream : BitVec 64) : s.KeepsIn (execStrapStreamRead stream s) := by
  refine (State.whenCan_keeps fun _ => ?_).next
  have latched : s.Grows 0 0 { s with config := s.config.latch stream } := .of_load rfl
  dsimp only
  split
  · exact (latched.same (State.setConfig_load _ _)).keeps
  · exact (latched.trans (State.release_grows _)).keeps

theorem State.resetAsserted_keeps (s : State) : s.KeepsIn (execResetAsserted s) := by
  have reset : s.Grows 0 0 (if s.running then s.warmReset else s) := by
    split
    · exact s.warmReset_grows
    · exact .refl s
  exact (reset.same (State.setConfig_load _ _)).keeps.next

theorem State.resetDeasserted_keeps (s : State) : s.KeepsIn (execResetDeasserted s) := by
  have lowered : s.Grows 0 0 { s with config := { s.config with resetPin := false } } := .of_load rfl
  exact ((lowered.trans (State.release_grows _)).keeps.iteElse lowered.keeps).next

theorem State.audioSample_keeps (s : State) (audio : BitVec 16) (quadrature : Int) :
    s.KeepsIn (execAudioSample audio quadrature s) :=
  (State.whenRunning_keeps (s.settleReception_keeps.settle.ite.trans (State.takeSample_keeps _ _ _))).next

theorem State.splitClear_keeps (s : State) : s.KeepsIn (execSplitClear s) := by
  refine (State.whenRunning_keeps ?_).next
  split
  · exact ((s.makeDueReads_grows.trans (State.carryOutSplit_grows _ _)).keeps.trans (State.takeArrival_keeps _ _)).settle
  · exact .refl s

theorem State.freezeCarriedOut_keeps (s : State) (c : Nat) : s.KeepsIn (execFreezeCarriedOut c s) := by
  refine (State.whenCan_keeps fun h => ?_).next
  simp only [State.freezeDue, Bool.and_eq_true, beq_iff_eq] at h
  have waits : QuietRequest.freeze c ∈ s.makeDueReads.lineTable.requests := by
    rw [State.makeDueReads_lineTable]
    exact List.mem_of_find?_eq_some h.2.2
  exact (s.makeDueReads_grows.trans (State.carryOutFreeze_grows _ c waits)).settled

theorem State.compositeWriteComplete_keeps (s : State) : s.KeepsIn (execCompositeWriteComplete s) := by
  refine (State.whenRunning_keeps ?_).next
  split
  · split
    · exact .refl s
    · exact (s.makeDueReads_grows.trans (State.completeComposite_grows _ _)).settled
  · exact .refl s

theorem State.poolWriteComplete_keeps (s : State) : s.KeepsIn (execPoolWriteComplete s) := by
  refine (State.whenRunning_keeps ?_).next
  split
  · split
    · exact (s.makeDueReads_grows.trans (State.completePool_grows _ _)).settled
    · exact .refl s
  · exact .refl s

theorem State.candidateTaken_keeps (s : State) : s.KeepsIn (execCandidateTaken s) := by
  refine (State.whenCan_keeps fun h => ?_).next
  simp only [Bool.and_eq_true] at h
  exact ((s.takeDueSteps_grows.trans (State.takeNext_grows _)).keeps_of_writePlace h.1.2).settle

theorem State.bodySnapshot_keeps (s : State) (i : Nat) : s.KeepsIn (execBodySnapshot i s) := by
  have made : ∀ f : SendBody → SendBody,
      s.Grows 0 0 { s with fetch := { s.fetch with bodies := s.fetch.bodies.modify i f } } := fun f =>
    State.grows_fetch (Nat.le_refl _) (Nat.le_refl _) (by simp)
  exact (State.whenCan_keeps fun _ => ((made _).same (State.formSegments_load _)).settled).next

theorem State.receiveFrameDiscarded_keeps (s : State) (frame : List Byte) (d : Bool) :
    s.KeepsIn (execReceiveFrameDiscarded frame d s) := by
  refine (State.whenCan_keeps fun _ => ?_).next
  have taken : s.link.KeepsPlaces (if framingBroken frame d then s.link.frameBroken else s.link.frameArrived) := by
    split <;> exact .of_same rfl rfl rfl
  exact ((State.grows_link taken).same (State.setNow_load _ _)).keeps

theorem State.ownNumberFrame_keeps (s : State) (frame : List Byte) : s.KeepsIn (execOwnNumberFrame frame s) :=
  (State.whenCan_keeps fun _ => ((State.Grows.of_load (State.arrive_load s frame)).trans (State.conflict_grows _)).keeps).next

theorem State.lossTimerExpiry_keeps (s : State) (st : Station) : s.KeepsIn (execLossTimerExpiry st s) := by
  refine (State.whenRunning_keeps ?_).next
  split
  · exact (s.losePeer_grows _ _).settled
  · exact .refl s

theorem State.listenTimerExpiry_keeps (s : State) : s.KeepsIn (execListenTimerExpiry s) := by
  refine (State.whenRunning_keeps ?_).next
  split
  · have ended : ∀ d, s.Grows 0 0 (s.endListen d) := fun d =>
      State.Grows.of_load (t := { s.reach d with
        roster := { s.roster with state := .joined, listenDeadline := none, joiningPending := true } }) rfl |>.trans
          (State.queueHail_grows _ d)
    exact (ended _).settled
  · exact .refl s

theorem State.hailTimerExpiry_keeps (s : State) : s.KeepsIn (execHailTimerExpiry s) := by
  refine (State.whenRunning_keeps ?_).next
  split
  · exact ((State.Grows.of_load (State.reach_load s _)).trans (State.queueHail_grows _ _)).settled
  · exact .refl s

theorem State.quietTimerExpiry_keeps (s : State) (c : Nat) : s.KeepsIn (execQuietTimerExpiry c s) := by
  refine (State.whenRunning_keeps ?_).next
  split
  · exact (((State.Grows.of_load (State.reach_load s _)).same (State.modifyRecord_load _ c _)).trans
      (State.closingTest_grows _ c)).settled
  · exact .refl s

theorem State.batchTimerExpiry_keeps (s : State) : s.KeepsIn (execBatchTimerExpiry s) := by
  refine (State.whenRunning_keeps ?_).next
  split
  · exact ((State.Grows.of_load (State.reach_load s _)).trans (State.queueBatch_grows _)).settled
  · exact .refl s

theorem State.fetchFirstDeadline_keeps (s : State) (st : Station) : s.KeepsIn (execFetchFirstDeadline st s) := by
  have passes : ∀ e d, s.Grows 0 0 ((s.reach d).firstDeadlinePasses e) := by
    intro e d
    have reached := State.Grows.of_load (State.reach_load s d)
    unfold State.firstDeadlinePasses
    split
    · exact reached.trans (State.updateFetch_grows _ _ _)
    · exact reached.trans (State.retireAll_grows _ _ _)
  refine (State.whenRunning_keeps ?_).next
  split
  · split
    · exact (passes _ _).settled
    · exact .refl s
  · exact .refl s

theorem State.fetchTimeout_keeps (s : State) (st : Station) : s.KeepsIn (execFetchTimeout st s) := by
  have timedOut : ∀ e d, s.Grows 0 0 ((s.reach d).timeOut e) := fun e d =>
    (State.Grows.of_load (State.reach_load s d)).trans (State.retireAll_grows _ _ _)
  refine (State.whenRunning_keeps ?_).next
  split
  · split
    · exact (timedOut _ _).settled
    · exact (timedOut _ _).settled
    · exact .refl s
  · exact .refl s

theorem State.deferralExpiry_keeps (s : State) (c n : Nat) : s.KeepsIn (execDeferralExpiry c n s) := by
  refine (State.whenRunning_keeps ?_).next
  split
  · exact ((State.Grows.of_load (State.reach_load s _)).same (State.modifyRow_load _ _ _ _)).settled
  · exact .refl s

theorem State.fallbackTimerExpiry_keeps (s : State) (k : Key) (n : Nat) : s.KeepsIn (execFallbackTimerExpiry k n s) := by
  refine (State.whenRunning_keeps ?_).next
  split
  · exact (((State.Grows.of_load (State.reach_load s _)).trans (State.cancelTimers_grows _ _)).trans
      (State.serve_grows _ _ _ _)).settled
  · exact .refl s

/-- A request that forms a response or holds a place, and nothing more (R178). -/
theorem State.request_keeps_of_grows (s : State) (n : Nat) (f : State → State) (h : s.Grows 0 1 (f s)) :
    s.KeepsIn (.next (s.request n f)) := (s.request_keeps n f fun hr => h.keeps_of_ready hr).next

theorem State.badRequest_keeps (s : State) (message : List Byte) : s.KeepsIn (execBadRequest message s) := by
  cases message with
  | nil => exact (State.whenCan_keeps fun _ => (State.Grows.of_load (State.clockOut_load _ _)).keeps).next
  | cons kind l =>
    exact (State.whenCan_keeps fun _ => s.request_keeps (l.length + 1) (fun s => s.refuseForm kind) fun hr =>
      (s.respond_grows _).keeps_of_ready hr).next

theorem State.readTransfer_keeps (s : State) (clocking : Clocking) : s.KeepsIn (execReadTransfer clocking s) := by
  have clocked : ∀ (x : State) l, x.Grows 0 0 (x.clockOut l) := fun x l => .of_load rfl
  have taken : s.Grows 0 0 { s with port := { s.port with queue := s.port.queue.drop 1 } } :=
    { State.Grows.refl s with places := by simp [State.load, State.placesHeld_eq] }
  refine (State.whenCan_keeps fun _ => ?_).next
  split
  · unfold State.readOut
    dsimp only
    split
    · exact (taken.trans (clocked _ _)).keeps
    · exact (clocked _ _).keeps
  · exact (clocked _ _).keeps
  · exact .refl s
  · exact .refl s

/-! ## Every command, every step -/

/-- Every command keeps the bounds. -/
theorem exec_keeps (c : Instr) (s : State) : s.KeepsIn (exec c s) :=
  match c with
  | .powerGoodRising => (State.whenCan_keeps fun _ => (s.coldValues_grows _).keeps).next
  | .powerGoodFalling => ((State.Grows.of_load s.cutWrite_load).trans (State.coldValues_grows _ .off)).keeps.next
  | .strapStreamRead stream => s.strapStreamRead_keeps stream
  | .resetAsserted => s.resetAsserted_keeps
  | .resetDeasserted => s.resetDeasserted_keeps
  | .audioSample audio quadrature => s.audioSample_keeps audio quadrature
  | .startToneConfirmed => (State.whenCan_keeps fun _ => s.startConfirmed_keeps.settle).next
  | .stopToneConfirmed => (State.whenCan_keeps fun _ => s.stopConfirmed_keeps.settle).next
  | .endOfStartTone => (State.whenCan_keeps fun _ => s.startToneEnds_keeps).next
  | .searchPeriodEnd => (State.whenCan_keeps fun _ => s.searchEnds_keeps.settle).next
  | .phasingPeriodEnd => (State.whenCan_keeps fun _ => s.phasingEnds_keeps.settle).next
  | .imageLineEnd => (State.whenCan_keeps fun _ => s.imageLineEnds_keeps.settle).next
  | .splitClear => s.splitClear_keeps
  | .freezeCarriedOut slot => s.freezeCarriedOut_keeps slot
  | .compositeWriteComplete => s.compositeWriteComplete_keeps
  | .poolWriteComplete => s.poolWriteComplete_keeps
  | .candidateTaken => s.candidateTaken_keeps
  | .readLinesRead => (State.whenCan_keeps fun _ => s.makeRead_grows.keeps).next
  | .bodySnapshot place => s.bodySnapshot_keeps place
  | .tallyRequeue => (State.whenCan_keeps fun _ => s.queueBatch_grows.settled).next
  | .transmitStart => (State.whenCan_keeps fun _ => (State.grows_link (s.link.start_keeps s.now)).keeps).next
  | .arbitrationLost bit => (State.whenCan_keeps fun _ =>
      ((State.Grows.of_load (State.reach_load s (s.bitEnd bit))).trans (State.grows_link s.link.lose_keeps)).settled).next
  | .collisionFault => (State.whenCan_keeps fun _ => s.faultAttempt_grows.settled).next
  | .frameSent => (State.whenCan_keeps fun _ => s.completeAttempt_grows.settled).next
  | .receiveFrameDiscarded frame d => s.receiveFrameDiscarded_keeps frame d
  | .ownNumberFrame frame => s.ownNumberFrame_keeps frame
  | .hailReceived frame => (s.receive_keeps frame _ _ State.takeHail_keeps).next
  | .openReceived frame => (s.receive_keeps frame _ _ fun o st x => (x.openHeard_grows st o).keeps).next
  | .closeReceived frame => (s.receive_keeps frame _ _ fun f st x => (x.closeHeard_grows st f).keeps).next
  | .tallyReceived frame => (s.receive_keeps frame _ _ State.takeTally_keeps).next
  | .askReceived frame => (s.receive_keeps frame _ _ State.takeAsk_keeps).next
  | .declineReceived frame => (s.receive_keeps frame _ _ State.takeDecline_keeps).next
  | .bodySegmentReceived frame => (s.receive_keeps frame _ _ State.takeSegment_keeps).next
  | .lossTimerExpiry peer => s.lossTimerExpiry_keeps peer
  | .listenTimerExpiry => s.listenTimerExpiry_keeps
  | .hailTimerExpiry => s.hailTimerExpiry_keeps
  | .quietTimerExpiry slot => s.quietTimerExpiry_keeps slot
  | .batchTimerExpiry => s.batchTimerExpiry_keeps
  | .fetchFirstDeadline target => s.fetchFirstDeadline_keeps target
  | .fetchTimeout target => s.fetchTimeout_keeps target
  | .deferralExpiry slot line => s.deferralExpiry_keeps slot line
  | .fallbackTimerExpiry key line => s.fallbackTimerExpiry_keeps key line
  | .readLines slot first count => s.request_keeps_of_grows _ _ (s.askLines_grows slot first.toNat count.toNat)
  | .readDirectory => s.request_keeps_of_grows _ _ (s.respond_grows _)
  | .freeze slot => s.request_keeps_of_grows _ _ ((s.askFreeze_grows slot).trans (State.settle_grows _))
  | .thaw slot => (s.request_keeps _ _ fun hr => (s.askThaw_keeps slot hr).settle).next
  | .discard slot => s.request_keeps_of_grows _ _ ((s.askDiscard_grows slot).trans (State.settle_grows _))
  | .take level => s.request_keeps_of_grows _ _ (s.answerEvent_grows _ _ _)
  | .poll => s.request_keeps_of_grows _ _ (s.answerEvent_grows _ _ _)
  | .setMask mask => s.request_keeps_of_grows _ _ (s.askMask_grows mask)
  | .promote first second => s.request_keeps_of_grows _ _ (s.askPromote_grows first second)
  | .status => s.request_keeps_of_grows _ _ (s.respond_grows _)
  | .readStraps => s.request_keeps_of_grows _ _ (s.respond_grows _)
  | .restart => s.request_keeps_of_grows _ _
      ((s.warmReset_grows.trans (State.release_grows _)).weaken (by omega) (by omega))
  | .badRequest message => s.badRequest_keeps message
  | .readTransfer clocking => s.readTransfer_keeps clocking
  | .lineIdle => (State.whenCan_keeps fun _ => ((State.Grows.of_load (State.elapse_load s 12)).trans
      (State.grows_link (s := s.elapse 12) (l := s.link.atIdle) (.of_same rfl rfl rfl))).keeps).next

/-- Every step keeps the bounds: a command's, and the passing of a microsecond. -/
theorem step_keeps (s : State) : s.KeepsIn (step s) := by
  unfold step
  split
  · exact (State.Grows.of_load (State.tick_load s)).keeps.next
  · rename_i c rest _
    intro t h
    exact (State.Grows.of_load (State.withPending_load s rest)).keeps.trans (exec_keeps c _ t h)

/-- Settles O4, by one growth lemma for each operation: none outgrows its room. -/
theorem boundsAreKept : Obligations.BoundsAreKept :=
  ⟨fun s t h => ⟨(step_keeps s t h).bounds, (step_keeps s t h).places⟩, fun s t hs h => (step_keeps s t h).events hs⟩

end Sys2Proof.Machine
end

section
/-!
PROOF. The reset state (ResetStateIsSafe) and a RESET asserted in RUN (ResetAssertedHoldsThePart).
-/
namespace Sys2Proof.Machine

/-! ## The reset state -/

theorem State.reset_withinBounds : State.reset.WithinBounds := by constructor <;> decide

theorem State.reset_muteIsSilent : State.reset.MuteIsSilent := by constructor <;> intro h <;> cases h

theorem State.reset_transmitterGood : State.reset.TransmitterGood := ⟨fun _ => rfl, fun h => by cases h⟩

theorem State.reset_frozenUntouched : State.reset.FrozenUntouched := fun _ _ _ hw => by cases hw

theorem State.reset_tablesOrdered : State.reset.TablesOrdered where
  slots := .nil
  entries _ hp := by cases hp
  rows _ hp := by cases hp
  pool := .nil
  peers := .nil
  contexts := .nil

/-- Settles O2: each clause is read off the reset values, each invariant holds of empty tables. -/
theorem resetStateIsSafe : Obligations.ResetStateIsSafe := by
  refine ⟨by decide, by decide, by decide, by decide, by decide, by decide, by decide, rfl, by decide, by decide, by decide,
    ⟨.nil, fun _ hc => by cases hc⟩, State.reset_withinBounds, .nil, Nat.zero_le 4, State.reset_muteIsSilent,
    State.reset_transmitterGood, State.reset_frozenUntouched, State.reset_tablesOrdered⟩

/-! ## The holds of the slots through a warm reset -/

/-- The slots in use and their holds. -/
def holdsOf (l : List (Nat × Slot)) : List (Nat × Hold) := l.map (fun p => (p.1, p.2.record.hold))

/-- A change of each slot that keeps keys and holds keeps the list of them. -/
theorem holdsOf_map (l : List (Nat × Slot)) (f : Nat × Slot → Nat × Slot)
    (hf : ∀ p, (f p).1 = p.1 ∧ (f p).2.record.hold = p.2.record.hold) : holdsOf (l.map f) = holdsOf l := by
  simp only [holdsOf, List.map_map]
  exact List.map_congr_left fun p _ => by simp [hf p]

theorem holdsOf_warmRecords (l : List (Nat × Slot)) (n : Nat) : holdsOf (warmRecords n l) = holdsOf l := by
  induction l generalizing n with
  | nil => rfl
  | cons p t ih =>
    obtain ⟨c, sl⟩ := p
    exact congrArg ((c, sl.record.hold) :: ·) (ih _)

theorem State.tearWrite_holds (s : State) : holdsOf s.tearWrite.slots = holdsOf s.slots := by
  unfold State.tearWrite
  split
  · rfl
  · split
    · dsimp only
      split
      · split <;> rfl
      · exact holdsOf_map _ _ fun p => by split <;> exact ⟨rfl, rfl⟩
      · exact holdsOf_map _ _ fun p => by split <;> exact ⟨rfl, rfl⟩
    · rfl

/-- Which slots are THAWING without a SHADOW entry is told by keys and holds. -/
theorem thawing_of_holds (l : List (Nat × Slot)) (shadow : Nat → Bool) :
    (l.filter (fun p => p.2.record.hold = .thawing && !shadow p.1)).map Prod.fst =
      ((holdsOf l).filter (fun q => q.2 = .thawing && !shadow q.1)).map Prod.fst := by
  simp only [holdsOf, List.filter_map, List.map_map]
  rfl

/-- The slots that a warm reset leaves THAWING without a SHADOW entry are such slots before it (R149, R154). -/
theorem State.warmCharts_thawsEnded (s : State) : s.warmCharts.attention.thawDoneAtRelease =
    (s.slots.filter (fun p => p.2.record.hold = .thawing && !s.warmCharts.hasShadow p.1)).map Prod.fst := by
  have dropped : holdsOf (s.tearWrite.slots.map (fun (p : Nat × Slot) => (p.1, p.2.dropPending.dropDeferrals))) =
      holdsOf s.slots := (holdsOf_map _ (fun p => (p.1, p.2.dropPending.dropDeferrals)) fun _ => ⟨rfl, rfl⟩).trans s.tearWrite_holds
  rw [thawing_of_holds s.slots, ← dropped, ← holdsOf_warmRecords _ s.tearWrite.highestCloseOrder, ← thawing_of_holds]
  rfl

/-! ## RESET asserted -/

/-- A write that is torn leaves everything but memory, the slots and the pool (R41). -/
theorem State.tearWrite_eq (s : State) : s.tearWrite = { s with
    memory := s.tearWrite.memory, slots := s.tearWrite.slots, pool := s.tearWrite.pool
    interruptedWrites := s.tearWrite.interruptedWrites } := by
  unfold State.tearWrite
  split
  · rfl
  · split
    · dsimp only
      split
      · split <;> rfl
      · rfl
      · rfl
    · rfl

/-- A warm reset in full but for memory, the slots and the pool (R21, R41, R64, R75, R110, R137, R175, R178). -/
theorem State.warmReset_eq (s : State) : s.warmReset = { s with
    config := { s.config with pendingReset := .warm }
    reception := Reception.reset, lineTable := LineTable.reset, link := Link.reset, roster := Roster.reset
    alignment := Alignment.reset, fetch := Fetch.reset, port := Port.reset
    attention := { s.attention with
      events := []
      thawDoneAtRelease :=
        (s.slots.filter (fun p => p.2.record.hold = .thawing && !s.warmReset.hasShadow p.1)).map Prod.fst }
    memory := s.warmReset.memory, slots := s.warmReset.slots, pool := s.warmReset.pool
    interruptedWrites := s.warmReset.interruptedWrites } := by
  have shadows : s.warmReset.hasShadow = s.warmCharts.hasShadow := rfl
  rw [shadows, ← s.warmCharts_thawsEnded]
  unfold State.warmReset State.warmCharts
  rw [s.tearWrite_eq]

/-- Settles O18: the outcome is the warm reset, held. -/
theorem resetAssertedHoldsThePart : Obligations.ResetAssertedHoldsThePart := by
  refine fun s => ⟨fun h => ⟨_, rfl, ?_⟩, fun h => ?_⟩
  · have running : s.running = true := by simp [State.running, h]
    simp only [running, if_true]
    conv_lhs => rw [s.warmReset_eq]
    rfl
  · have held : s.running = false := by simp [State.running, h]
    simp [exec, execResetAsserted, held]

end Sys2Proof.Machine
end

section
/-!
PROOF. An audio sample's taking: the envelope's square root, the tone detectors' runs, the assembler (AudioSampleIsTaken).
-/
namespace Sys2Proof.Machine

/-! ## The envelope (R1) -/

/-- The root found bit by bit is the rounded-down square root. -/
theorem sqrtBits_spec (bits n root : Nat) (hlow : root * root ≤ n) (hhigh : n < (root + 2 ^ bits) * (root + 2 ^ bits)) :
    sqrtBits bits n root * sqrtBits bits n root ≤ n ∧ n < (sqrtBits bits n root + 1) * (sqrtBits bits n root + 1) := by
  induction bits generalizing root with
  | zero => exact ⟨hlow, hhigh⟩
  | succ bits ih =>
    have double : root + 2 ^ (bits + 1) = root + 2 ^ bits + 2 ^ bits := by ring
    simp only [sqrtBits]
    split
    · rename_i h; exact ih _ h (by rwa [← double])
    · rename_i h; exact ih _ hlow (by omega)

/-- The envelope is the magnitude in sample units, rounded down and capped (R1). -/
theorem envelopeOf_spec (a : Analytic) :
    let square := a.re * a.re + a.im * a.im
    let e := (envelopeOf a : Int)
    e ≤ 32767 ∧ e * 65536 * (e * 65536) ≤ square ∧ (e < 32767 → square < (e + 1) * 65536 * ((e + 1) * 65536)) := by
  have natural : a.re * a.re + a.im * a.im = ((a.re.natAbs * a.re.natAbs + a.im.natAbs * a.im.natAbs : Nat) : Int) := by
    push_cast
    simp
  simp only [natural]
  unfold envelopeOf
  generalize a.re.natAbs * a.re.natAbs + a.im.natAbs * a.im.natAbs = square
  dsimp only
  split
  · rename_i h
    exact ⟨le_refl _, by omega, fun h => absurd h (lt_irrefl _)⟩
  · rename_i h
    obtain ⟨hlow, hhigh⟩ := sqrtBits_spec 31 square 0 (Nat.zero_le _) (by omega)
    generalize sqrtBits 31 square 0 = root at hlow hhigh
    have small : root < 2147418112 := by
      by_contra hr
      exact h (Nat.le_trans (Nat.mul_le_mul (Nat.not_lt.1 hr) (Nat.not_lt.1 hr)) hlow)
    have below : root / 65536 * 65536 ≤ root := Nat.div_mul_le_self _ _
    have above : root + 1 ≤ (root / 65536 + 1) * 65536 := by omega
    refine ⟨by omega, ?_, fun _ => ?_⟩
    · exact_mod_cast (Nat.mul_le_mul below below).trans hlow
    · exact_mod_cast hhigh.trans_le (Nat.mul_le_mul above above)

/-! ## The tone detectors (R7) -/

/-- What a detector's run is after a sample in the band, or out of it (R7). -/
theorem ToneRun.step_eq (run : Option ToneRun) (inBand : Bool) (k : Nat) : ToneRun.step run inBand k =
    match run with
    | none => if inBand then some { start := k, gap := 0, confirmed := false } else none
    | some x =>
      if inBand then some { x with gap := 0 }
      else if 1200 ≤ x.gap ∧ x.confirmed = false then none
      else some { x with gap := x.gap + 1 } := by
  cases run <;> cases inBand <;> simp [ToneRun.step]

/-- A sample confirms an unconfirmed run exactly when it is in the band, 36,000 or more samples after the start (R7). -/
theorem ToneRun.confirms_step (run : Option ToneRun) (inBand : Bool) (k : Nat) :
    ToneRun.confirms (ToneRun.step run inBand k) k = true ↔
      inBand = true ∧ ∃ x, run = some x ∧ x.confirmed = false ∧ x.start + 36000 ≤ k := by
  rw [ToneRun.step_eq]
  cases run with
  | none => cases inBand <;> simp [ToneRun.confirms]
  | some x =>
    cases inBand
    · by_cases h : 1200 ≤ x.gap ∧ x.confirmed = false <;> simp [h, ToneRun.confirms]
    · simp [ToneRun.confirms]

/-- A sample ends a confirmed tone exactly when it is the 1,201st out of the band (R7). -/
theorem ToneRun.endDue_step (run : Option ToneRun) (inBand : Bool) (k : Nat) :
    ToneRun.endDue (ToneRun.step run inBand k) = true ↔
      ¬inBand = true ∧ ∃ x, run = some x ∧ x.confirmed = true ∧ 1200 ≤ x.gap := by
  rw [ToneRun.step_eq]
  cases run with
  | none => cases inBand <;> simp [ToneRun.endDue]
  | some x =>
    cases inBand
    · cases h : x.confirmed <;> by_cases hg : 1200 ≤ x.gap <;> simp [h, hg, ToneRun.endDue]
    · simp [ToneRun.endDue]

theorem ToneRun.isSome_and_confirms (run : Option ToneRun) (k : Nat) :
    (run.isSome && ToneRun.confirms run k) = ToneRun.confirms run k := by
  cases run <;> rfl

/-! ## The sample (R2, R3) -/

/-- The frequency is at most 6000 (R1). -/
theorem frequencyOf_le (previous : Option Analytic) (a : Analytic) (k : Nat) : frequencyOf previous a k ≤ 6000 := by
  unfold frequencyOf
  split
  · omega
  · dsimp only
    split <;> exact Nat.min_le_right _ _

/-- A line or period is being assembled: not in START TONE, nor before image line 0 (R2, R3). -/
def Reception.Assembles (r : Reception) : Prop := r.state = .search ∨ r.state = .phasing ∨ r.state = .image ∧ r.skip = 0

/-- A sample reaches the assembler, and only it, where a line or period is being assembled; before image line 0 it is passed. -/
theorem Reception.assemble_eq (r : Reception) (w n f env : Nat) : ∃ assembler endDue, r.assemble w n f env =
    { r with assembler := assembler, endDue := endDue, skip := if r.state = .image then r.skip - 1 else r.skip } ∧
    (r.Assembles → assembler = r.assembler.take w n f env ∧ (endDue = true ↔ r.assembler.position + 1 = n)) ∧
    (¬r.Assembles → assembler = r.assembler ∧ endDue = r.endDue) := by
  unfold Reception.assemble
  split
  · rename_i h
    exact ⟨r.assembler, r.endDue, by rw [if_neg (by simp [h])], by simp [Reception.Assembles, h], by simp⟩
  · rename_i h
    exact ⟨_, _, by rw [if_neg (by simp [h])], fun _ => ⟨rfl, by simp⟩, fun hn => absurd (.inl h) hn⟩
  · rename_i h
    exact ⟨_, _, by rw [if_neg (by simp [h])], fun _ => ⟨rfl, by simp⟩, fun hn => absurd (.inr (.inl h)) hn⟩
  · rename_i h
    split
    · rename_i hs
      have zero : r.skip - 1 = r.skip := by omega
      exact ⟨_, decide (r.assembler.position + 1 = n), by rw [zero], fun _ => ⟨rfl, by simp⟩, fun hn => absurd (.inr (.inr ⟨h, hs⟩)) hn⟩
    · rename_i hs
      exact ⟨r.assembler, r.endDue, rfl, by simp [Reception.Assembles, h, hs], by simp⟩

/-- With nothing of the sample before it due, and line 0 not about to start, a sample changes the reception's own state only. -/
theorem exec_audioSample_of_settled (s : State) (audio : BitVec 16) (quadrature : Int) (hrun : s.config.state = .run)
    (hdue : s.reception.anythingDue = false) (hskip : ¬(s.reception.state = .image ∧ s.reception.skip = 1)) :
    exec (.audioSample audio quadrature) s =
      .next { s with reception := s.reception.sample s.width s.samples audio quadrature } := by
  have hzero : s.reception.lineZeroNext = false := by
    simpa [Reception.lineZeroNext] using hskip
  simp [exec, execAudioSample, State.whenRunning, State.running, hrun, hdue, State.takeSample, hzero, State.modifyReception]

theorem startBand_iff (f : Nat) : startBand f = true ↔ 280 ≤ f ∧ f ≤ 320 := by simp [startBand]

theorem stopBand_iff (f : Nat) : stopBand f = true ↔ 430 ≤ f ∧ f ≤ 470 := by simp [stopBand]

/-- Settles O13: the run, the confirmation and the end of each detector by the laws of `ToneRun.step`, the assembler's part by
`Reception.assemble_eq`, the envelope by `envelopeOf_spec`. -/
theorem audioSampleIsTaken : Obligations.AudioSampleIsTaken := by
  refine ⟨fun s audio quadrature hrun hdue hskip => ?_, envelopeOf_spec⟩
  dsimp only
  obtain ⟨assembler, endDue, heq, htaken, hleft⟩ := s.reception.assemble_eq s.width s.samples
    (frequencyOf s.reception.previous (analyticOf audio quadrature) s.reception.sampleCount)
    (envelopeOf (analyticOf audio quadrature))
  refine ⟨_, assembler, endDue, exec_audioSample_of_settled s audio quadrature hrun hdue hskip, ?_, ?_, ?_, ?_, ?_,
    frequencyOf_le _ _ _, ?_, htaken, hleft⟩
  · simp only [Reception.sample, heq, ToneRun.step_eq, startBand_iff, stopBand_iff]
    rfl
  · simp only [Reception.startDue, ToneRun.isSome_and_confirms, Reception.sample, heq, Reception.lastSample, Nat.add_sub_cancel,
      ToneRun.confirms_step, startBand_iff, and_assoc]
    rfl
  · simp only [Reception.stopDue, ToneRun.isSome_and_confirms, Reception.sample, heq, Reception.lastSample, Nat.add_sub_cancel,
      ToneRun.confirms_step, stopBand_iff, and_assoc]
    rfl
  · simp only [Reception.sample, heq, ToneRun.endDue_step, startBand_iff]
    rfl
  · simp only [Reception.sample, heq, ToneRun.endDue_step, stopBand_iff]
    rfl
  · intro h
    rw [h]
    rfl

end Sys2Proof.Machine
end

section
/-!
PROOF. The discriminator in whole numbers gives the rounded phase advance (FrequencyIsPhaseAdvance): a winding keeps a total angle,
its rest the angle beyond the whole turns.
-/
namespace Sys2Proof.Machine

open Real

/-! ## Vectors at an angle -/

/-- A nonzero vector lies at the angle `α`. -/
def Phasor.At (v : Phasor) (α : ℝ) : Prop := ∃ r : ℝ, 0 < r ∧ (v.re : ℝ) = r * cos α ∧ (v.im : ℝ) = r * sin α

/-- The product of two vectors lies at the sum of their angles. -/
theorem Phasor.At.times {a b : Phasor} {α β : ℝ} (ha : a.At α) (hb : b.At β) : (a.times b).At (α + β) := by
  obtain ⟨r, hr, har, hai⟩ := ha
  obtain ⟨q, hq, hbr, hbi⟩ := hb
  refine ⟨r * q, mul_pos hr hq, ?_, ?_⟩
  · simp only [Phasor.times, Int.cast_sub, Int.cast_mul, har, hai, hbr, hbi, cos_add]
    ring
  · simp only [Phasor.times, Int.cast_add, Int.cast_mul, har, hai, hbr, hbi, sin_add]
    ring

/-- A turn less leaves a vector where it lies. -/
theorem Phasor.At.sub_two_pi {v : Phasor} {α : ℝ} (h : v.At α) : v.At (α - 2 * π) := by
  simpa [Phasor.At, cos_sub_two_pi, sin_sub_two_pi] using h

/-- The half plane that `Phasor.lower` tells is that of the angles from π on. -/
theorem Phasor.At.lower_iff {v : Phasor} {α : ℝ} (h : v.At α) (h0 : 0 ≤ α) (h2 : α < 2 * π) :
    v.lower = true ↔ π ≤ α := by
  obtain ⟨r, hr, hre, him⟩ := h
  simp only [Phasor.lower, Bool.or_eq_true, Bool.and_eq_true, decide_eq_true_eq]
  rcases lt_trichotomy α π with hlt | heq | hgt
  · refine ⟨fun hl => ?_, fun hl => absurd hlt (not_lt.2 hl)⟩
    have nonneg : (0 : ℝ) ≤ v.im := by rw [him]; exact mul_nonneg hr.le (sin_nonneg_of_nonneg_of_le_pi h0 hlt.le)
    rcases hl with hl | ⟨hl, hneg⟩
    · exact absurd (Int.cast_lt_zero.2 hl) (not_lt.2 nonneg)
    · have flat : sin α = 0 := by
        have : r * sin α = 0 := by rw [← him, hl, Int.cast_zero]
        exact (mul_eq_zero.1 this).resolve_left hr.ne'
      have zero : α = 0 := (sin_eq_zero_iff_of_lt_of_lt (by linarith) hlt).1 flat
      have right : (0 : ℝ) < v.re := by rw [hre, zero, cos_zero]; linarith
      exact absurd (Int.cast_lt_zero.2 hneg) (not_lt.2 right.le)
  · refine ⟨fun _ => heq.ge, fun _ => .inr ⟨?_, ?_⟩⟩
    · exact_mod_cast (by rw [him, heq, sin_pi, mul_zero] : (v.im : ℝ) = 0)
    · exact_mod_cast (by rw [hre, heq, cos_pi]; linarith : (v.re : ℝ) < 0)
  · refine ⟨fun _ => hgt.le, fun _ => .inl ?_⟩
    have below : sin α < 0 := by
      have := sin_pos_of_pos_of_lt_pi (sub_pos.2 hgt) (by linarith : α - π < π)
      rw [sin_sub_pi] at this
      linarith
    exact_mod_cast (by rw [him]; exact mul_neg_of_pos_of_neg hr below : (v.im : ℝ) < 0)

/-! ## Windings -/

/-- A winding's total angle is `φ`: its whole turns, and the angle of its rest below a turn. -/
def Winding.Totals (w : Winding) (φ : ℝ) : Prop := ∃ α, 0 ≤ α ∧ α < 2 * π ∧ w.rest.At α ∧ φ = 2 * π * w.turns + α

theorem Winding.Totals.double {w : Winding} {φ : ℝ} (h : w.Totals φ) : w.double.Totals (2 * φ) := by
  obtain ⟨α, h0, h2, hat, rfl⟩ := h
  have squared : (w.rest.times w.rest).At (α + α) := hat.times hat
  have lower := hat.lower_iff h0 h2
  by_cases hl : w.rest.lower = true
  · refine ⟨α + α - 2 * π, by linarith [lower.1 hl], by linarith, squared.sub_two_pi, ?_⟩
    simp only [Winding.double, hl, if_true]
    push_cast
    ring
  · refine ⟨α + α, by linarith, by linarith [not_le.1 (mt lower.2 hl)], squared, ?_⟩
    simp only [Winding.double, hl]
    push_cast
    ring

theorem Winding.Totals.add {w : Winding} {z : Phasor} {φ θ : ℝ} (h : w.Totals φ) (hz : z.At θ) (hθ : 0 ≤ θ) (hθπ : θ ≤ π) :
    (w.add z).Totals (φ + θ) := by
  obtain ⟨α, h0, h2, hat, rfl⟩ := h
  have turned : (w.rest.times z).At (α + θ) := hat.times hz
  have lower := hat.lower_iff h0 h2
  by_cases hover : 2 * π ≤ α + θ
  · have upper : ¬(w.rest.times z).lower = true := fun hl => by
      have := (turned.sub_two_pi.lower_iff (by linarith) (by linarith)).1 hl
      linarith
    refine ⟨α + θ - 2 * π, by linarith, by linarith, turned.sub_two_pi, ?_⟩
    simp only [Winding.add, lower.2 (by linarith), upper]
    push_cast
    simp
    ring
  · have stays : (w.rest.lower && !(w.rest.times z).lower) = false := by
      by_cases hl : w.rest.lower = true
      · have := (turned.lower_iff (by linarith) (by linarith)).2 (by linarith [lower.1 hl])
        simp [this]
      · simp [hl]
    refine ⟨α + θ, by linarith, by linarith, turned, ?_⟩
    simp only [Winding.add, stays]
    push_cast
    simp
    ring

/-- Doubling and adding along some bits multiplies the angle by the number the bits spell. -/
theorem Winding.Totals.bits {z : Phasor} {θ : ℝ} (hz : z.At θ) (hθ : 0 ≤ θ) (hθπ : θ ≤ π) (bits : List Bool) (w : Winding)
    (n : ℕ) (h : w.Totals (n * θ)) :
    (bits.foldl (fun w b => if b then w.double.add z else w.double) w).Totals
      ((bits.foldl (fun n b => if b then 2 * n + 1 else 2 * n) n : ℕ) * θ) := by
  induction bits generalizing w n with
  | nil => exact h
  | cons b bits ih =>
    refine ih _ _ ?_
    cases b
    · simpa [mul_assoc] using h.double
    · have := h.double.add hz hθ hθπ
      simpa [mul_assoc, add_mul] using this

/-- The winding of 12000 steps of `z` totals 12000 times its angle. -/
theorem windSampleRate_totals {z : Phasor} {θ : ℝ} (hz : z.At θ) (hθ : 0 ≤ θ) (hθπ : θ ≤ π) :
    (windSampleRate z).Totals (12000 * θ) := by
  have start : Winding.Totals { turns := 0, rest := z } ((1 : ℕ) * θ) :=
    ⟨θ, hθ, by linarith [pi_pos], hz, by simp⟩
  exact Winding.Totals.bits hz hθ hθπ sampleRateBits _ 1 start

/-- Whole turns, and one more from half a turn on, are the total angle in turns rounded half up. -/
theorem Winding.Totals.rounded {w : Winding} {φ : ℝ} (h : w.Totals φ) :
    ((w.turns + (if w.rest.lower then 1 else 0) : ℕ) : ℤ) = ⌊φ / (2 * π) + 1 / 2⌋ := by
  obtain ⟨α, h0, h2, hat, rfl⟩ := h
  have lower := hat.lower_iff h0 h2
  have whole : (2 * π * w.turns + α) / (2 * π) = w.turns + α / (2 * π) := by field_simp
  have below : α / (2 * π) < 1 := (div_lt_one two_pi_pos).2 h2
  have above : 0 ≤ α / (2 * π) := div_nonneg h0 two_pi_pos.le
  rw [whole]
  symm
  rw [Int.floor_eq_iff]
  by_cases hl : w.rest.lower = true
  · have half : 1 / 2 ≤ α / (2 * π) := by rw [le_div_iff₀ two_pi_pos]; linarith [lower.1 hl]
    rw [if_pos hl]
    push_cast
    constructor <;> linarith
  · have half : α / (2 * π) < 1 / 2 := by rw [div_lt_iff₀ two_pi_pos]; linarith [not_le.1 (mt lower.2 hl)]
    rw [if_neg hl]
    push_cast
    constructor <;> linarith

/-! ## The discriminator (R1) -/

/-- A vector lies at its argument. -/
theorem Phasor.at_arg (z : Phasor) (hz : z ≠ ⟨0, 0⟩) : z.At (Complex.arg (Complex.mk (z.re : ℝ) (z.im : ℝ))) := by
  refine ⟨‖Complex.mk (z.re : ℝ) (z.im : ℝ)‖, norm_pos_iff.2 fun h => hz ?_, ?_, ?_⟩
  · obtain ⟨hre, him⟩ := Complex.ext_iff.1 h
    obtain ⟨re, im⟩ := z
    simp only [Complex.zero_re, Complex.zero_im, Int.cast_eq_zero] at hre him
    rw [hre, him]
  · exact (Complex.norm_mul_cos_arg ⟨z.re, z.im⟩).symm
  · exact (Complex.norm_mul_sin_arg ⟨z.re, z.im⟩).symm

/-- The phase advance found in whole numbers is the angle in turns of 12000, rounded half up, and 0 for a negative one (R1). -/
theorem frequencyOfAdvance_eq (z : Phasor) (hz : z ≠ ⟨0, 0⟩) : (frequencyOfAdvance z : ℤ) =
    max 0 ⌊Complex.arg (Complex.mk (z.re : ℝ) (z.im : ℝ)) * 12000 / (2 * π) + 1 / 2⌋ := by
  unfold frequencyOfAdvance
  split
  · rename_i hneg
    have negative : Complex.arg (Complex.mk (z.re : ℝ) (z.im : ℝ)) < 0 := 
      Complex.arg_neg_iff.2 (Int.cast_lt_zero.2 hneg)
    have : Complex.arg (Complex.mk (z.re : ℝ) (z.im : ℝ)) * 12000 / (2 * π) < 0 :=
      div_neg_of_neg_of_pos (by linarith) two_pi_pos
    have floored : ⌊Complex.arg (Complex.mk (z.re : ℝ) (z.im : ℝ)) * 12000 / (2 * π) + 1 / 2⌋ < 1 := by
      rw [Int.floor_lt]
      push_cast
      linarith
    omega
  · rename_i hpos
    have positive : 0 ≤ Complex.arg (Complex.mk (z.re : ℝ) (z.im : ℝ)) :=
      Complex.arg_nonneg_iff.2 (Int.cast_nonneg (not_lt.1 hpos))
    have rounded := (windSampleRate_totals (z.at_arg hz) positive (Complex.arg_le_pi _)).rounded
    rw [mul_comm, ← rounded]
    exact (max_eq_right (Int.natCast_nonneg _)).symm

/-- A phase advance is at most half the sample rate. -/
theorem frequencyOfAdvance_le (z : Phasor) (hz : z ≠ ⟨0, 0⟩) : frequencyOfAdvance z ≤ 6000 := by
  have atMost : Complex.arg (Complex.mk (z.re : ℝ) (z.im : ℝ)) * 12000 / (2 * π) ≤ 6000 := by
    rw [div_le_iff₀ two_pi_pos]
    linarith [Complex.arg_le_pi (Complex.mk (z.re : ℝ) (z.im : ℝ))]
  have floored : ⌊Complex.arg (Complex.mk (z.re : ℝ) (z.im : ℝ)) * 12000 / (2 * π) + 1 / 2⌋ < 6001 := by
    rw [Int.floor_lt]
    push_cast
    linarith
  have := frequencyOfAdvance_eq z hz
  omega

/-- The advance from one analytic sample to the next is the product of the one with the other's conjugate (R1). -/
theorem advance_eq_times (a p : Analytic) : Phasor.times ⟨a.re, a.im⟩ ⟨p.re, -p.im⟩ =
    ⟨a.re * p.re + a.im * p.im, a.im * p.re - a.re * p.im⟩ := by
  simp only [Phasor.times, Phasor.mk.injEq]
  constructor <;> ring

/-- Settles O12: the angle by `frequencyOfAdvance_eq`, whose bound makes the clamp of R1 idle. -/
theorem frequencyIsPhaseAdvance : Obligations.FrequencyIsPhaseAdvance := by
  refine ⟨frequencyOfAdvance_eq, fun a k => ⟨rfl, fun p => ?_⟩⟩
  simp only [frequencyOf, advance_eq_times]
  refine ⟨fun hz => ?_, ?_⟩
  · rw [if_neg hz, Nat.min_eq_left (frequencyOfAdvance_le _ hz)]
  · split <;> exact Nat.min_le_right _ _

end Sys2Proof.Machine
end

section
/-!
PROOF. Tones, grays, grades, fingerprints and the phasing pulse (GraysAndGradesFollowTones).
-/
namespace Sys2Proof.Machine

/-! ## Grays (R4) -/

theorem grays_length (held : Gray) (tones : List Nat) : (grays held tones).length = tones.length := by
  induction tones generalizing held with
  | nil => rfl
  | cons f t ih => simp [grays, ih]

/-- A valid tone gives its gray by the formula of R4, within four bits. -/
theorem grayOfTone_toNat (f : Nat) : (grayOfTone f).toNat = ((2300 - max 1500 (min f 2300)) * 15 + 400) / 800 := by
  simp only [grayOfTone, BitVec.toNat_ofNat]
  exact Nat.mod_eq_of_lt (by omega)

theorem grays_getD_valid (held : Gray) (tones : List Nat) (i : Nat) (h : i < tones.length) (hv : toneValid tones[i] = true) :
    (grays held tones).getD i 0 = grayOfTone tones[i] := by
  induction tones generalizing held i with
  | nil => simp at h
  | cons f t ih =>
    cases i with
    | zero => simp at hv; simp [grays, hv]
    | succ i => simpa [grays] using ih _ i (by simpa using h) (by simpa using hv)

/-- An invalid tone repeats the gray before it, `held` before the first. -/
theorem grays_getD_invalid (held : Gray) (tones : List Nat) (i : Nat) (h : i < tones.length) (hv : toneValid tones[i] = false) :
    (grays held tones).getD i 0 = if i = 0 then held else (grays held tones).getD (i - 1) 0 := by
  induction tones generalizing held i with
  | nil => simp at h
  | cons f t ih =>
    cases i with
    | zero => simp at hv; simp [grays, hv]
    | succ i =>
      have := ih (if toneValid f then grayOfTone f else held) i (by simpa using h) (by simpa using hv)
      cases i with
      | zero => simpa [grays] using this
      | succ i => simpa [grays] using this

theorem toneValid_iff (f : Nat) : toneValid f = true ↔ 1400 ≤ f ∧ f ≤ 2400 := by simp [toneValid]

/-! ## Invalid pixels and bursts (R5) -/

/-- The tone of pixel `j` of a line is there and invalid. -/
def invalidAt (tones : List Nat) (j : Nat) : Bool :=
  match tones[j]? with
  | some f => decide (f < 1400) || decide (2400 < f)
  | none => false

@[simp] theorem invalidAt_cons_zero (f : Nat) (t : List Nat) : invalidAt (f :: t) 0 = !toneValid f := by
  simp only [invalidAt, toneValid, List.getElem?_cons_zero]
  by_cases h1 : f < 1400 <;> by_cases h2 : 2400 < f <;> (simp [h1, h2]; try omega)

@[simp] theorem invalidAt_cons_succ (f : Nat) (t : List Nat) (j : Nat) : invalidAt (f :: t) (j + 1) = invalidAt t j := rfl

@[simp] theorem invalidAt_nil (j : Nat) : invalidAt [] j = false := rfl

/-- How many of the first numbers satisfy a condition, the first taken apart. -/
theorem length_filter_range_succ (p : Nat → Bool) (n : Nat) : ((List.range (n + 1)).filter p).length =
    (if p 0 then 1 else 0) + ((List.range n).filter (fun j => p (j + 1))).length := by
  rw [List.range_succ_eq_map, List.filter_cons, List.filter_map]
  split
  · rw [List.length_cons, List.length_map, Nat.add_comm]; rfl
  · rw [List.length_map, Nat.zero_add]; rfl

/-- E counts the pixels whose tone is invalid. -/
theorem invalidCount_eq (tones : List Nat) :
    invalidCount tones = ((List.range tones.length).filter (invalidAt tones)).length := by
  induction tones with
  | nil => rfl
  | cons f t ih =>
    rw [List.length_cons, length_filter_range_succ]
    simp only [invalidAt_cons_zero, invalidAt_cons_succ, invalidCount, List.filter_cons] at ih ⊢
    split
    · rw [List.length_cons, ih, Nat.add_comm]
    · rw [ih, Nat.zero_add]

/-- Three invalid pixels from `j` on, and none before `j`; `prev` says whether one stands before pixel 0. -/
def burstStart (prev : Bool) (tones : List Nat) (j : Nat) : Bool :=
  invalidAt tones j && invalidAt tones (j + 1) && invalidAt tones (j + 2) && !(if j = 0 then prev else invalidAt tones (j - 1))

/-- How many bursts start in a line. -/
def burstStarts (prev : Bool) (tones : List Nat) : Nat := ((List.range tones.length).filter (burstStart prev tones)).length

theorem burstStart_cons_succ (prev : Bool) (f : Nat) (t : List Nat) (j : Nat) :
    burstStart prev (f :: t) (j + 1) = burstStart (!toneValid f) t j := by
  cases j <;> simp [burstStart]

theorem burstStarts_cons (prev : Bool) (f : Nat) (t : List Nat) : burstStarts prev (f :: t) =
    (if !toneValid f && invalidAt t 0 && invalidAt t 1 && !prev then 1 else 0) + burstStarts (!toneValid f) t := by
  unfold burstStarts
  rw [List.length_cons, length_filter_range_succ]
  simp only [burstStart_cons_succ]
  have first : burstStart prev (f :: t) 0 = (!toneValid f && invalidAt t 0 && invalidAt t 1 && !prev) := by simp [burstStart]
  rw [first]

/-- B counts each maximal run of three or more where it starts: `run` invalid pixels already passed, a run of one or two makes a
burst where enough follow, one of three or more is one. -/
theorem burstCount_eq (tones : List Nat) : burstCount 0 tones = burstStarts false tones ∧
    burstCount 1 tones = (if invalidAt tones 0 && invalidAt tones 1 then 1 else 0) + burstStarts true tones ∧
    burstCount 2 tones = (if invalidAt tones 0 then 1 else 0) + burstStarts true tones ∧
    ∀ run, 3 ≤ run → burstCount run tones = 1 + burstStarts true tones := by
  induction tones with
  | nil =>
    refine ⟨rfl, rfl, rfl, fun run h => ?_⟩
    simp [burstCount, h, burstStarts]
  | cons f t ih =>
    obtain ⟨ih0, ih1, ih2, ih3⟩ := ih
    simp only [burstStarts_cons, invalidAt_cons_zero, invalidAt_cons_succ]
    cases hv : toneValid f
    · refine ⟨?_, ?_, ?_, fun run h => ?_⟩
      · simp [burstCount, hv, ih1]
      · simp [burstCount, hv, ih2]
      · simp [burstCount, hv, ih3]
      · simp [burstCount, hv, ih3 (run + 1) (by omega)]
    · refine ⟨?_, ?_, ?_, fun run h => ?_⟩
      · simp [burstCount, hv, ih0]
      · simp [burstCount, hv, ih0]
      · simp [burstCount, hv, ih0]
      · simp [burstCount, hv, ih0, h]

/-! ## The finished line (R3, R5, R6) -/

theorem State.lineTones_length (s : State) : s.lineTones.length = s.width := by simp [State.lineTones, pixelTones]

theorem State.width_cases (s : State) : s.width = 1024 ∨ s.width = 1536 ∨ s.width = 2048 := by
  unfold State.width widthOfCode
  split
  · exact .inl rfl
  · split
    · exact .inr (.inl rfl)
    · exact .inr (.inr rfl)

/-- The grade's subtractions never reach below 3 (R5). -/
theorem baseGrade_bounds (e b w : Nat) (he : e ≤ w) : 3 ≤ baseGrade e b w ∧ baseGrade e b w ≤ 255 := by
  have part : e * 192 / w ≤ 192 := Nat.div_le_of_le_mul (by rw [Nat.mul_comm w]; rw [Nat.mul_comm]; exact Nat.mul_le_mul_left _ he)
  have bursts := Nat.min_le_right b 15
  unfold baseGrade
  generalize e * 192 / w = lost at part ⊢
  omega

/-- The caps of the unphased flag and the level floor (R5). -/
theorem lineGrade_bounds (e b w : Nat) (unphased belowFloor : Bool) (he : e ≤ w) :
    3 ≤ lineGrade e b w unphased belowFloor ∧ lineGrade e b w unphased belowFloor ≤ 255 ∧
      (unphased = true → lineGrade e b w unphased belowFloor ≤ 127) ∧
      (belowFloor = true → lineGrade e b w unphased belowFloor ≤ 63) := by
  have := baseGrade_bounds e b w he
  unfold lineGrade
  cases unphased <;> cases belowFloor <;> simp <;> omega

/-- The mean of a pixel's samples, rounded half up (R3). -/
theorem pixelTone_spec (k : Nat) (a : Assembler) (j : Nat) (p : PixelSum) (h : Sparse.find a.sums j = some p)
    (hc : 0 < p.count) : 2 * p.count * pixelTone k a j ≤ 2 * p.total + p.count ∧
      2 * p.total + p.count < 2 * p.count * (pixelTone k a j + 1) := by
  have tone : pixelTone k a j = (2 * p.total + p.count) / (2 * p.count) := by
    simp [pixelTone, h, Nat.pos_iff_ne_zero.1 hc]
  rw [tone]
  exact ⟨Nat.mul_div_le _ _, Nat.lt_mul_div_succ _ (by omega)⟩

/-- A number formed bit by bit, the first bit the highest, has those bits. -/
theorem testBit_foldl_bits (bit : Nat → Bool) (n z : Nat) (h : z < n) :
    ((List.range n).foldl (fun acc z => 2 * acc + (if bit z then 1 else 0)) 0).testBit (n - 1 - z) = bit z := by
  induction n with
  | zero => omega
  | succ n ih =>
    rw [List.range_succ, List.foldl_append, List.foldl_cons, List.foldl_nil]
    generalize hacc : (List.range n).foldl (fun acc z => 2 * acc + (if bit z then 1 else 0)) 0 = acc at ih ⊢
    by_cases hz : z = n
    · subst hz
      cases bit z <;> simp [Nat.testBit_zero]
    · have place : n + 1 - 1 - z = n - 1 - z + 1 := by omega
      have half : (2 * acc + if bit n then 1 else 0) / 2 = acc := by split <;> omega
      rw [place, Nat.testBit_succ, half]
      exact ih (by omega)

/-- Zone `z`'s bit stands at 15 − z (R6). -/
theorem fingerprintOf_getLsbD (p : Pixels) (w z : Nat) (h : z < 16) :
    (fingerprintOf p w).getLsbD (15 - z) = zoneBit p (w / 16) z := by
  have := testBit_foldl_bits (zoneBit p (w / 16)) 16 z h
  simp only [fingerprintOf, BitVec.getLsbD_ofNat, show 15 - z < 16 by omega, decide_true, Bool.true_and]
  exact this

/-- The sum of a run of grays, each taken by its place; past the end there is nothing to add. -/
theorem graySum_take (p : Pixels) (n : Nat) :
    graySum (p.take n) = ((List.range n).map (fun i => (p.getD i 0).toNat)).sum := by
  induction n generalizing p with
  | zero => rfl
  | succ n ih =>
    rw [List.range_succ_eq_map, List.map_cons, List.map_map, List.sum_cons]
    cases p with
    | nil => simp [graySum, Function.comp_def]
    | cons g t =>
      have := ih t
      simp only [graySum, List.take_succ_cons, List.map_cons, List.sum_cons] at this ⊢
      rw [this]
      rfl

theorem zoneBit_iff (p : Pixels) (zone z : Nat) : zoneBit p zone z = true ↔
    8 * zone ≤ ((List.range zone).map (fun i => (p.getD (z * zone + i) 0).toNat)).sum := by
  have placed : ∀ i, (p.drop (z * zone)).getD i 0 = p.getD (z * zone + i) 0 := fun i => by
    simp [List.getD_eq_getElem?_getD]
  simp only [zoneBit, decide_eq_true_eq, graySum_take, placed]

/-! ## The phasing pulse (R11, R12) -/

/-- A run of white: `n` pixels from `x` on lie in the line, each of gray 3 or less. -/
def WhiteRun (p : Pixels) (x n : Nat) : Prop := x + n ≤ p.length ∧ ∀ i < n, (p.getD (x + i) 0).toNat ≤ 3

/-- `best` is the longest white run that ends by pixel `k`, the lowest of equals; it is empty where there is none. -/
structure PixelRun.BestBy (best : PixelRun) (p : Pixels) (k : Nat) : Prop where
  inside : 0 < best.length → WhiteRun p best.first best.length ∧ best.first + best.length ≤ k
  longest : ∀ x n, WhiteRun p x n → 0 < n → x + n ≤ k → n < best.length ∨ n = best.length ∧ best.first ≤ x

/-- `run` is the white run that reaches pixel `k`, from its first pixel on; it is empty where the pixel before `k` is not white. -/
structure PixelRun.Reaches (run : PixelRun) (p : Pixels) (k : Nat) : Prop where
  ends : 0 < run.length → WhiteRun p run.first run.length ∧ run.first + run.length = k
  widest : ∀ x n, WhiteRun p x n → 0 < n → x + n = k → 0 < run.length ∧ run.first ≤ x

/-- A run that goes on through a white pixel. -/
def PixelRun.extend (run : PixelRun) (k : Nat) : PixelRun := if run.length = 0 then ⟨k, 1⟩ else ⟨run.first, run.length + 1⟩

theorem PixelRun.extend_length (run : PixelRun) (k : Nat) : (run.extend k).length = run.length + 1 := by
  unfold PixelRun.extend; split <;> simp_all

/-- All but the last pixel of a run is a run. -/
theorem WhiteRun.init {p : Pixels} {x n : Nat} (h : WhiteRun p x (n + 1)) : WhiteRun p x n :=
  ⟨by have := h.1; omega, fun i hi => h.2 i (by omega)⟩

theorem PixelRun.Reaches.extend {run : PixelRun} {p : Pixels} {k : Nat} (h : run.Reaches p k) (hk : k < p.length)
    (hw : (p.getD k 0).toNat ≤ 3) : (run.extend k).Reaches p (k + 1) := by
  unfold PixelRun.extend
  split
  · rename_i hr
    refine ⟨fun _ => ⟨⟨hk, fun i hi => ?_⟩, rfl⟩, fun x n hx hn hend => ⟨Nat.one_pos, ?_⟩⟩
    · obtain rfl : i = 0 := Nat.lt_one_iff.1 hi
      exact hw
    · show k ≤ x
      obtain _ | _ | n := n
      · omega
      · omega
      · have := h.widest x (n + 1) hx.init (by omega) (by omega)
        omega
  · rename_i hr
    obtain ⟨⟨hin, hwhite⟩, hend⟩ := h.ends (by omega)
    refine ⟨fun _ => ⟨⟨by show run.first + (run.length + 1) ≤ _; omega, fun i hi => ?_⟩, by show run.first + (run.length + 1) = k + 1; omega⟩,
      fun x n hx hn hxn => ⟨Nat.succ_pos _, ?_⟩⟩
    · show (p.getD (run.first + i) 0).toNat ≤ 3
      by_cases hi' : i < run.length
      · exact hwhite i hi'
      · have : run.first + i = k := by have : i < run.length + 1 := hi; omega
        rw [this]
        exact hw
    · show run.first ≤ x
      obtain _ | _ | n := n
      · omega
      · omega
      · exact (h.widest x (n + 1) hx.init (by omega) (by omega)).2

/-- The longer of the best run and the one that reaches the pixel is the best by the pixel. -/
theorem PixelRun.BestBy.extend {run best : PixelRun} {p : Pixels} {k : Nat} (hb : best.BestBy p k)
    (hr : run.Reaches p (k + 1)) (hlen : 0 < run.length) :
    (if best.length < run.length then run else best).BestBy p (k + 1) := by
  obtain ⟨hrun, hend⟩ := hr.ends hlen
  have earlier : ∀ x n, WhiteRun p x n → 0 < n → x + n ≤ k + 1 → x + n ≤ k ∨ n ≤ run.length ∧ run.first ≤ x := by
    intro x n hx hn hxn
    by_cases h : x + n = k + 1
    · have := (hr.widest x n hx hn h).2
      exact .inr ⟨by omega, this⟩
    · exact .inl (by omega)
  split
  · rename_i hlt
    refine ⟨fun _ => ⟨hrun, hend.le⟩, fun x n hx hn hxn => ?_⟩
    rcases earlier x n hx hn hxn with h | ⟨h, hfirst⟩
    · have := hb.longest x n hx hn h
      omega
    · omega
  · rename_i hge
    obtain ⟨hbest, hbend⟩ := hb.inside (by omega)
    refine ⟨fun _ => ⟨hbest, by omega⟩, fun x n hx hn hxn => ?_⟩
    rcases earlier x n hx hn hxn with h | ⟨h, hfirst⟩
    · exact hb.longest x n hx hn h
    · omega

/-- The scan finds the best run of the whole line. -/
theorem longestWhiteRun_bestBy (p : Pixels) (k : Nat) (run best : PixelRun) (t : Pixels) (ht : p.drop k = t)
    (hk : k ≤ p.length) (hr : run.Reaches p k) (hb : best.BestBy p k) : (longestWhiteRun k run best t).BestBy p p.length := by
  induction t generalizing k run best with
  | nil =>
    have : p.length ≤ k := List.drop_eq_nil_iff.1 ht
    exact (Nat.le_antisymm hk this) ▸ hb
  | cons g t ih =>
    have inside : k < p.length := by
      by_contra h
      rw [List.drop_eq_nil_of_le (by omega)] at ht
      cases ht
    have here : p.getD k 0 = g := by
      rw [List.getD_eq_getElem _ _ inside]
      rw [List.drop_eq_getElem_cons inside] at ht
      exact (List.cons.inj ht).1
    have rest : p.drop (k + 1) = t := by rw [← List.drop_drop, ht]; rfl
    simp only [longestWhiteRun]
    split
    · rename_i hw
      have reaches : (run.extend k).Reaches p (k + 1) := hr.extend inside (by rw [here]; exact hw)
      have longer : 0 < (run.extend k).length := by rw [PixelRun.extend_length]; exact Nat.succ_pos _
      exact ih (k + 1) _ _ rest inside reaches (hb.extend reaches longer)
    · rename_i hw
      have broken : ∀ x n, WhiteRun p x n → 0 < n → x + n = k + 1 → False := by
        intro x n hx hn hxn
        have := hx.2 (n - 1) (by omega)
        rw [show x + (n - 1) = k by omega, here] at this
        exact hw this
      refine ih (k + 1) _ _ rest inside ⟨fun h => absurd h (lt_irrefl 0), fun x n hx hn hxn => (broken x n hx hn hxn).elim⟩
        ⟨fun h => ⟨(hb.inside h).1, Nat.le_succ_of_le (hb.inside h).2⟩, fun x n hx hn hxn => ?_⟩
      by_cases h : x + n = k + 1
      · exact (broken x n hx hn h).elim
      · exact hb.longest x n hx hn (by omega)

/-- The best run of a line, as the phasing pulse takes it. -/
theorem longestWhiteRun_spec (p : Pixels) : (longestWhiteRun 0 ⟨0, 0⟩ ⟨0, 0⟩ p).BestBy p p.length :=
  longestWhiteRun_bestBy p 0 _ _ p rfl (Nat.zero_le _)
    ⟨fun h => absurd h (lt_irrefl 0), fun x n _ hn h => by omega⟩ ⟨fun h => absurd h (lt_irrefl 0), fun x n _ hn h => by omega⟩

/-- A period is pulseless exactly when no white run is long enough (R11). -/
theorem pulsePosition_eq_none_iff (p : Pixels) (w : Nat) (hw : 40 ≤ w) :
    pulsePosition p w = none ↔ ∀ x, ¬WhiteRun p x (w / 40) := by
  have best := longestWhiteRun_spec p
  have pos : 0 < w / 40 := Nat.div_pos hw (by omega)
  unfold pulsePosition
  generalize longestWhiteRun 0 ⟨0, 0⟩ ⟨0, 0⟩ p = b at best
  dsimp only
  split
  · rename_i h
    obtain ⟨⟨hin, hwhite⟩, -⟩ := best.inside (by omega)
    simp only [reduceCtorEq, false_iff, not_forall, not_not]
    exact ⟨b.first, by omega, fun i hi => hwhite i (by omega)⟩
  · rename_i h
    refine ⟨fun _ x hx => ?_, fun _ => rfl⟩
    have := best.longest x _ hx pos hx.1
    omega

/-- The pulse position is the first pixel of the longest white run, the lowest of equals, where it is long enough (R11). -/
theorem pulsePosition_eq_some_iff (p : Pixels) (w x : Nat) (hw : 40 ≤ w) : pulsePosition p w = some x ↔
    ∃ n, w / 40 ≤ n ∧ WhiteRun p x n ∧ ∀ x' n', WhiteRun p x' n' → n' < n ∨ n' = n ∧ x ≤ x' := by
  have best := longestWhiteRun_spec p
  have pos : 0 < w / 40 := Nat.div_pos hw (by omega)
  unfold pulsePosition
  generalize longestWhiteRun 0 ⟨0, 0⟩ ⟨0, 0⟩ p = b at best
  constructor
  · intro h
    simp only [Option.ite_none_right_eq_some, Option.some.injEq] at h
    obtain ⟨hlong, rfl⟩ := h
    refine ⟨b.length, hlong, (best.inside (by omega)).1, fun x' n' hx' => ?_⟩
    by_cases hn : n' = 0
    · exact .inl (by omega)
    · exact best.longest x' n' hx' (by omega) hx'.1
  · rintro ⟨n, hlong, hx, hmax⟩
    have upper := best.longest x n hx (by omega) hx.1
    have lower := hmax b.first b.length (best.inside (by omega)).1
    have length : b.length = n := by omega
    have first : b.first = x := by omega
    simp [length, first, hlong]

theorem foldl_max_eq (l : List Nat) (a high : Nat) (ha : a ≤ high) (hmem : high = a ∨ high ∈ l) (hle : ∀ x ∈ l, x ≤ high) :
    l.foldl max a = high := by
  induction l generalizing a with
  | nil => exact (by simpa using hmem : high = a).symm
  | cons x t ih =>
    obtain ⟨hx, ht⟩ := List.forall_mem_cons.1 hle
    refine ih (max a x) (by omega) ?_ ht
    rcases hmem with h | h
    · exact .inl (by omega)
    · exact (List.mem_cons.1 h).imp (fun h => by omega) id

theorem foldl_min_eq (l : List Nat) (a low : Nat) (ha : low ≤ a) (hmem : low = a ∨ low ∈ l) (hle : ∀ x ∈ l, low ≤ x) :
    l.foldl (fun acc x => min acc x) a = low := by
  induction l generalizing a with
  | nil => exact (by simpa using hmem : low = a).symm
  | cons x t ih =>
    obtain ⟨hx, ht⟩ := List.forall_mem_cons.1 hle
    refine ih (min a x) (by omega) ?_ ht
    rcases hmem with h | h
    · exact .inl (by omega)
    · exact (List.mem_cons.1 h).imp (fun h => by omega) id

/-- The spread is the highest less the lowest (R12). -/
theorem spread_eq (l : List Nat) (low high : Nat) (hlow : low ∈ l) (hhigh : high ∈ l) (h : ∀ x ∈ l, low ≤ x ∧ x ≤ high) :
    spread l = high - low := by
  have head : low ≤ l.headD 0 := by
    cases l with
    | nil => cases hlow
    | cons x t => exact (h x List.mem_cons_self).1
  rw [spread, foldl_max_eq l 0 high (Nat.zero_le _) (.inr hhigh) (fun x hx => (h x hx).2),
    foldl_min_eq l _ low head (.inr hlow) (fun x hx => (h x hx).1)]

/-! ## The statement -/

/-- E and B of a line, counted over its pixels. -/
theorem State.lineTones_counts (s : State) :
    invalidCount s.lineTones = ((List.range s.width).filter (invalidAt s.lineTones)).length ∧
    burstCount 0 s.lineTones = ((List.range s.width).filter (fun j => invalidAt s.lineTones j && invalidAt s.lineTones (j + 1) &&
      invalidAt s.lineTones (j + 2) && (j == 0 || !invalidAt s.lineTones (j - 1)))).length := by
  rw [invalidCount_eq, (burstCount_eq s.lineTones).1, burstStarts, s.lineTones_length]
  refine ⟨rfl, congrArg List.length (List.filter_congr fun j _ => ?_)⟩
  cases j <;> simp [burstStart]

/-- The grade of a finished line, from the counts of its pixels (R5). -/
theorem State.finishedLine_grade (s : State) :
    let e := invalidCount s.lineTones
    let g0 := 255 - e * 192 / s.width - 4 * min (burstCount 0 s.lineTones) 15
    let g1 := if s.reception.unphased then min g0 127 else g0
    let belowFloor := s.reception.assembler.envelope / s.samples < 128 * (s.config.settings.floorCode + 1)
    s.finishedLine.grade = (if belowFloor then min g1 63 else g1) ∧ 3 ≤ s.finishedLine.grade ∧ s.finishedLine.grade ≤ 255 ∧
      (s.reception.unphased = true → s.finishedLine.grade ≤ 127) ∧ (belowFloor → s.finishedLine.grade ≤ 63) := by
  have few : invalidCount s.lineTones ≤ s.width := by
    rw [← s.lineTones_length]
    exact List.length_filter_le _ _
  have bounds := lineGrade_bounds (invalidCount s.lineTones) (burstCount 0 s.lineTones) s.width s.reception.unphased
    (decide (meanEnvelope s.reception.assembler s.samples < s.levelFloor)) few
  obtain ⟨h3, h255, h127, h63⟩ := bounds
  refine ⟨?_, h3, h255, h127, fun h => h63 (decide_eq_true h)⟩
  simp only [State.finishedLine, lineGrade, baseGrade, decide_eq_true_eq]
  rfl

/-- Settles O11, each clause by the law of the function that it speaks of. -/
theorem graysAndGradesFollowTones : Obligations.GraysAndGradesFollowTones := by
  refine ⟨fun tones i h => ⟨grays_length 0 tones, fun hv => ?_, fun hv => ?_⟩, fun s => ?_, fun s => ⟨s.lineTones_length, rfl,
    fun j p hj hp hc => ?_, fun z hz => ?_⟩, fun p w hw => ⟨pulsePosition_eq_none_iff p w hw,
    fun x => pulsePosition_eq_some_iff p w x hw⟩, spread_eq⟩
  · rw [grays_getD_valid 0 tones i h ((toneValid_iff _).2 hv), grayOfTone_toNat]
  · exact grays_getD_invalid 0 tones i h (by rw [← Bool.not_eq_true, toneValid_iff]; exact hv)
  · obtain ⟨he, hb⟩ := s.lineTones_counts
    have grade := s.finishedLine_grade
    rw [hb, he] at grade
    exact ⟨he, he, grade⟩
  · exact ⟨pixelTone s.reception.sampleCount s.reception.assembler j, by simp [State.lineTones, pixelTones, hj],
      pixelTone_spec _ _ _ _ hp hc⟩
  · show (fingerprintOf s.finishedLine.pixels s.width).getLsbD (15 - z) = true ↔ _
    rw [fingerprintOf_getLsbD _ _ _ hz, zoneBit_iff]

end Sys2Proof.Machine
end

section
/-!
PROOF. A confirmed start tone that adopts a chart (StartToneAdoptsChart), and the laws of choosing and taking up a record.
-/
namespace Sys2Proof.Machine

/-! ## The greatest and the least of a list -/

theorem mem_of_firstGreatest {α : Type} {f : α → Nat} {l : List α} {x : α} (h : firstGreatest f l = some x) : x ∈ l := by
  induction l generalizing x with
  | nil => cases h
  | cons y t ih =>
    simp only [firstGreatest] at h
    split at h
    · exact List.mem_cons.2 (.inl (Option.some.inj h).symm)
    · rename_i z hz
      split at h
      · exact List.mem_cons.2 (.inl (Option.some.inj h).symm)
      · obtain rfl := Option.some.inj h
        exact List.mem_cons_of_mem _ (ih hz)

theorem firstGreatest_eq_some {α : Type} {f : α → Nat} {l : List α} {x : α} (hx : x ∈ l)
    (h : ∀ y ∈ l, y ≠ x → f y < f x) : firstGreatest f l = some x := by
  induction l with
  | nil => cases hx
  | cons y t ih =>
    obtain ⟨hy, ht⟩ := List.forall_mem_cons.1 h
    simp only [firstGreatest]
    by_cases hyx : y = x
    · subst hyx
      split
      · rfl
      · rename_i z hz
        rw [if_pos]
        by_cases hzy : z = y
        · rw [hzy]
        · exact (ht z (mem_of_firstGreatest hz) hzy).le
    · rw [ih ((List.mem_cons.1 hx).resolve_left (Ne.symm hyx)) ht]
      exact if_neg (Nat.not_le.2 (hy hyx))

theorem mem_of_firstLeast {α : Type} {f : α → Nat} {l : List α} {x : α} (h : firstLeast f l = some x) : x ∈ l := by
  induction l generalizing x with
  | nil => cases h
  | cons y t ih =>
    simp only [firstLeast] at h
    split at h
    · exact List.mem_cons.2 (.inl (Option.some.inj h).symm)
    · rename_i z hz
      split at h
      · exact List.mem_cons.2 (.inl (Option.some.inj h).symm)
      · obtain rfl := Option.some.inj h
        exact List.mem_cons_of_mem _ (ih hz)

theorem firstLeast_eq_some {α : Type} {f : α → Nat} {l : List α} {x : α} (hx : x ∈ l)
    (h : ∀ y ∈ l, y ≠ x → f x < f y) : firstLeast f l = some x := by
  induction l with
  | nil => cases hx
  | cons y t ih =>
    obtain ⟨hy, ht⟩ := List.forall_mem_cons.1 h
    simp only [firstLeast]
    by_cases hyx : y = x
    · subst hyx
      split
      · rfl
      · rename_i z hz
        rw [if_pos]
        by_cases hzy : z = y
        · rw [hzy]
        · exact (ht z (mem_of_firstLeast hz) hzy).le
    · rw [ih ((List.mem_cons.1 hx).resolve_left (Ne.symm hyx)) ht]
      exact if_neg (Nat.not_le.2 (hy hyx))

/-! ## The record chosen -/

theorem isEnded_eq_false_iff (st : Station) (l : List Contributor) :
    isEnded st l = false ↔ ∀ x ∈ l, x.station = st → x.ended = none := by
  simp [isEnded, Option.isSome_iff_ne_none]

theorem State.adoptable_iff (s : State) (r : ChartRecord) : s.adoptable r = true ↔ r.state = .opened ∧ r.bound = false ∧
    (∀ x ∈ r.contributors, x.station = s.self → x.ended = none) ∧
    ∃ t, r.lastOpenHeard = some t ∧ s.now ≤ t + 10000000 := by
  simp only [State.adoptable, Bool.and_eq_true, decide_eq_true_eq, Bool.not_eq_true', Option.any_eq_true, and_assoc,
    isEnded_eq_false_iff]
  exact Iff.rfl

/-- Of the slots that qualify, the one that outranks the others is chosen; a slot number is listed once. -/
theorem mem_qualifying {α : Type} {l : List (Nat × α)} {c : Nat} {v : α} {P : α → Bool} (h : Sparse.Rising l)
    (hc : Sparse.find l c = some v) (hv : P v = true) : (c, v) ∈ l.filter (fun p => P p.2) ∧
    ∀ p ∈ l.filter (fun p => P p.2), p ≠ (c, v) → p ∈ l ∧ p.1 ≠ c ∧ P p.2 = true := by
  refine ⟨List.mem_filter.2 ⟨Sparse.mem_of_find hc, hv⟩, fun p hp hne => ?_⟩
  obtain ⟨hmem, hP⟩ := List.mem_filter.1 hp
  refine ⟨hmem, fun hpc => hne ?_, hP⟩
  obtain ⟨a, w⟩ := p
  obtain rfl : a = c := hpc
  rw [Sparse.find_of_mem h hmem] at hc
  rw [Option.some.inj hc]

/-- A slot in use lists its record. -/
theorem State.slot_of_record {s : State} {c : Nat} {r : ChartRecord} (h : s.record? c = some r) :
    ∃ sl, Sparse.find s.slots c = some sl ∧ sl.record = r := by
  simpa [State.record?, State.slot?] using h

theorem State.bestAdoptable_eq {s : State} {c : Nat} {r : ChartRecord} {heard : Nat} (ho : Sparse.Rising s.slots)
    (hr : s.record? c = some r) (ha : s.adoptable r = true) (hh : r.lastOpenHeard = some heard)
    (hbest : ∀ p ∈ s.slots, p.1 ≠ c → s.adoptable p.2.record = true → p.2.record.lastOpenHeard.getD 0 < heard) :
    s.bestAdoptable = some c := by
  obtain ⟨sl, hsl, rfl⟩ := State.slot_of_record hr
  obtain ⟨hmem, hrest⟩ := mem_qualifying (P := fun sl : Slot => s.adoptable sl.record) ho hsl ha
  have best : firstGreatest (fun p : Nat × Slot => p.2.record.lastOpenHeard.getD 0)
      (s.slots.filter (fun p => s.adoptable p.2.record)) = some (c, sl) := by
    refine firstGreatest_eq_some hmem fun p hp hne => ?_
    obtain ⟨hp, hpc, hpa⟩ := hrest p hp hne
    rw [hh]
    exact hbest p hp hpc hpa
  rw [State.bestAdoptable, best]
  rfl

/-! ## Taking up a record (R98) -/

theorem State.takeUp_eq (s : State) (c : Nat) (k : Key) (e : Nat) : s.takeUp c k e = takenUp s c k e := by
  unfold State.takeUp takenUp
  rw [State.retireWhere_eq, State.freePools_eq]
  simp only [bne, Bool.decide_and]
  rfl

/-- A record as it is bound and ALIGNING at an expected offset (R80, R81). -/
def ChartRecord.bindAt (r : ChartRecord) (self : Station) (e : Nat) (late : Bool) : ChartRecord :=
  { r with
    state := .aligning, bound := true, expected := some e, offset := none, ownLinesHanded := false
    late := r.late || late, contributors := contributorActive self r.contributors }

theorem State.bind_eq {s : State} {c : Nat} {r : ChartRecord} (h : s.record? c = some r) (e : Nat) (late : Bool) :
    s.bind c e late = { takenUp s c r.key e with
      slots := Sparse.modify s.slots c (fun sl => { sl with record := sl.record.bindAt s.self e late }) } := by
  unfold State.bind
  simp only [h, State.takeUp_eq]
  rfl

/-! ## A confirmed start tone in SEARCH (R9) -/

/-- What a started reception leaves of the unit's own fields. -/
def Reception.started (r : Reception) (binding : Option Nat) : Reception :=
  { r with
    state := .startTone, startRun := ToneRun.confirm r.startRun, lateCount := 0, unphased := false, origin := 0
    binding := binding }

/-- The unit as it asks the directory for a chart. -/
def Reception.asking (r : Reception) : Reception :=
  { r with startRun := ToneRun.confirm r.startRun, lateCount := 0, unphased := false, origin := 0 }

theorem State.exec_startTone_of_search {s : State} (hrun : s.config.state = .run) (hst : s.reception.state = .search)
    (hdue : s.reception.startDue = true) : exec .startToneConfirmed s = .next (State.settle
      ((State.requestStarted { s with reception := s.reception.asking }).2.modifyReception (fun r => { r with
        binding := (State.requestStarted { s with reception := s.reception.asking }).1, state := .startTone }))) := by
  have confirmed : s.startConfirmed = (s.modifyReception (fun r => { r with startRun := ToneRun.confirm r.startRun })).startReception := by
    simp [State.startConfirmed, hst]
  simp only [exec, execStartToneConfirmed, State.whenCan, State.running, hrun, hdue, confirmed]
  rfl

/-- Settles O24: the record is the greatest of the adoptable ones, and its binding takes it up. -/
theorem startToneAdoptsChart : Obligations.StartToneAdoptsChart := by
  intro s c r heard hrun hst hdue ho hr adoptable ha hbest
  obtain ⟨hopen, hbound, hself, hheard, hnow⟩ := ha
  have chosen : State.bestAdoptable { s with reception := s.reception.asking } = some c := by
    refine State.bestAdoptable_eq (s := { s with reception := s.reception.asking }) ho.slots hr
      ((State.adoptable_iff _ r).2 ⟨hopen, hbound, hself, heard, hheard, hnow⟩) hheard fun p hp hpc hpa => ?_
    obtain ⟨h1, h2, h3, t, ht, h4⟩ := (State.adoptable_iff _ _).1 hpa
    rw [ht]
    exact hbest p hp hpc t ⟨h1, h2, h3, ht, h4⟩
  rw [State.exec_startTone_of_search hrun hst hdue]
  simp only [State.requestStarted, chosen]
  rw [State.bind_eq (s := { s with reception := s.reception.asking }) hr]
  simp only [ChartRecord.bindAt, Bool.or_false]
  rfl

end Sys2Proof.Machine
end

section
/-!
PROOF. What the directory's report and a release leave alone: neither reads or changes the origin sequence or the RECEPTION UNIT's
own fields, the line buffers apart, so that they can be moved past each other.
-/
namespace Sys2Proof.Machine

/-- The state with another origin sequence and the RECEPTION UNIT's own fields changed. -/
def State.aside (s : State) (o : Byte) (f : Reception → Reception) : State :=
  { s with originSequence := o, reception := f s.reception }

/-- A change of the unit's own fields that has nothing to do with the line buffers. -/
structure LeavesBuffers (f : Reception → Reception) : Prop where
  buffers : ∀ r, (f r).buffers = r.buffers
  apart : ∀ r b, f { r with buffers := b } = { f r with buffers := b }

variable (s : State) (o : Byte) (f : Reception → Reception)

theorem State.modifyReception_eq_aside : s.modifyReception f = s.aside s.originSequence f := rfl

theorem State.aside_ite {c : Prop} [Decidable c] (t u : State) :
    (if c then t.aside o f else u.aside o f) = (if c then t else u).aside o f := by split <;> rfl

theorem State.makeRead_aside : (s.aside o f).makeRead = s.makeRead.aside o f := by
  unfold State.makeRead
  cases h : s.port.read <;> simp only [State.aside, h]
  rfl

/-- The state after a write in progress that is cancelled was cut short. -/
def State.cutBy (s : State) (p : Write → Bool) : State :=
  match s.lineTable.queue with
  | w :: _ => if s.lineTable.started && p w then s.interruptWrite w else s
  | [] => s

theorem State.cancelWrites_eq_cutBy (p : Write → Bool) : s.cancelWrites p = { s.cutBy p with
    lineTable := { s.lineTable with
      queue := s.lineTable.queue.filter (fun w => !p w)
      started := s.lineTable.started && s.lineTable.queue.head?.any (fun w => !p w) } } := rfl

theorem State.cutBy_aside (p : Write → Bool) : (s.aside o f).cutBy p = (s.cutBy p).aside o f := by
  unfold State.cutBy
  show (match s.lineTable.queue with | w :: _ => _ | [] => _) = _
  cases s.lineTable.queue with
  | nil => rfl
  | cons w t => exact State.aside_ite o f (s.interruptWrite w) s

theorem State.cancelWrites_aside (p : Write → Bool) : (s.aside o f).cancelWrites p = (s.cancelWrites p).aside o f := by
  rw [State.cancelWrites_eq_cutBy, State.cancelWrites_eq_cutBy, State.cutBy_aside]
  rfl

theorem State.startNext_aside : (s.aside o f).startNext = s.startNext.aside o f := by
  unfold State.startNext
  show (match s.lineTable.queue with | [] => _ | w :: t => _) = _
  cases s.lineTable.queue with
  | nil => rfl
  | cons w t =>
    dsimp only
    rw [← State.aside_ite]
    rfl

theorem State.retireWhere_aside (p : FetchEntry → Bool) :
    (s.aside o f).retireWhere p false = (s.retireWhere p false).aside o f := by
  rw [State.retireWhere_eq, State.retireWhere_eq]
  rfl

theorem State.formSegments_aside : (s.aside o f).formSegments = s.formSegments.aside o f := by
  unfold State.formSegments
  show (match s.fetch.bodies with | b :: t => _ | [] => _) = _
  cases s.fetch.bodies with
  | nil => rfl
  | cons b t =>
    dsimp only
    cases b.snapshot with
    | none => rfl
    | some snap => cases b.formed <;> rfl

theorem State.withdrawBodies_aside (c : Nat) : (s.aside o f).withdrawBodies c = (s.withdrawBodies c).aside o f := by
  unfold State.withdrawBodies
  rw [← State.formSegments_aside]
  rfl

theorem State.queueBatch_aside : (s.aside o f).queueBatch = s.queueBatch.aside o f := by
  unfold State.queueBatch
  show (match s.fetch.batch with | none => _ | some b => _) = _
  cases s.fetch.batch with
  | none => rfl
  | some b =>
    dsimp only
    rw [← State.aside_ite]
    congr 1
    show (match s.record? b.slot with | none => _ | some r => _) = _
    cases s.record? b.slot with
    | none => rfl
    | some r =>
      dsimp only
      show (match s.link.queueTally (s.tallyOf b r.key) with | some l => _ | none => _) = _
      cases s.link.queueTally (s.tallyOf b r.key) <;> rfl

theorem State.queueOpenClose_eq (p : Payload) :
    s.queueOpenClose p = { s with link := (s.link.queueOpenClose p).getD s.link } := by
  unfold State.queueOpenClose
  cases s.link.queueOpenClose p <;> rfl

theorem State.closingTest_aside (c : Nat) : (s.aside o f).closingTest c = (s.closingTest c).aside o f := by
  unfold State.closingTest
  show (match s.record? c with | some r => _ | none => _) = _
  cases s.record? c with
  | none => rfl
  | some r =>
    dsimp only
    rw [← State.aside_ite]
    rfl

theorem State.abandon_aside (c : Nat) : (s.aside o f).abandon c = (s.abandon c).aside o f := by
  simp only [State.abandon, State.freeAndCancel, State.freePools_eq]
  rw [← State.startNext_aside]
  congr 1
  have cancelled := State.cancelWrites_aside { s with
    lineTable := { s.lineTable with requests := s.lineTable.requests.filter (fun q => q != QuietRequest.splitClear c) }
    alignment := Alignment.reset } o f (fun w => (s.alignment.provisional.map HeldLine.entry).any w.intoPool)
  simp only [State.aside] at cancelled ⊢
  rw [cancelled]
  rfl

/-- The batch goes out where it stands for a slot. -/
def State.flush (s : State) (c : Nat) : State := if s.fetch.batch.any (fun b => b.slot = c) then s.queueBatch else s

theorem State.flush_aside (c : Nat) : (s.aside o f).flush c = (s.flush c).aside o f := by
  unfold State.flush
  rw [State.queueBatch_aside]
  exact State.aside_ite o f _ _

/-- The record and the link as the report of an end leaves them, before a chart still ALIGNING is abandoned (R91). -/
def State.reported (s : State) (c : Nat) (r : ChartRecord) (reason : CloseReason) : State :=
  { s with
    slots := Sparse.modify s.slots c (fun sl => { sl with record := { sl.record with
      bound := false, contributors := contributorEnds s.self .close sl.record.contributors, lastCloseReason := some reason } })
    link := (s.link.queueOpenClose (.chartClose { key := r.key, reason := reason, lastLine := r.lastOwn })).getD s.link }

/-- The report of an end: the record and the link, the abandonment, the batch, the closing test (R91). -/
theorem State.endReport_eq {s : State} {c : Nat} {r : ChartRecord} (h : s.record? c = some r) (reason : CloseReason) :
    s.endReport c reason =
      ((if r.state = .aligning then (s.reported c r reason).abandon c else s.reported c r reason).flush c).closingTest c := by
  unfold State.endReport
  simp only [h, State.queueOpenClose_eq]
  rfl

theorem State.endReport_of_unused {s : State} {c : Nat} (h : s.record? c = none) (reason : CloseReason) :
    s.endReport c reason = s := by
  unfold State.endReport
  simp only [h]

theorem State.endReport_aside (c : Nat) (reason : CloseReason) :
    (s.aside o f).endReport c reason = (s.endReport c reason).aside o f := by
  have used : (s.aside o f).record? c = s.record? c := rfl
  cases h : s.record? c with
  | none => rw [State.endReport_of_unused h, State.endReport_of_unused (used.trans h)]
  | some r =>
    have reported : (s.aside o f).reported c r reason = (s.reported c r reason).aside o f := rfl
    rw [State.endReport_eq h, State.endReport_eq (used.trans h), reported, State.abandon_aside,
      State.aside_ite, State.flush_aside, State.closingTest_aside]

/-- The report changes none of the unit's own fields. -/
@[simp] theorem State.endReport_reception (c : Nat) (reason : CloseReason) : (s.endReport c reason).reception = s.reception := by
  have moved := congrArg State.reception (s.endReport_aside s.originSequence (fun _ => s.reception) c reason)
  exact moved

/-! ## A release -/

/-- The requests for a slot and its buffered lines go (R40). -/
def State.dropLines (s : State) (c : Nat) : State :=
  { s with
    lineTable := { s.lineTable with
      requests := s.lineTable.requests.filter (fun q => q != QuietRequest.splitClear c && q != QuietRequest.freeze c) }
    reception := { s.reception with buffers := s.reception.buffers.filter (fun b => b.slot != c) } }

theorem State.releaseLines_eq (c : Nat) : s.releaseLines c =
    (((if s.port.read.any (fun r => r.slot = c) then s.makeRead else s).dropLines c).cancelWrites (fun w => w.slot = c)) := rfl

theorem State.dropLines_aside (hf : LeavesBuffers f) (c : Nat) : (s.aside o f).dropLines c = (s.dropLines c).aside o f := by
  have apart := hf.apart s.reception (s.reception.buffers.filter (fun b => b.slot != c))
  simp only [State.aside, State.dropLines, hf.buffers, apart]

theorem State.releaseLines_aside (hf : LeavesBuffers f) (c : Nat) :
    (s.aside o f).releaseLines c = (s.releaseLines c).aside o f := by
  have read : (s.aside o f).port.read = s.port.read := rfl
  rw [State.releaseLines_eq, State.releaseLines_eq, read, State.makeRead_aside, State.aside_ite, State.dropLines_aside _ o f hf,
    State.cancelWrites_aside]

theorem State.releaseFetch_aside (c : Nat) (k : Key) : (s.aside o f).releaseFetch c k = (s.releaseFetch c k).aside o f := by
  unfold State.releaseFetch
  dsimp only
  rw [State.retireWhere_aside]
  have timers : ∀ t : State, (t.aside o f).cancelTimers (fun t => t.key == k) = (t.cancelTimers (fun t => t.key == k)).aside o f :=
    fun t => rfl
  rw [timers, State.withdrawBodies_aside]
  generalize State.withdrawBodies _ c = t
  have batch : (t.aside o f).fetch.batch = t.fetch.batch := rfl
  have cleared : (t.aside o f).setBatch none = (t.setBatch none).aside o f := rfl
  simp only [batch, cleared, State.aside_ite]
  rfl

theorem State.releasePool_aside (c : Nat) : (s.aside o f).releasePool c = (s.releasePool c).aside o f := by
  unfold State.releasePool
  dsimp only
  rw [← State.aside_ite]
  rfl

theorem State.releaseAlignment_aside (c : Nat) : (s.aside o f).releaseAlignment c = (s.releaseAlignment c).aside o f := by
  unfold State.releaseAlignment
  rw [← State.aside_ite]
  rfl

/-- A release moves past a change of the unit's own fields (R40, R95). -/
theorem State.releaseSlot_aside (hf : LeavesBuffers f) (c : Nat) :
    (s.aside o f).releaseSlot c = (s.releaseSlot c).aside o f := by
  unfold State.releaseSlot
  show (match s.record? c with | none => _ | some r => _) = _
  cases s.record? c with
  | none => rfl
  | some r =>
    dsimp only
    rw [State.releaseLines_aside s o f hf, State.releaseFetch_aside, State.releaseAlignment_aside, State.releasePool_aside]
    rw [← State.startNext_aside, ← State.aside_ite]
    rfl

end Sys2Proof.Machine
end

section
/-!
PROOF. A confirmed start tone that makes a chart (StartToneOriginatesChart): the sequence number found, the slot had, the record made.
-/
namespace Sys2Proof.Machine

variable {s t u : State}

/-! ## What stands while slots are released -/

/-- The settings, the time, the queue of OPENs and CLOSEs and the order of the slots stand. -/
structure State.Stands (s t : State) : Prop where
  config : t.config = s.config
  now : t.now = s.now
  openClose : t.link.openClose = s.link.openClose
  mute : t.link.mute = s.link.mute
  attempt : t.link.attempt = s.link.attempt
  rising : Sparse.Rising s.slots → Sparse.Rising t.slots

theorem State.Stands.refl (s : State) : s.Stands s := ⟨rfl, rfl, rfl, rfl, rfl, id⟩

theorem State.Stands.trans (h : s.Stands t) (k : t.Stands u) : s.Stands u where
  config := k.config.trans h.config
  now := k.now.trans h.now
  openClose := k.openClose.trans h.openClose
  mute := k.mute.trans h.mute
  attempt := k.attempt.trans h.attempt
  rising := fun r => k.rising (h.rising r)

theorem State.Stands.ite {c : Prop} [Decidable c] (h : s.Stands t) (k : s.Stands u) : s.Stands (if c then t else u) := by
  split
  · exact h
  · exact k

theorem State.makeRead_stands (s : State) : s.Stands s.makeRead := by
  unfold State.makeRead
  split
  · exact ⟨rfl, rfl, rfl, rfl, rfl, id⟩
  · exact .refl s

theorem State.cancelWrites_stands (s : State) (p : Write → Bool) : s.Stands (s.cancelWrites p) := by
  obtain ⟨m, i, h, -⟩ := s.cancelWrites_eq p
  rw [h]
  exact ⟨rfl, rfl, rfl, rfl, rfl, id⟩

theorem State.retireWhere_stands (s : State) (p : FetchEntry → Bool) : s.Stands (s.retireWhere p false) := by
  rw [State.retireWhere_eq]
  exact ⟨rfl, rfl, rfl, rfl, rfl, id⟩

theorem State.formSegments_stands (s : State) : s.Stands s.formSegments := by
  unfold State.formSegments
  split
  · split
    · exact ⟨rfl, rfl, rfl, rfl, rfl, id⟩
    · exact .refl s
  · exact .refl s

theorem State.withdrawBodies_stands (s : State) (c : Nat) : s.Stands (s.withdrawBodies c) := by
  unfold State.withdrawBodies
  dsimp only
  refine State.Stands.trans ?_ (State.formSegments_stands _)
  split <;> exact ⟨rfl, rfl, rfl, rfl, rfl, id⟩

theorem State.startNext_stands (s : State) : s.Stands s.startNext := by constructor <;> simp

theorem State.releaseLines_stands (s : State) (c : Nat) : s.Stands (s.releaseLines c) := by
  rw [State.releaseLines_eq]
  refine State.Stands.trans ?_ (State.cancelWrites_stands _ _)
  have dropped : ∀ x : State, x.Stands (x.dropLines c) := fun _ => ⟨rfl, rfl, rfl, rfl, rfl, id⟩
  exact (s.makeRead_stands.ite (.refl s)).trans (dropped _)

theorem State.releaseFetch_stands (s : State) (c : Nat) (k : Key) : s.Stands (s.releaseFetch c k) := by
  unfold State.releaseFetch
  dsimp only
  have timers : ∀ x : State, x.Stands (x.cancelTimers (fun t => t.key == k)) := fun _ => ⟨rfl, rfl, rfl, rfl, rfl, id⟩
  refine (((s.retireWhere_stands (fun e => e.slot = c)).trans (timers _)).trans (State.withdrawBodies_stands _ c)).trans ?_
  split <;> exact ⟨rfl, rfl, rfl, rfl, rfl, id⟩

theorem State.releaseAlignment_stands (s : State) (c : Nat) : s.Stands (s.releaseAlignment c) :=
  State.Stands.ite ⟨rfl, rfl, rfl, rfl, rfl, id⟩ (.refl s)

theorem State.releasePool_stands (s : State) (c : Nat) : s.Stands (s.releasePool c) :=
  State.Stands.ite ⟨rfl, rfl, rfl, rfl, rfl, id⟩ ⟨rfl, rfl, rfl, rfl, rfl, id⟩

theorem State.removeSlot_stands (s : State) (c order : Nat) : s.Stands (s.removeSlot c order) :=
  ⟨rfl, rfl, rfl, rfl, rfl, fun h => Sparse.rising_map _ (fun _ => rfl) (Sparse.rising_erase c h)⟩

theorem State.releaseSlot_stands (s : State) (c : Nat) : s.Stands (s.releaseSlot c) := by
  unfold State.releaseSlot
  split
  · exact .refl s
  · rename_i r _
    dsimp only
    refine State.Stands.trans ?_ (State.startNext_stands _)
    refine (((((s.releaseLines_stands c).trans (State.releaseFetch_stands _ c r.key)).trans
      (State.releaseAlignment_stands _ c)).trans (State.releasePool_stands _ c)).trans
      (State.removeSlot_stands _ c (r.closeOrder.getD 0))).trans ?_
    split <;> exact ⟨rfl, rfl, rfl, rfl, rfl, id⟩

theorem State.Stands.modifyReception (h : s.Stands t) {f : Reception → Reception} :
    (s.modifyReception f).Stands (t.modifyReception f) := ⟨h.config, h.now, h.openClose, h.mute, h.attempt, h.rising⟩

/-- Whether a frame finds a place in the queue of OPENs and CLOSEs is told by what stands. -/
theorem State.Stands.queued_isSome (h : s.Stands t) (p : Payload) :
    (t.link.queueOpenClose p).isSome = (s.link.queueOpenClose p).isSome := by
  simp only [Link.queueOpenClose, Link.inFlight, h.mute, h.openClose, h.attempt]
  split
  · rfl
  · simp

/-! ## The sequence number (R79) -/

/-- The slot and contents under which this station's chart of a sequence number stands. -/
def State.holder (s : State) (q : Byte) : Option (Nat × Slot) :=
  s.slots.find? (fun p => p.2.record.key == { origin := s.self, sequence := q })

/-- A slot may be evicted: its chart is CLOSED and not held (R78). -/
def Slot.Evictable (sl : Slot) : Prop := sl.record.state = .closed ∧ sl.record.hold = .none

theorem State.usableSequence_skip {s : State} {q : Byte} {p : Nat × Slot} (h : s.holder q = some p) (he : ¬p.2.Evictable)
    (fuel : Nat) : s.usableSequence (fuel + 1) q = s.usableSequence fuel (q + 1) := by
  obtain ⟨c, sl⟩ := p
  unfold State.holder at h
  simp only [State.usableSequence, h]
  exact if_neg (by simpa [Slot.Evictable] using he)

theorem State.usableSequence_free {s : State} {q : Byte} (h : s.holder q = none) (fuel : Nat) :
    s.usableSequence (fuel + 1) q = (q, none) := by
  unfold State.holder at h
  simp only [State.usableSequence, h]

theorem State.usableSequence_evict {s : State} {q : Byte} {p : Nat × Slot} (h : s.holder q = some p) (he : p.2.Evictable)
    (fuel : Nat) : s.usableSequence (fuel + 1) q = (q, some p.1) := by
  obtain ⟨c, sl⟩ := p
  unfold State.holder at h
  simp only [State.usableSequence, h]
  exact if_pos (by simpa [Slot.Evictable] using he)

/-- Numbers whose key is in use are passed over. -/
theorem State.usableSequence_add {s : State} {q : Byte} (k fuel : Nat)
    (h : ∀ j < k, ∃ p, s.holder (q + BitVec.ofNat 8 j) = some p ∧ ¬p.2.Evictable) :
    s.usableSequence (fuel + k) q = s.usableSequence fuel (q + BitVec.ofNat 8 k) := by
  induction k generalizing q with
  | zero => simp
  | succ k ih =>
    have next : ∀ j, q + 1 + BitVec.ofNat 8 j = q + BitVec.ofNat 8 (j + 1) := fun j => by
      rw [BitVec.ofNat_add, BitVec.add_assoc, BitVec.add_comm (BitVec.ofNat 8 j)]
      rfl
    obtain ⟨p, hp, he⟩ := h 0 (Nat.succ_pos k)
    rw [BitVec.add_zero] at hp
    rw [← Nat.add_assoc, State.usableSequence_skip hp he, ih fun j hj => ?_, next]
    rw [next]
    exact h (j + 1) (Nat.succ_lt_succ hj)

/-- The number that R79 gives is the one found, and the release that frees it the one made. -/
theorem State.originKey_eq {q : Byte} (h : originates s q u) :
    s.originKey = ({ origin := s.self, sequence := q }, { u with originSequence := q + 1 }) := by
  obtain ⟨⟨k, hk, rfl, hskip⟩, hq⟩ := h
  obtain ⟨fuel, hfuel⟩ : ∃ fuel, 256 = fuel + 1 + k := ⟨255 - k, by omega⟩
  have found := State.usableSequence_add (s := s) (q := s.originSequence) k (fuel + 1) hskip
  unfold State.originKey
  rw [hfuel, found]
  rcases hq with ⟨hfree, rfl⟩ | ⟨p, hp, he, rfl⟩
  · rw [State.usableSequence_free hfree]
  · rw [State.usableSequence_evict hp he]
    have self : (s.releaseSlot p.1).self = s.self := congrArg (fun x => x.settings.station) (s.releaseSlot_stands p.1).config
    simp only [self]

theorem originates_stands {s u : State} {q : Byte} (h : originates s q u) : s.Stands u := by
  obtain ⟨-, ⟨-, rfl⟩ | ⟨p, -, -, rfl⟩⟩ := h
  · exact .refl _
  · exact s.releaseSlot_stands p.1

/-! ## A slot for the chart (R77, R78) -/

theorem Sparse.find_lowestFree {α : Type} {m : List (Nat × α)} (n : Nat) (h : Sparse.Rising m) :
    n ≤ Sparse.lowestFree m n ∧ Sparse.find m (Sparse.lowestFree m n) = none := by
  induction m generalizing n with
  | nil => exact ⟨Nat.le_refl n, rfl⟩
  | cons p t ih =>
    obtain ⟨k, w⟩ := p
    obtain ⟨hfirst, ht⟩ := List.pairwise_cons.1 h
    simp only [Sparse.lowestFree]
    split
    · obtain ⟨hle, hnone⟩ := ih (n + 1) ht
      exact ⟨by omega, by rw [Sparse.find_cons, if_neg (by omega), hnone]⟩
    · split
      · obtain ⟨hle, hnone⟩ := ih n ht
        exact ⟨hle, by rw [Sparse.find_cons, if_neg (by omega), hnone]⟩
      · refine ⟨Nat.le_refl n, ?_⟩
        rw [Sparse.find_cons, if_neg (by omega)]
        by_contra hne
        obtain ⟨v, hv⟩ := Option.ne_none_iff_exists'.1 hne
        have : k < n := hfirst _ (Sparse.mem_of_find hv)
        omega

theorem State.allocate_free {c : Nat} (ho : Sparse.Rising s.slots) (hfree : s.slot? c = none)
    (hlow : ∀ b < c, (s.slot? b).isSome) (hc : c < s.slotCount) : s.allocate = some (c, s) := by
  have lowest := Sparse.lowestFree_eq s.slots 0 c ho hfree (Nat.zero_le c) (fun b _ hb => hlow b hb)
  unfold State.allocate
  simp only [lowest, hc, if_true]

theorem State.allocate_full (ho : Sparse.Rising s.slots) (hfull : ∀ b < s.slotCount, (s.slot? b).isSome) :
    s.allocate = s.evictable.map (fun c => (c, s.releaseSlot c)) := by
  have lowest := (Sparse.find_lowestFree 0 ho).2
  unfold State.allocate
  refine if_neg fun hlt => ?_
  have := hfull _ hlt
  rw [State.slot?, lowest] at this
  cases this

theorem State.evictable_eq {c : Nat} {r : ChartRecord} (ho : Sparse.Rising s.slots) (hr : s.record? c = some r)
    (hclosed : r.state = .closed) (hhold : r.hold = .none)
    (hleast : ∀ p ∈ s.slots, p.1 ≠ c → p.2.record.state = .closed → p.2.record.hold = .none →
      r.closeOrder.getD 0 < p.2.record.closeOrder.getD 0) : s.evictable = some c := by
  obtain ⟨sl, hsl, rfl⟩ := State.slot_of_record hr
  obtain ⟨hmem, hrest⟩ := mem_qualifying (P := fun sl : Slot => sl.record.state = .closed && sl.record.hold = .none) ho hsl
    (by simp [hclosed, hhold])
  have least : firstLeast (fun p : Nat × Slot => p.2.record.closeOrder.getD 0)
      (s.slots.filter (fun p => p.2.record.state = .closed && p.2.record.hold = .none)) = some (c, sl) := by
    refine firstLeast_eq_some hmem fun p hp hne => ?_
    obtain ⟨hp, hpc, hq⟩ := hrest p hp hne
    obtain ⟨hq1, hq2⟩ := (Bool.and_eq_true _ _).mp hq
    exact hleast p hp hpc (of_decide_eq_true hq1) (of_decide_eq_true hq2)
  rw [State.evictable, least]
  rfl

theorem State.evictable_none (h : ∀ p ∈ s.slots, p.2.record.state = .closed → p.2.record.hold ≠ .none) :
    s.evictable = none := by
  have nothing : s.slots.filter (fun p => p.2.record.state = .closed && p.2.record.hold = .none) = [] := by
    simpa [List.filter_eq_nil_iff] using h
  rw [State.evictable, nothing]
  rfl

/-! ## The chart originated (R80, R81) -/

/-- A chart's record as its originator makes it, with its OPEN not yet queued. -/
def State.originated (s : State) (k : Key) (late : Bool) : ChartRecord :=
  { s.newRecord k with
    offset := some 0, bound := true, late := late, contributors := [{ station := s.self, ended := none }] }

/-- The OPEN of a chart that this station originates. -/
def State.ownOpenFrame (s : State) (k : Key) (late : Bool) : Payload :=
  .chartOpen { key := k, rate := s.config.settings.rate, width := s.config.settings.width, late := late, split := false
               reannounce := false, highest := 0 }

/-- The state once a chart was made in slot `c` of `v`. -/
def State.chartMade (v : State) (q : Byte) (c : Nat) (late : Bool) : State :=
  let key : Key := { origin := v.self, sequence := q }
  let link := v.link.queueOpenClose (v.ownOpenFrame key late)
  { v with
    originSequence := q + 1
    slots := Sparse.put v.slots c
      { record := { v.originated key late with ownOpen := if link.isSome then .queued else .done }, entries := [], rows := [] }
    link := link.getD v.link
    attention := { v.attention with events := insertEvent ⟨.chartOpened, c⟩ v.attention.events } }

theorem State.originate_of_some {v : State} {q : Byte} {c : Nat} (late : Bool) (h : originates s q u)
    (ha : State.allocate { u with originSequence := q + 1 } = some (c, { v with originSequence := q + 1 }))
    (hv : u.Stands v) (ho : Sparse.Rising v.slots) : s.originate late = (some c, v.chartMade q c late) := by
  have self : v.self = s.self := congrArg (fun x => x.settings.station) ((originates_stands h).trans hv).config
  have record : State.originated { u with originSequence := q + 1 } { origin := s.self, sequence := q } late =
      v.originated { origin := v.self, sequence := q } late := by
    simp only [State.originated, State.newRecord, State.quietTime, State.linePeriod, State.period, State.self] at self ⊢
    rw [hv.config, hv.now, ← self, hv.config]
  have made : s.originate late = (some c, State.queueOwnOpen (State.post { v with
      originSequence := q + 1
      slots := Sparse.put v.slots c { record := v.originated { origin := v.self, sequence := q } late, entries := [], rows := [] } }
      .chartOpened c) c false) := by
    unfold State.originate
    rw [← record]
    simp only [State.originKey_eq h, State.create, ha]
    rfl
  rw [made]
  congr 1
  unfold State.queueOwnOpen State.record? State.slot?
  simp only [State.post_slots, Sparse.find_put_same, Option.map_some, State.post_link]
  unfold State.chartMade
  dsimp only
  show (match v.link.queueOpenClose (v.ownOpenFrame { origin := v.self, sequence := q } late) with | some l => _ | none => _) = _
  cases v.link.queueOpenClose (v.ownOpenFrame { origin := v.self, sequence := q } late) with
  | none => simp [State.modifyRecord, State.modifySlot, Sparse.modify_put _ _ _ _ ho]
  | some l => simp [State.modifyRecord, State.modifySlot, Sparse.modify_put _ _ _ _ ho]

theorem State.originate_of_none {q : Byte} (late : Bool) (h : originates s q u)
    (ha : State.allocate { u with originSequence := q + 1 } = none) : s.originate late = (none, { u with
      originSequence := q + 1
      attention := { u.attention with events := insertEvent ⟨.directoryFull, 0⟩ u.attention.events } }) := by
  unfold State.originate
  simp only [State.originKey_eq h, State.create, ha]
  rfl

/-- A chart made, in the words of the state before any release. -/
theorem State.Stands.chartMade (h : s.Stands t) (q : Byte) (c : Nat) (late : Bool) :
    let key : Key := { origin := s.self, sequence := q }
    let link := fun (x : State) => x.link.queueOpenClose (s.ownOpenFrame key late)
    t.chartMade q c late = { t with
      originSequence := q + 1
      slots := Sparse.put t.slots c
        { record := { s.originated key late with ownOpen := if (link s).isSome then .queued else .done }, entries := [], rows := [] }
      link := (link t).getD t.link
      attention := { t.attention with events := insertEvent ⟨.chartOpened, c⟩ t.attention.events } } := by
  have self : t.self = s.self := congrArg (fun x => x.settings.station) h.config
  have frame : t.ownOpenFrame { origin := s.self, sequence := q } late = s.ownOpenFrame { origin := s.self, sequence := q } late := by
    simp only [State.ownOpenFrame, h.config]
  have record : t.originated { origin := s.self, sequence := q } late = s.originated { origin := s.self, sequence := q } late := by
    simp only [State.originated, State.newRecord, State.quietTime, State.linePeriod, State.period, State.self, h.config, h.now]
  intro key link
  simp only [State.chartMade, self, frame, record, h.queued_isSome]
  rfl

theorem originates_modifyReception {q : Byte} (h : originates s q u) {f : Reception → Reception} (hf : LeavesBuffers f) :
    originates (s.modifyReception f) q (u.modifyReception f) := by
  obtain ⟨hfound, hq⟩ := h
  refine ⟨hfound, hq.imp (And.imp_right (congrArg (fun x : State => x.modifyReception f))) ?_⟩
  rintro ⟨p, hp, he, rfl⟩
  have same : (s.releaseSlot p.1).originSequence = s.originSequence := by
    have moved := congrArg State.originSequence (s.releaseSlot_aside s.originSequence id ⟨fun _ => rfl, fun _ _ => rfl⟩ p.1)
    exact moved
  refine ⟨p, hp, he, ?_⟩
  have moved := s.releaseSlot_aside s.originSequence f hf p.1
  rw [State.modifyReception_eq_aside, State.modifyReception_eq_aside, moved, same]

/-- A request that no record serves, in the lowest free slot. -/
theorem State.originate_free {q : Byte} {c : Nat} (late : Bool) {f : Reception → Reception} (hf : LeavesBuffers f)
    (h : originates s q u) (ho : Sparse.Rising s.slots) (hfree : u.slot? c = none) (hlow : ∀ b < c, (u.slot? b).isSome)
    (hc : c < s.slotCount) :
    (s.modifyReception f).originate late = (some c, (u.chartMade q c late).modifyReception f) := by
  have stands := originates_stands h
  have count : u.slotCount = s.slotCount := congrArg (fun x => x.settings.slotCount) stands.config
  exact State.originate_of_some late (originates_modifyReception h hf)
    (State.allocate_free (s := { u.modifyReception f with originSequence := q + 1 }) (stands.rising ho) hfree hlow (count ▸ hc))
    (.refl _) (stands.rising ho)

/-- With every slot in use, in that of the CLOSED record of hold NONE closed first. -/
theorem State.originate_evicted {q : Byte} {c : Nat} {r : ChartRecord} (late : Bool) {f : Reception → Reception}
    (hf : LeavesBuffers f) (h : originates s q u) (ho : Sparse.Rising s.slots) (hfull : ∀ b < s.slotCount, (u.slot? b).isSome)
    (hr : u.record? c = some r) (hclosed : r.state = .closed) (hhold : r.hold = .none)
    (hleast : ∀ p ∈ u.slots, p.1 ≠ c → p.2.record.state = .closed → p.2.record.hold = .none →
      r.closeOrder.getD 0 < p.2.record.closeOrder.getD 0) :
    (s.modifyReception f).originate late = (some c, ((u.releaseSlot c).chartMade q c late).modifyReception f) := by
  have stands := originates_stands h
  have count : u.slotCount = s.slotCount := congrArg (fun x => x.settings.slotCount) stands.config
  have chosen := State.evictable_eq (s := u.aside (q + 1) f) (stands.rising ho) hr hclosed hhold hleast
  have allocated := State.allocate_full (s := u.aside (q + 1) f) (stands.rising ho) (count ▸ hfull)
  rw [chosen, Option.map_some, State.releaseSlot_aside _ _ _ hf] at allocated
  exact State.originate_of_some (v := (u.releaseSlot c).modifyReception f) late (originates_modifyReception h hf) allocated
    (u.releaseSlot_stands c).modifyReception ((u.releaseSlot_stands c).rising (stands.rising ho))

/-- With every slot in use and none to evict there is no chart. -/
theorem State.originate_full {q : Byte} (late : Bool) {f : Reception → Reception} (hf : LeavesBuffers f) (h : originates s q u)
    (ho : Sparse.Rising s.slots) (hfull : ∀ b < s.slotCount, (u.slot? b).isSome)
    (hnone : ∀ p ∈ u.slots, p.2.record.state = .closed → p.2.record.hold ≠ .none) :
    (s.modifyReception f).originate late = (none, { u with
      originSequence := q + 1
      attention := { u.attention with events := insertEvent ⟨.directoryFull, 0⟩ u.attention.events }
      reception := f u.reception }) := by
  have stands := originates_stands h
  have count : u.slotCount = s.slotCount := congrArg (fun x => x.settings.slotCount) stands.config
  have allocated := State.allocate_full (s := u.aside (q + 1) f) (stands.rising ho) (count ▸ hfull)
  rw [State.evictable_none (s := u.aside (q + 1) f) hnone, Option.map_none] at allocated
  exact State.originate_of_none late (originates_modifyReception h hf) allocated

/-! ## The end of a reception, seen from outside -/

theorem State.queueBatch_config (s : State) : s.queueBatch.config = s.config := by
  unfold State.queueBatch
  split
  · rfl
  · split
    · rfl
    · split
      · rfl
      · split <;> rfl

theorem State.closingTest_config (s : State) (c : Nat) : (s.closingTest c).config = s.config := by
  unfold State.closingTest
  split
  · split <;> rfl
  · rfl

theorem State.abandon_config (s : State) (c : Nat) : (s.abandon c).config = s.config := by
  simp only [State.abandon, State.freeAndCancel, State.freePools_eq, State.startNext_config, State.post_config,
    State.modifyRecord_config]
  exact (State.cancelWrites_stands _ _).config

theorem State.flush_config (s : State) (c : Nat) : (s.flush c).config = s.config := by
  unfold State.flush
  split
  · exact s.queueBatch_config
  · rfl

@[simp] theorem State.endReport_config (s : State) (c : Nat) (reason : CloseReason) : (s.endReport c reason).config = s.config := by
  cases h : s.record? c with
  | none => rw [State.endReport_of_unused h]
  | some r =>
    rw [State.endReport_eq h, State.closingTest_config, State.flush_config]
    split
    · exact State.abandon_config _ c
    · rfl

theorem State.endReception_config (s : State) (reason : CloseReason) : (s.endReception reason).config = s.config := by
  unfold State.endReception
  split
  · exact State.endReport_config _ _ _
  · rfl

theorem State.endReception_reception (s : State) (reason : CloseReason) :
    (s.endReception reason).reception = s.reception.ended := by
  unfold State.endReception
  split
  · exact State.endReport_reception _ _ _
  · rfl

theorem State.endReport_modifyReception (s : State) (c : Nat) (reason : CloseReason) (f : Reception → Reception) :
    (s.modifyReception f).endReport c reason = (s.endReport c reason).modifyReception f := by
  have moved := congrArg State.originSequence (s.endReport_aside s.originSequence id c reason)
  have same : (s.endReport c reason).originSequence = s.originSequence := moved
  rw [State.modifyReception_eq_aside, State.endReport_aside, State.modifyReception_eq_aside, same]

/-- A change of the unit that its end leaves alone may come before the end or after it. -/
theorem State.endReception_modifyReception (s : State) (reason : CloseReason) {g : Reception → Reception}
    (hb : ∀ r, (g r).binding = r.binding) (he : ∀ r, (g r).ended = g r.ended) :
    (s.modifyReception g).endReception reason = (s.endReception reason).modifyReception g := by
  unfold State.endReception
  rw [State.modifyReception_reception, hb]
  cases s.reception.binding with
  | none =>
    simp only [State.modifyReception, he]
  | some c =>
    have ended : (s.modifyReception g).modifyReception Reception.ended = (s.modifyReception Reception.ended).modifyReception g := by
      simp only [State.modifyReception, he]
    dsimp only
    rw [ended, State.endReport_modifyReception]

/-! ## The statement -/

/-- In PHASING or IMAGE the reception ends first, and the unit then acts on the same confirmation in SEARCH (R16). -/
theorem State.exec_startTone_of_receiving (hrun : s.config.state = .run)
    (hst : s.reception.state = .phasing ∨ s.reception.state = .image) (hdue : s.reception.startDue = true) :
    exec .startToneConfirmed s = exec .startToneConfirmed (s.endReception .newStart) := by
  have reception := s.endReception_reception .newStart
  have confirmed : s.startConfirmed = (s.endReception .newStart).startConfirmed := by
    have moved := s.endReception_modifyReception .newStart (g := fun r => { r with startRun := ToneRun.confirm r.startRun })
      (fun _ => rfl) (fun _ => rfl)
    rcases hst with hst | hst <;>
      simp [State.startConfirmed, hst, reception, Reception.ended, moved]
  have due : (s.endReception .newStart).reception.startDue = true := by
    rw [reception]
    exact hdue
  simp only [exec, execStartToneConfirmed, State.whenCan, State.running, State.endReception_config, hrun, hdue, due, confirmed]
  rfl

theorem Reception.asking_leavesBuffers : LeavesBuffers Reception.asking := ⟨fun _ => rfl, fun _ _ => rfl⟩

/-- With no record to adopt, the request originates a chart. -/
theorem State.requestStarted_of_none (h : s.bestAdoptable = none) : s.requestStarted = s.originate false := by
  unfold State.requestStarted
  rw [h]

theorem State.bestAdoptable_none (h : ∀ p ∈ s.slots, s.adoptable p.2.record = false) : s.bestAdoptable = none := by
  have nothing : s.slots.filter (fun p => s.adoptable p.2.record) = [] := by
    simpa [List.filter_eq_nil_iff] using h
  rw [State.bestAdoptable, nothing]
  rfl

/-- Settles O23: the end of the reception moves past the confirmation, and in SEARCH `originate` answers in each case as its laws say. -/
theorem startToneOriginatesChart : Obligations.StartToneOriginatesChart := by
  refine ⟨fun s hrun hst hdue => ⟨State.exec_startTone_of_receiving hrun hst hdue, s.endReception_config _, ?_, ?_, ?_⟩,
    fun s u q c hrun hst hdue ho hnone h => ?_⟩
  · rw [State.endReception_reception]; rfl
  · rw [State.endReception_reception]; rfl
  · rw [State.endReception_reception]; exact hdue
  have request : (s.modifyReception Reception.asking).requestStarted = (s.modifyReception Reception.asking).originate false := by
    refine State.requestStarted_of_none (State.bestAdoptable_none fun p hp => ?_)
    rw [← Bool.not_eq_true, State.adoptable_iff]
    exact hnone p hp
  have outcome := State.exec_startTone_of_search hrun hst hdue
  have asks : { s with reception := s.reception.asking } = s.modifyReception Reception.asking := rfl
  rw [asks, request] at outcome
  have stands := originates_stands h
  refine ⟨fun hfree hlow hc => ?_, fun hfull => ⟨fun r hr hclosed hhold hleast => ?_, fun hheld => ?_⟩⟩
  · rw [outcome, State.originate_free false Reception.asking_leavesBuffers h ho.slots hfree hlow hc, stands.chartMade]
    rfl
  · rw [outcome, State.originate_evicted false Reception.asking_leavesBuffers h ho.slots hfull hr hclosed hhold hleast,
      (stands.trans (u.releaseSlot_stands c)).chartMade]
    rfl
  · rw [outcome, State.originate_full false Reception.asking_leavesBuffers h ho.slots hfull hheld]
    rfl

end Sys2Proof.Machine
end

section
/-!
PROOF. The end of a reception (StopToneEndsReception): the report's four parts in the words of the state before it.
-/
namespace Sys2Proof.Machine

variable {s : State} {c : Nat} {r : ChartRecord}

/-! ## The closing test -/

theorem allEnded_iff (l : List Contributor) : allEnded l = true ↔ ∀ x ∈ l, x.ended ≠ none := by
  simp [allEnded, Option.isSome_iff_ne_none]

/-- Every contributor is ENDED once this station is: none but it was ACTIVE. -/
theorem allEnded_contributorEnds_iff (st : Station) (l : List Contributor) :
    allEnded (contributorEnds st .close l) = true ↔ ∀ x ∈ l, x.station = st ∨ x.ended ≠ none := by
  simp only [allEnded_iff, contributorEnds, List.forall_mem_map]
  refine forall₂_congr fun x _ => ?_
  by_cases hst : x.station = st <;> cases he : x.ended <;> simp [hst, he]

theorem foldl_max_map {α : Type} (f g : α → Nat) (h : ∀ x, g x = f x) (l : List α) (a : Nat) :
    l.foldl (fun acc x => max acc (g x)) a = l.foldl (fun acc x => max acc (f x)) a := by
  simp only [h]

/-- The highest close order where a change keeps every record's. -/
theorem State.highestCloseOrder_modify (s : State) (c : Nat) (f : Slot → Slot)
    (h : ∀ sl, (f sl).record.closeOrder = sl.record.closeOrder) :
    State.highestCloseOrder { s with slots := Sparse.modify s.slots c f } = s.highestCloseOrder := by
  unfold State.highestCloseOrder
  simp only [Sparse.modify, List.foldl_map]
  refine foldl_max_map _ _ (fun p => ?_) _ _
  by_cases hp : p.1 = c <;> simp [hp, h]

/-- A record closes with the next close order (R92). -/
theorem State.closingTest_eq (hr : s.record? c = some r) (hopen : r.state ≠ .closed) (hb : r.bound = false) :
    s.closingTest c = if allEnded r.contributors = true ∨ r.quietFlag = true then { s with
      slots := Sparse.modify s.slots c (fun sl => { sl with record := sl.record.close (s.highestCloseOrder + 1) })
      attention := { s.attention with events := insertEvent ⟨.chartClosed, c⟩ s.attention.events } } else s := by
  unfold State.closingTest
  simp only [hr]
  have closes : r.shouldClose = true ↔ allEnded r.contributors = true ∨ r.quietFlag = true := by
    simp [ChartRecord.shouldClose, hopen, hb]
  simp only [closes]
  rfl

/-! ## The batch, the closing test and the write queue do not meet -/

theorem State.queueBatch_records (s : State) {f : ChartRecord → ChartRecord} (hk : ∀ r, (f r).key = r.key) (c : Nat)
    (k : EventKind) (n : Nat) :
    ((s.modifyRecord c f).post k n).queueBatch = (s.queueBatch.modifyRecord c f).post k n := by
  have record : ∀ b, ((s.modifyRecord c f).post k n).record? b = (s.record? b).map (fun r => if b = c then f r else r) := by
    intro b
    simp only [State.record?, State.slot?, State.post_slots, State.modifyRecord, State.modifySlot, Sparse.find_modify]
    by_cases hb : b = c <;> simp [hb, Function.comp_def]
  unfold State.queueBatch
  show (match s.fetch.batch with | none => _ | some b => _) = _
  cases s.fetch.batch with
  | none => rfl
  | some b =>
    dsimp only
    show (if s.link.mute then _ else _) = _
    cases s.link.mute with
    | true => rfl
    | false =>
      rw [record]
      cases s.record? b.slot with
      | none => rfl
      | some r =>
        have key : (if b.slot = c then f r else r).key = r.key := by
          split
          · exact hk r
          · rfl
        simp only [Option.map_some, key, Bool.false_eq_true, if_false]
        show (match s.link.queueTally (s.tallyOf b r.key) with | some l => _ | none => _) = _
        cases s.link.queueTally (s.tallyOf b r.key) <;> rfl

theorem State.queueBatch_slots (s : State) : s.queueBatch.slots = s.slots := by
  unfold State.queueBatch
  split
  · rfl
  · split
    · rfl
    · split
      · rfl
      · split <;> rfl

theorem State.flush_slots (s : State) (c : Nat) : (s.flush c).slots = s.slots := by
  unfold State.flush
  split
  · exact s.queueBatch_slots
  · rfl

theorem State.flush_records (s : State) {f : ChartRecord → ChartRecord} (hk : ∀ r, (f r).key = r.key) (c : Nat)
    (k : EventKind) (n : Nat) : ((s.modifyRecord c f).post k n).flush c = ((s.flush c).modifyRecord c f).post k n := by
  unfold State.flush
  show (if s.fetch.batch.any (fun b => b.slot = c) then _ else _) = _
  split
  · exact s.queueBatch_records hk c k n
  · rfl

/-- The batch may go out before the closing test or after it. -/
theorem State.flush_closingTest (s : State) (c : Nat) : (s.flush c).closingTest c = (s.closingTest c).flush c := by
  have order : (s.flush c).highestCloseOrder = s.highestCloseOrder := by
    unfold State.highestCloseOrder
    rw [s.flush_slots]
  have record : (s.flush c).record? c = s.record? c := by
    unfold State.record? State.slot?
    rw [s.flush_slots]
  unfold State.closingTest
  rw [record, order]
  cases s.record? c with
  | none => rfl
  | some r =>
    dsimp only
    split
    · exact (s.flush_records (f := fun r => r.close (s.highestCloseOrder + 1)) (fun _ => rfl) c .chartClosed c).symm
    · rfl

theorem State.startNext_records (s : State) (l : List (Nat × Slot)) (a : Attention) :
    State.startNext { s with slots := l, attention := a } = { s.startNext with slots := l, attention := a } := by
  unfold State.startNext
  show (match s.lineTable.queue with | [] => _ | w :: t => _) = _
  cases s.lineTable.queue with
  | nil => rfl
  | cons w t =>
    dsimp only
    show (if s.lineTable.started || !s.lineTable.requests.isEmpty then _ else _) = _
    split <;> rfl

/-! ## The report (R91, R92) -/

/-- A bound record as the report of an end leaves it, before the closing test (R91). -/
def ChartRecord.unbound (r : ChartRecord) (self : Station) (reason : CloseReason) : ChartRecord :=
  { r with bound := false, contributors := contributorEnds self .close r.contributors, lastCloseReason := some reason }

/-- The report's end: the closing test of an unbound record, whose own fields the abandonment of an alignment may have changed. -/
theorem State.closingTest_unbound {x : State} {g : ChartRecord → ChartRecord} {reason : CloseReason}
    (hr : s.record? c = some r) (hslots : x.slots = Sparse.modify s.slots c (fun sl => { sl with record := g (sl.record.unbound s.self reason) }))
    (hs : (g (r.unbound s.self reason)).state ≠ .closed) (hb : ∀ r, (g r).bound = r.bound) (hc : ∀ r, (g r).contributors = r.contributors)
    (hq : ∀ r, (g r).quietFlag = r.quietFlag) (ho : ∀ r, (g r).closeOrder = r.closeOrder)
    (hl : ∀ r, (g r).lastCloseReason = r.lastCloseReason) :
    x.closingTest c = if (∀ y ∈ r.contributors, y.station = s.self ∨ y.ended ≠ none) ∨ r.quietFlag = true then { x with
      slots := Sparse.modify s.slots c (fun sl => { sl with record := { g (sl.record.unbound s.self reason) with
        state := .closed, expected := none, quietDeadline := none, closeOrder := some (s.highestCloseOrder + 1)
        closeReason := some (if allEnded (contributorEnds s.self .close sl.record.contributors) then reason else .quiet) } })
      attention := { x.attention with events := insertEvent ⟨.chartClosed, c⟩ x.attention.events } } else x := by
  obtain ⟨sl, hsl, rfl⟩ := State.slot_of_record hr
  have record : x.record? c = some (g (sl.record.unbound s.self reason)) := by
    simp only [State.record?, State.slot?, hslots, Sparse.find_modify_same, hsl, Option.map_some]
  have order : x.highestCloseOrder = s.highestCloseOrder := by
    have kept := s.highestCloseOrder_modify c (fun sl => { sl with record := g (sl.record.unbound s.self reason) }) (fun sl => ho _)
    unfold State.highestCloseOrder at kept ⊢
    rw [hslots]
    exact kept
  rw [State.closingTest_eq record hs (hb _), hc, hq, order, hslots, Sparse.modify_modify]
  simp only [ChartRecord.unbound, allEnded_contributorEnds_iff, ChartRecord.close, hc, hl, Option.getD_some]

/-- The report of an end for an OPEN chart (R91, R92). -/
theorem State.endReport_opened (reason : CloseReason) (hr : s.record? c = some r) (hst : r.state = .opened) :
    let closes := (∀ x ∈ r.contributors, x.station = s.self ∨ x.ended ≠ none) ∨ r.quietFlag = true
    let closed := fun (r : ChartRecord) => if closes then
        { r with
          state := .closed, expected := none, quietDeadline := none, closeOrder := some (s.highestCloseOrder + 1)
          closeReason := some (if ∀ x ∈ r.contributors, x.ended ≠ none then reason else .quiet) }
      else r
    s.endReport c reason = State.flush { s with
      slots := Sparse.modify s.slots c (fun sl => { sl with record := closed (sl.record.unbound s.self reason) })
      link := (s.link.queueOpenClose (.chartClose { key := r.key, reason := reason, lastLine := r.lastOwn })).getD s.link
      attention := { s.attention with
        events := if closes then insertEvent ⟨.chartClosed, c⟩ s.attention.events else s.attention.events } } c := by
  intro closes closed
  have reported := State.closingTest_unbound (x := s.reported c r reason) (g := id) (reason := reason) hr rfl
    (by show r.state ≠ _; rw [hst]; decide) (fun _ => rfl) (fun _ => rfl) (fun _ => rfl) (fun _ => rfl) (fun _ => rfl)
  rw [State.endReport_eq hr, if_neg (by rw [hst]; decide), State.flush_closingTest, reported]
  congr 1
  by_cases h : (∀ y ∈ r.contributors, y.station = s.self ∨ y.ended ≠ none) ∨ r.quietFlag = true
  · simp only [closes, if_pos h, closed, allEnded_iff]
    rfl
  · simp only [closes, if_neg h, closed]
    rfl

/-- What the abandonment of an alignment makes of the state (R90, R109), the record's own part apart. -/
theorem State.abandon_eq (s : State) (c : Nat) :
    let held := s.alignment.provisional.map HeldLine.entry
    ∃ m i, s.abandon c = State.startNext { s with
        memory := m, interruptedWrites := i
        lineTable := { s.lineTable with
          requests := s.lineTable.requests.filter (fun q => q != QuietRequest.splitClear c)
          store := s.lineTable.store.filter (fun st => !held.contains st.entry)
          queue := s.lineTable.queue.filter (fun w => !held.any w.intoPool)
          started := s.lineTable.started && s.lineTable.queue.head?.any (fun w => !held.any w.intoPool) }
        pool := s.pool.filter (fun p => !held.contains p.1)
        slots := Sparse.modify s.slots c (fun sl => { sl with record := { sl.record with
          state := .opened, offset := none, expected := none } })
        alignment := Alignment.reset
        attention := { s.attention with events := insertEvent ⟨.alignAbandoned, c⟩ s.attention.events } } ∧
      ∀ a, (∀ w, s.lineTable.started = true → s.lineTable.queue.head? = some w → held.any w.intoPool = true →
          a < s.writeAddress w ∨ s.writeAddress w + (s.writeBytes w).length ≤ a) →
        Memory.readByte m a = Memory.readByte s.memory a := by
  intro held
  obtain ⟨m, i, cancelled, frame⟩ := State.cancelWrites_eq { s with
    lineTable := { s.lineTable with requests := s.lineTable.requests.filter (fun q => q != QuietRequest.splitClear c) }
    alignment := Alignment.reset } (fun w => held.any w.intoPool)
  refine ⟨m, i, ?_, frame⟩
  have fresh : (s.lineTable.queue.filter (fun w => !held.any w.intoPool)).map
      (fun w => if held.any w.intoPool then { w with stale := true } else w) =
      s.lineTable.queue.filter (fun w => !held.any w.intoPool) := by
    conv_rhs => rw [← List.map_id (s.lineTable.queue.filter _)]
    refine List.map_congr_left fun w hw => ?_
    have := (List.mem_filter.1 hw).2
    rw [if_neg (by simpa using this)]
    rfl
  simp only [State.abandon, State.freeAndCancel, State.freePools_eq]
  rw [cancelled]
  have entries : s.alignment.provisional.map HeldLine.entry = held := rfl
  simp only [entries, fresh]
  rfl

/-- The report of an end for a chart still ALIGNING, abandoned first (R90 to R92, R109). -/
theorem State.endReport_aligning (reason : CloseReason) (hr : s.record? c = some r) (hst : r.state = .aligning) :
    let closes := (∀ x ∈ r.contributors, x.station = s.self ∨ x.ended ≠ none) ∨ r.quietFlag = true
    let closed := fun (r : ChartRecord) => if closes then
        { r with
          state := .closed, expected := none, quietDeadline := none, closeOrder := some (s.highestCloseOrder + 1)
          closeReason := some (if ∀ x ∈ r.contributors, x.ended ≠ none then reason else .quiet) }
      else r
    let posted := fun (events : List Event) => if closes then insertEvent ⟨.chartClosed, c⟩ events else events
    let held := s.alignment.provisional.map HeldLine.entry
    ∃ m i, s.endReport c reason = State.flush (State.startNext { s with
        memory := m, interruptedWrites := i
        lineTable := { s.lineTable with
          requests := s.lineTable.requests.filter (fun q => q != QuietRequest.splitClear c)
          store := s.lineTable.store.filter (fun st => !held.contains st.entry)
          queue := s.lineTable.queue.filter (fun w => !held.any w.intoPool)
          started := s.lineTable.started && s.lineTable.queue.head?.any (fun w => !held.any w.intoPool) }
        pool := s.pool.filter (fun p => !held.contains p.1)
        slots := Sparse.modify s.slots c (fun sl => { sl with record := closed { sl.record.unbound s.self reason with
          state := .opened, offset := none, expected := none } })
        link := (s.link.queueOpenClose (.chartClose { key := r.key, reason := reason, lastLine := r.lastOwn })).getD s.link
        alignment := Alignment.reset
        attention := { s.attention with events := posted (insertEvent ⟨.alignAbandoned, c⟩ s.attention.events) } }) c ∧
      ∀ a, (∀ w, s.lineTable.started = true → s.lineTable.queue.head? = some w → held.any w.intoPool = true →
          a < s.writeAddress w ∨ s.writeAddress w + (s.writeBytes w).length ≤ a) →
        Memory.readByte m a = Memory.readByte s.memory a := by
  intro closes closed posted held
  obtain ⟨m, i, abandoned, frame⟩ := (s.reported c r reason).abandon_eq c
  refine ⟨m, i, ?_, frame⟩
  have tested := State.closingTest_unbound (x := (s.reported c r reason).abandon c)
    (g := fun r => { r with state := .opened, offset := none, expected := none }) (reason := reason) hr
    (by rw [abandoned, State.startNext_slots]; simp only [State.reported, Sparse.modify_modify]; rfl)
    (by intro h; cases h) (fun _ => rfl) (fun _ => rfl) (fun _ => rfl) (fun _ => rfl) (fun _ => rfl)
  rw [State.endReport_eq hr, if_pos hst, State.flush_closingTest, tested]
  congr 1
  by_cases h : (∀ y ∈ r.contributors, y.station = s.self ∨ y.ended ≠ none) ∨ r.quietFlag = true
  · simp only [closes, if_pos h, closed, posted, allEnded_iff]
    rw [abandoned, State.startNext_attention, ← State.startNext_records]
    rfl
  · simp only [closes, if_neg h, closed, posted]
    rw [abandoned]
    simp only [State.reported, Sparse.modify_modify]
    rfl

/-! ## The statement -/

theorem State.exec_stopTone_of_receiving (hrun : s.config.state = .run)
    (hst : s.reception.state = .phasing ∨ s.reception.state = .image) (hdue : s.reception.stopDue = true) :
    exec .stopToneConfirmed s = .next (State.settle (State.endReception { s with reception := { s.reception with
      stopRun := s.reception.stopRun.map (fun x => { x with confirmed := true }) } } .stop)) := by
  have confirmed : s.stopConfirmed = State.endReception { s with reception := { s.reception with
      stopRun := s.reception.stopRun.map (fun x => { x with confirmed := true }) } } .stop := by
    rcases hst with hst | hst <;> (simp [State.stopConfirmed, hst]; rfl)
  simp only [exec, execStopToneConfirmed, State.whenCan, State.running, hrun, hdue, confirmed]
  rfl

theorem State.queueBatch_memory (s : State) :
    s.queueBatch.memory = s.memory ∧ s.queueBatch.interruptedWrites = s.interruptedWrites := by
  unfold State.queueBatch
  split
  · exact ⟨rfl, rfl⟩
  · split
    · exact ⟨rfl, rfl⟩
    · split
      · exact ⟨rfl, rfl⟩
      · split <;> exact ⟨rfl, rfl⟩

theorem State.flush_memory (s : State) (c : Nat) :
    (s.flush c).memory = s.memory ∧ (s.flush c).interruptedWrites = s.interruptedWrites := by
  unfold State.flush
  split
  · exact s.queueBatch_memory
  · exact ⟨rfl, rfl⟩

theorem State.endReception_of_bound (hb : s.reception.binding = some c) (reason : CloseReason) :
    s.endReception reason = (s.modifyReception Reception.ended).endReport c reason := by
  unfold State.endReception
  rw [hb]

/-- Settles O25: the end of a bound reception is the report's on the state whose unit searches again. -/
theorem stopToneEndsReception : Obligations.StopToneEndsReception := by
  refine ⟨fun s hrun hst hdue => State.exec_stopTone_of_receiving hrun hst hdue, fun s reason => ⟨fun hb => ?_,
    fun c r hb hr => ⟨fun hst => ?_, fun hst => ?_⟩⟩⟩
  · unfold State.endReception
    rw [hb]
    rfl
  · rw [State.endReception_of_bound hb]
    exact State.endReport_opened (s := s.modifyReception Reception.ended) reason hr hst
  · dsimp only
    rw [State.endReception_of_bound hb]
    obtain ⟨m, i, reported, frame⟩ := State.endReport_aligning (s := s.modifyReception Reception.ended) reason hr hst
    have memory : ((s.modifyReception Reception.ended).endReport c reason).memory = m := by
      rw [reported, (State.flush_memory _ c).1, State.startNext_memory]
    have interrupted : ((s.modifyReception Reception.ended).endReport c reason).interruptedWrites = i := by
      rw [reported, (State.flush_memory _ c).2, State.startNext_interruptedWrites]
    rw [memory, interrupted]
    refine ⟨?_, frame⟩
    rw [reported]
    unfold State.flush
    rw [State.startNext_fetch]
    rfl

end Sys2Proof.Machine
end

section
/-!
PROOF. Search and phasing periods, late entry and the start of line 0 (PeriodsAreCounted).
-/
namespace Sys2Proof.Machine

variable {s u : State} {c : Nat} {r : ChartRecord}

/-! ## The length test (R14) -/

/-- The next image line, of a given own index, would lie beyond the last chart line. -/
def State.Beyond (s : State) (own : Nat) : Prop := ∃ c r, s.reception.binding = some c ∧ s.record? c = some r ∧
  (2047 : Int) < own + r.offset.getD (r.expected.getD 0 : Nat)

theorem State.nextChartLine_of_bound (hb : s.reception.binding = some c) (hr : s.record? c = some r) :
    s.nextChartLine = s.reception.ownIndex + r.offset.getD (r.expected.getD 0 : Nat) := by
  unfold State.nextChartLine
  simp only [hb, hr]
  cases r.offset <;> rfl

theorem State.nextChartLine_of_unbound (hb : s.reception.binding = none) : s.nextChartLine = s.reception.ownIndex := by
  unfold State.nextChartLine
  simp only [hb]

theorem State.beyond_iff (hown : s.reception.ownIndex ≤ 2047) : 2047 < s.nextChartLine ↔ s.Beyond s.reception.ownIndex := by
  have inside : ¬(2047 : Int) < s.reception.ownIndex := by omega
  cases hb : s.reception.binding with
  | none =>
    rw [State.nextChartLine_of_unbound hb]
    exact iff_of_false inside (by rintro ⟨c, r, hc, -⟩; rw [hb] at hc; cases hc)
  | some c =>
    cases hr : s.record? c with
    | none =>
      have line : s.nextChartLine = s.reception.ownIndex := by
        unfold State.nextChartLine
        simp only [hb, hr]
      rw [line]
      refine iff_of_false inside ?_
      rintro ⟨c', r, hc, hr', -⟩
      rw [hb] at hc
      obtain rfl := Option.some.inj hc
      rw [hr] at hr'
      cases hr'
    | some r =>
      rw [State.nextChartLine_of_bound hb hr]
      refine ⟨fun h => ⟨c, r, hb, hr, h⟩, ?_⟩
      rintro ⟨c', r', hc, hr', h⟩
      rw [hb] at hc
      obtain rfl := Option.some.inj hc
      rw [hr] at hr'
      obtain rfl := Option.some.inj hr'
      exact h

theorem State.lengthTest_of_beyond (h : 2047 < s.nextChartLine) : s.lengthTest = s.endReception .length := if_pos h

theorem State.lengthTest_of_not_beyond (h : ¬2047 < s.nextChartLine) : s.lengthTest = s := if_neg h

/-! ## The start tone's end and the last sample before line 0 -/

theorem State.exec_endOfStartTone (hrun : s.config.state = .run) (hst : s.reception.state = .startTone)
    (hend : ToneRun.endDue s.reception.startRun = true) : exec .endOfStartTone s = .next { s with reception := { s.reception with
      state := .phasing, startRun := none, linePosition := 1, endDue := false
      phasing := { periods := 0, pulses := 0, positions := [] }
      assembler :=
        { sums := [(0, { total := s.reception.lastFrequency, count := 1 })], envelope := s.reception.lastEnvelope
          position := 1 } } } := by
  have first : (Assembler.at 0).take s.width s.samples s.reception.lastFrequency s.reception.lastEnvelope =
      { sums := [(0, { total := s.reception.lastFrequency, count := 1 })], envelope := s.reception.lastEnvelope, position := 1 } := by
    simp [Assembler.at, Assembler.take, addToPixel]
  rw [← first]
  simp only [exec, execEndOfStartTone, State.whenCan, State.running, hrun, hst, hend, State.startToneEnds]
  rfl

theorem State.exec_audioSample_of_lineZero (audio : BitVec 16) (quadrature : Int) (hrun : s.config.state = .run)
    (hdue : s.reception.anythingDue = false) (hst : s.reception.state = .image) (hskip : s.reception.skip = 1) :
    exec (.audioSample audio quadrature) s = .next (State.settle (State.lengthTest
      { s with reception := s.reception.sample s.width s.samples audio quadrature })) := by
  have zero : s.reception.lineZeroNext = true := by simp [Reception.lineZeroNext, hst, hskip]
  simp only [exec, execAudioSample, State.whenRunning, State.running, hrun, hdue, State.takeSample, zero, Bool.false_eq_true, if_false]
  rfl

theorem Reception.sample_of_skip (r : Reception) (w n : Nat) (audio : BitVec 16) (quadrature : Int) (hst : r.state = .image)
    (hskip : r.skip = 1) : (r.sample w n audio quadrature).ownIndex = r.ownIndex ∧
    (r.sample w n audio quadrature).binding = r.binding := by
  have passed : ∀ f env, r.assemble w n f env = { r with skip := r.skip - 1 } := by
    intro f env
    simp [Reception.assemble, hst, hskip]
  simp only [Reception.sample, passed]
  exact ⟨trivial, trivial⟩

/-! ## Phasing periods (R11, R12) -/

theorem Phasing.take_eq (ph : Phasing) (pulse : Option Nat) : ph.take pulse =
    { periods := ph.periods + 1
      pulses := ph.pulses + (if pulse = none then 0 else 1)
      positions := match pulse with
        | none => ph.positions
        | some x => (if ph.positions.length < 4 then ph.positions else ph.positions.drop 1) ++ [x] } := by
  cases pulse <;> rfl

theorem Phasing.ends_take_iff (ph : Phasing) (pulse : Option Nat) :
    (ph.take pulse).ends pulse = true ↔ (pulse = none ∧ 1 ≤ ph.pulses) ∨ 80 ≤ ph.periods + 1 := by
  simp only [Phasing.take_eq, Phasing.ends, Bool.or_eq_true, Bool.and_eq_true, decide_eq_true_eq, Option.isNone_iff_eq_none]
  cases pulse <;> simp

/-- The unit once image line 0 is to start after `o` samples. -/
def Reception.imaged (r : Reception) (ph : Phasing) (origin o : Nat) (unphased : Bool) : Reception :=
  { r with
    state := .image, endDue := false, assembler := Assembler.at 0, phasing := ph, origin := origin, unphased := unphased
    ownIndex := 0, fadeCount := 0, skip := o }

theorem Phasing.settledOrigin_of_good {ph : Phasing} {w : Nat} (h : 8 ≤ ph.pulses ∧ spread ph.positions ≤ w / 64) :
    ph.settledOrigin w = ph.positions.getLast? := by simp [Phasing.settledOrigin, h]

theorem Phasing.settledOrigin_of_not_good {ph : Phasing} {w : Nat} (h : ¬(8 ≤ ph.pulses ∧ spread ph.positions ≤ w / 64)) :
    ph.settledOrigin w = none := by
  unfold Phasing.settledOrigin
  exact if_neg (by simpa using h)

theorem originOffset_zero (n : Nat) {w : Nat} (hw : 0 < w) : originOffset 0 n w = 0 := by
  unfold originOffset
  exact Nat.div_eq_of_lt (by omega)

section PhasingEnd

variable (hrun : s.config.state = .run) (hst : s.reception.state = .phasing) (hdue : s.reception.endDue = true)
include hrun hst hdue

/-- A phasing period's end: the record taken, and where phasing ends the image begins. -/
theorem State.exec_phasingPeriodEnd {pulse : Option Nat} {ph : Phasing} (hpulse : pulse = pulsePosition (grays 0 s.lineTones) s.width)
    (hph : s.reception.phasing.take pulse = ph) :
    let origin := (ph.settledOrigin s.width).getD 0
    let o := originOffset origin s.samples s.width
    let t := s.modifyReception (fun r => r.imaged ph origin o (ph.settledOrigin s.width).isNone)
    exec .phasingPeriodEnd s = .next (State.settle (
      if ph.ends pulse then (if o = 0 then t.lengthTest else t)
      else s.modifyReception (fun r => { r with endDue := false, assembler := Assembler.at 0, phasing := ph }))) := by
  subst hpulse hph
  intro origin o t
  simp only [exec, execPhasingPeriodEnd, State.whenCan, State.running, hrun, hst, hdue, State.phasingEnds]
  rfl

theorem State.exec_phasingPeriodEnd_goesOn {pulse : Option Nat} {ph : Phasing}
    (hpulse : pulse = pulsePosition (grays 0 s.lineTones) s.width) (hph : s.reception.phasing.take pulse = ph)
    (hends : ¬ph.ends pulse = true) : exec .phasingPeriodEnd s = .next (State.settle
      (s.modifyReception (fun r => { r with endDue := false, assembler := Assembler.at 0, phasing := ph }))) := by
  rw [State.exec_phasingPeriodEnd hrun hst hdue hpulse hph, if_neg hends]

theorem State.exec_phasingPeriodEnd_ends {pulse : Option Nat} {ph : Phasing} {settled : Option Nat}
    (hpulse : pulse = pulsePosition (grays 0 s.lineTones) s.width) (hph : s.reception.phasing.take pulse = ph)
    (hends : ph.ends pulse = true) (hsettled : ph.settledOrigin s.width = settled) :
    let o := originOffset (settled.getD 0) s.samples s.width
    let t := s.modifyReception (fun r => r.imaged ph (settled.getD 0) o settled.isNone)
    (o ≠ 0 ∨ ¬s.Beyond 0 → exec .phasingPeriodEnd s = .next t.settle) ∧
    (o = 0 → s.Beyond 0 → exec .phasingPeriodEnd s = .next (t.endReception .length).settle) := by
  intro o t
  have outcome := State.exec_phasingPeriodEnd hrun hst hdue hpulse hph
  subst hsettled
  simp only [if_pos hends] at outcome
  have line : 2047 < t.nextChartLine ↔ s.Beyond 0 := State.beyond_iff (s := t) (Nat.zero_le _)
  refine ⟨fun h => ?_, fun ho hb => ?_⟩
  · by_cases ho : o = 0
    · rw [outcome, if_pos ho]
      change Host.Outcome.next (State.settle t.lengthTest) = _
      rw [State.lengthTest_of_not_beyond (fun hb => h.elim (fun h => h ho) (fun h => h (line.1 hb)))]
    · rw [outcome, if_neg ho]
  · rw [outcome, if_pos ho]
    change Host.Outcome.next (State.settle t.lengthTest) = _
    rw [State.lengthTest_of_beyond (line.2 hb)]

end PhasingEnd

/-! ## Search periods (R8) -/

theorem State.exec_searchPeriodEnd (hrun : s.config.state = .run) (hst : s.reception.state = .search)
    (hdue : s.reception.endDue = true) :
    let count := if 4 * invalidCount s.lineTones < s.width then s.reception.lateCount + 1 else 0
    let t := s.modifyReception (fun r => { r with endDue := false, assembler := Assembler.at 0, lateCount := count })
    exec .searchPeriodEnd s = .next (State.settle (if 8 ≤ count then t.lateEntry else t)) := by
  intro count t
  simp only [exec, execSearchPeriodEnd, State.whenCan, State.running, hrun, hst, hdue, State.searchEnds]
  rfl

/-- The unit as it asks the directory for a chart in a late entry. -/
def Reception.askingLate (r : Reception) : Reception :=
  { r with endDue := false, assembler := Assembler.at 0, lateCount := 0, origin := 0, unphased := true }

theorem Reception.askingLate_leavesBuffers : LeavesBuffers Reception.askingLate := ⟨fun _ => rfl, fun _ _ => rfl⟩

/-- The unit as it enters IMAGE at own line 0. -/
def Reception.entering (r : Reception) (binding : Option Nat) : Reception :=
  { r with
    state := .image, ownIndex := 0, fadeCount := 0, skip := 0, endDue := false, assembler := Assembler.at 0, binding := binding }

theorem State.lateEntry_eq (s : State) : s.lateEntry =
    let asked := (s.modifyReception (fun r => { r with lateCount := 0, origin := 0, unphased := true })).requestLate
      s.reception.sampleCount
    (asked.2.modifyReception (fun r => r.entering asked.1)).lengthTest := rfl

/-- The eighth clear period in a row: the request, and IMAGE at own line 0 (R13). -/
theorem State.exec_searchPeriodEnd_late (hrun : s.config.state = .run) (hst : s.reception.state = .search)
    (hdue : s.reception.endDue = true) (hclear : 4 * invalidCount s.lineTones < s.width) (hlate : 7 ≤ s.reception.lateCount) :
    let asked := (s.modifyReception Reception.askingLate).requestLate s.reception.sampleCount
    exec .searchPeriodEnd s = .next (State.settle (asked.2.modifyReception (fun r => r.entering asked.1)).lengthTest) := by
  intro asked
  rw [State.exec_searchPeriodEnd hrun hst hdue, if_pos (by rw [if_pos hclear]; omega)]
  rw [State.lateEntry_eq]
  rfl


/-! ## The record joined (R81) -/

theorem State.joinable_iff (s : State) (start : Nat) (r : ChartRecord) : s.joinable start r = true ↔
    r.state = .opened ∧ r.bound = false ∧ isEnded s.self r.contributors = false ∧
      ∃ t, r.lastTally = some t ∧ start < t.sample + 4 * s.samples := by
  simp only [State.joinable, Bool.and_eq_true, decide_eq_true_eq, Bool.not_eq_true', Option.any_eq_true, and_assoc]

theorem State.bestJoinable_eq {start : Nat} {t : LastTally} (ho : Sparse.Rising s.slots) (hr : s.record? c = some r)
    (hj : s.joinable start r = true) (ht : r.lastTally = some t)
    (hbest : ∀ p ∈ s.slots, p.1 ≠ c → s.joinable start p.2.record = true →
      (p.2.record.lastTally.map LastTally.time).getD 0 < t.time) : s.bestJoinable start = some (c, t) := by
  obtain ⟨sl, hsl, rfl⟩ := State.slot_of_record hr
  obtain ⟨hmem, hrest⟩ := mem_qualifying (P := fun sl : Slot => s.joinable start sl.record) ho hsl hj
  have best : firstGreatest (fun p : Nat × Slot => (p.2.record.lastTally.map LastTally.time).getD 0)
      (s.slots.filter (fun p => s.joinable start p.2.record)) = some (c, sl) := by
    refine firstGreatest_eq_some hmem fun p hp hne => ?_
    obtain ⟨hp, hpc, hpj⟩ := hrest p hp hne
    rw [ht]
    exact hbest p hp hpc hpj
  rw [State.bestJoinable, best]
  simp [ht]

theorem State.bestJoinable_none {start : Nat} (h : ∀ p ∈ s.slots, s.joinable start p.2.record = false) :
    s.bestJoinable start = none := by
  have nothing : s.slots.filter (fun p => s.joinable start p.2.record) = [] := by
    simpa [List.filter_eq_nil_iff] using h
  rw [State.bestJoinable, nothing]
  rfl

/-- The state once a late reception is bound to a record at an expected offset. -/
def State.joined (s : State) (c : Nat) (k : Key) (e : Nat) : State :=
  { takenUp s c k e with
    slots := Sparse.modify s.slots c (fun sl => { sl with record := sl.record.bindAt s.self e true })
    reception := s.reception.entering (some c) }

theorem State.joined_nextChartLine (hr : s.record? c = some r) (k : Key) (e : Nat) : (s.joined c k e).nextChartLine = e := by
  obtain ⟨sl, hsl, rfl⟩ := State.slot_of_record hr
  have record : (s.joined c k e).record? c = some (sl.record.bindAt s.self e true) := by
    simp only [State.record?, State.slot?, State.joined, Sparse.find_modify_same, hsl, Option.map_some]
  have line := State.nextChartLine_of_bound (s := s.joined c k e) rfl record
  simpa [State.joined, Reception.entering, ChartRecord.bindAt] using line

/-! ## A late reception's own chart -/

/-- A chart just made has offset 0: its line 0 is within bounds. -/
theorem State.chartMade_lengthTest (v : State) (q : Byte) (f : Reception → Reception) :
    (((v.chartMade q c true).modifyReception f).modifyReception (fun r => r.entering (some c))).lengthTest =
      ((v.chartMade q c true).modifyReception f).modifyReception (fun r => r.entering (some c)) := by
  refine State.lengthTest_of_not_beyond ?_
  have record : (v.chartMade q c true).record? c = some { v.originated { origin := v.self, sequence := q } true with
      ownOpen := if (v.link.queueOpenClose (v.ownOpenFrame { origin := v.self, sequence := q } true)).isSome then .queued else .done } := by
    simp only [State.record?, State.slot?, State.chartMade, Sparse.find_put_same, Option.map_some]
  have line := State.nextChartLine_of_bound (s := ((v.chartMade q c true).modifyReception f).modifyReception
    (fun r => r.entering (some c))) rfl record
  rw [line]
  simp [Reception.entering, State.originated]

theorem State.unbound_lengthTest (v : State) : (v.modifyReception (fun r => r.entering none)).lengthTest =
    v.modifyReception (fun r => r.entering none) := by
  refine State.lengthTest_of_not_beyond ?_
  rw [State.nextChartLine_of_unbound rfl]
  simp [Reception.entering]

/-! ## The statement's parts -/

/-- Late entry into the record whose TALLY arrived latest. -/
theorem State.exec_searchPeriodEnd_joined {t : LastTally} (hrun : s.config.state = .run) (hst : s.reception.state = .search)
    (hdue : s.reception.endDue = true) (hclear : 4 * invalidCount s.lineTones < s.width) (hlate : 7 ≤ s.reception.lateCount)
    (hr : s.record? c = some r) (hbest : s.bestJoinable s.reception.sampleCount = some (c, t)) :
    exec .searchPeriodEnd s = .next (State.settle (State.lengthTest
      ((s.modifyReception Reception.askingLate).joined c r.key (s.lateOffset s.reception.sampleCount t)))) := by
  have asked : (s.modifyReception Reception.askingLate).requestLate s.reception.sampleCount =
      (some c, (s.modifyReception Reception.askingLate).bind c (s.lateOffset s.reception.sampleCount t) true) := by
    have best : (s.modifyReception Reception.askingLate).bestJoinable s.reception.sampleCount = some (c, t) := hbest
    unfold State.requestLate
    rw [best]
    rfl
  have late := State.exec_searchPeriodEnd_late hrun hst hdue hclear hlate
  rw [asked, State.bind_eq (s := s.modifyReception Reception.askingLate) hr] at late
  exact late

/-- Late entry with no record to join. -/
theorem State.exec_searchPeriodEnd_originated (hrun : s.config.state = .run) (hst : s.reception.state = .search)
    (hdue : s.reception.endDue = true) (hclear : 4 * invalidCount s.lineTones < s.width) (hlate : 7 ≤ s.reception.lateCount)
    (hnone : s.bestJoinable s.reception.sampleCount = none) :
    let asked := (s.modifyReception Reception.askingLate).originate true
    exec .searchPeriodEnd s = .next (State.settle (asked.2.modifyReception (fun r => r.entering asked.1)).lengthTest) := by
  have asked : (s.modifyReception Reception.askingLate).requestLate s.reception.sampleCount =
      (s.modifyReception Reception.askingLate).originate true := by
    have best : (s.modifyReception Reception.askingLate).bestJoinable s.reception.sampleCount = none := hnone
    unfold State.requestLate
    rw [best]
  have late := State.exec_searchPeriodEnd_late hrun hst hdue hclear hlate
  rw [asked] at late
  exact late

/-- Late entry into a chart of its own, in each of the three ways to have a slot or none (R13, R78, R81). -/
theorem searchPeriods_counted (s : State) (hrun : s.config.state = .run) (hst : s.reception.state = .search)
    (hdue : s.reception.endDue = true) (hclear : 4 * invalidCount s.lineTones < s.width) (hlate : 7 ≤ s.reception.lateCount)
    (ho : s.TablesOrdered) (q : Byte) (u : State) (hnone : s.bestJoinable s.reception.sampleCount = none) (h : originates s q u) :
    let made := fun (v : State) (c : Nat) => ((v.chartMade q c true).modifyReception Reception.askingLate).modifyReception
      (fun r => r.entering (some c))
    (∀ c, u.slot? c = none → (∀ b < c, (u.slot? b).isSome) → c < s.slotCount →
      exec .searchPeriodEnd s = .next (made u c).settle) ∧
    ((∀ b < s.slotCount, (u.slot? b).isSome) → ∀ c r, u.record? c = some r → r.state = .closed → r.hold = .none →
      (∀ p ∈ u.slots, p.1 ≠ c → p.2.record.state = .closed → p.2.record.hold = .none →
        r.closeOrder.getD 0 < p.2.record.closeOrder.getD 0) →
      exec .searchPeriodEnd s = .next (made (u.releaseSlot c) c).settle) ∧
    ((∀ b < s.slotCount, (u.slot? b).isSome) → (∀ p ∈ u.slots, p.2.record.state = .closed → p.2.record.hold ≠ .none) →
      exec .searchPeriodEnd s = .next (State.settle { u with
        originSequence := q + 1
        attention := { u.attention with events := insertEvent ⟨.directoryFull, 0⟩ u.attention.events }
        reception := u.reception.askingLate.entering none })) := by
  intro made
  have outcome := State.exec_searchPeriodEnd_originated hrun hst hdue hclear hlate hnone
  refine ⟨fun c hfree hlow hc => ?_, fun hfull c r hr hclosed hhold hleast => ?_, fun hfull hheld => ?_⟩
  · rw [State.originate_free true Reception.askingLate_leavesBuffers h ho.slots hfree hlow hc] at outcome
    rw [outcome]
    exact congrArg (fun x => Host.Outcome.next x.settle) (u.chartMade_lengthTest q Reception.askingLate)
  · rw [State.originate_evicted true Reception.askingLate_leavesBuffers h ho.slots hfull hr hclosed hhold hleast] at outcome
    rw [outcome]
    exact congrArg (fun x => Host.Outcome.next x.settle) ((u.releaseSlot c).chartMade_lengthTest q Reception.askingLate)
  · rw [State.originate_full true Reception.askingLate_leavesBuffers h ho.slots hfull hheld] at outcome
    rw [outcome]
    exact congrArg (fun x => Host.Outcome.next x.settle) (State.unbound_lengthTest _)

/-- A release changes none of the unit's own fields but the buffers. -/
theorem State.releaseSlot_reception (s : State) (c : Nat) :
    (s.releaseSlot c).reception = { s.reception with buffers := (s.releaseSlot c).reception.buffers } := by
  have moved := congrArg State.reception (s.releaseSlot_aside s.originSequence (fun r => { s.reception with buffers := r.buffers })
    ⟨fun _ => rfl, fun _ _ => rfl⟩ c)
  exact moved

theorem originates_reception {s u : State} {q : Byte} (h : originates s q u) :
    u.reception = { s.reception with buffers := u.reception.buffers } := by
  obtain ⟨-, ⟨-, rfl⟩ | ⟨p, -, -, rfl⟩⟩ := h
  · rfl
  · exact s.releaseSlot_reception p.1

/-- The state with a chart made by a late entry, in the words of the state before any release. -/
theorem State.lateMade_eq {s v : State} {q : Byte} {c : Nat} (hv : s.Stands v)
    (hrec : v.reception = { s.reception with buffers := v.reception.buffers }) :
    let key : Key := { origin := s.self, sequence := q }
    let link := fun (x : State) => x.link.queueOpenClose (s.ownOpenFrame key true)
    ((v.chartMade q c true).modifyReception Reception.askingLate).modifyReception (fun r => r.entering (some c)) = { v with
      originSequence := q + 1
      slots := Sparse.put v.slots c
        { record := { s.originated key true with ownOpen := if (link s).isSome then .queued else .done }, entries := [], rows := [] }
      link := (link v).getD v.link
      attention := { v.attention with events := insertEvent ⟨.chartOpened, c⟩ v.attention.events }
      reception := { s.reception.askingLate.entering (some c) with buffers := v.reception.buffers } } := by
  intro key link
  have moved : ((v.chartMade q c true).modifyReception Reception.askingLate).modifyReception (fun r => r.entering (some c)) =
      { v.chartMade q c true with
        reception := { s.reception.askingLate.entering (some c) with buffers := v.reception.buffers } } :=
    congrArg (fun r : Reception => { v.chartMade q c true with reception := r.askingLate.entering (some c) }) hrec
  rw [moved, hv.chartMade]

/-- Settles O26, each period by what its row does. -/
theorem periodsAreCounted : Obligations.PeriodsAreCounted := by
  refine ⟨fun s hrun hst hend => State.exec_endOfStartTone hrun hst hend, fun s hrun hst hdue => ⟨fun hnot => ?_,
    fun hclear hlate ho => ⟨fun c r t hr hj ht hbest => ?_, fun q u hnone h => ?_⟩⟩, fun s hrun hst hdue => ?_,
    fun s audio quadrature hrun hdue hst hskip hown => ?_⟩
  · rw [State.exec_searchPeriodEnd hrun hst hdue, if_neg ?_]
    · rfl
    · split
      · omega
      · omega
  · have best : s.bestJoinable s.reception.sampleCount = some (c, t) := by
      refine State.bestJoinable_eq ho.slots hr ((State.joinable_iff _ _ _).2 hj) ht fun p hp hpc hpj => ?_
      obtain ⟨h1, h2, h3, x, hx, h4⟩ := (State.joinable_iff _ _ _).1 hpj
      rw [hx]
      exact hbest p hp hpc ⟨h1, h2, h3, x, hx, h4⟩ x hx
    have outcome := State.exec_searchPeriodEnd_joined hrun hst hdue hclear hlate hr best
    have line := State.joined_nextChartLine (s := s.modifyReception Reception.askingLate) hr r.key
      (s.lateOffset s.reception.sampleCount t)
    intro offset bound
    have joined : (s.modifyReception Reception.askingLate).joined c r.key (s.lateOffset s.reception.sampleCount t) = bound := by
      simp only [State.joined, ChartRecord.bindAt, Bool.or_true, bound]
      rfl
    rw [joined] at outcome line
    have lateOffset : s.lateOffset s.reception.sampleCount t = offset := rfl
    refine ⟨fun hle => ?_, fun hlt => ?_⟩
    · rw [outcome, State.lengthTest_of_not_beyond (by rw [line]; omega)]
    · rw [outcome, State.lengthTest_of_beyond (by rw [line]; omega)]
  · have outcome := searchPeriods_counted s hrun hst hdue hclear hlate ho q u (State.bestJoinable_none fun p hp => by
      rw [← Bool.not_eq_true, State.joinable_iff]
      exact hnone p hp) h
    obtain ⟨hfree, hevicted, hfull⟩ := outcome
    have stands := originates_stands h
    have kept := originates_reception h
    refine ⟨fun c hc1 hc2 hc3 => ?_, fun hall c r hr hclosed hhold hleast => ?_, fun hall hheld => ?_⟩
    · exact (hfree c hc1 hc2 hc3).trans (congrArg (fun x => Host.Outcome.next x.settle) (State.lateMade_eq stands kept))
    · have released := (u.releaseSlot_reception c).trans (congrArg (fun r : Reception =>
        { r with buffers := (u.releaseSlot c).reception.buffers }) kept)
      exact (hevicted hall c r hr hclosed hhold hleast).trans (congrArg (fun x => Host.Outcome.next x.settle)
        (State.lateMade_eq (stands.trans (u.releaseSlot_stands c)) released))
    · have unbound : u.reception.askingLate.entering none =
          { s.reception.askingLate.entering none with buffers := u.reception.buffers } :=
        congrArg (fun r : Reception => r.askingLate.entering none) kept
      rw [hfull hall hheld, unbound]
      rfl
  · intro ph pulse ph' ends good origin imaged o
    have taken : s.reception.phasing.take pulse = ph' := Phasing.take_eq _ _
    have ending : ph'.ends pulse = true ↔ ends := by
      rw [← taken]
      exact Phasing.ends_take_iff ph pulse
    have good_case : good → ph'.positions ≠ [] → ph'.settledOrigin s.width = some origin := by
      intro hgood hne
      rw [Phasing.settledOrigin_of_good hgood, List.getLast?_eq_some_getLast hne]
      simp only [origin, List.getLast?_eq_some_getLast hne, Option.getD_some]
    have unphased_offset := originOffset_zero s.samples (w := s.width) (by have := s.width_cases; omega)
    refine ⟨fun hends => ?_, fun hends hgood hne hline => ?_, fun hends hgood hne ho hline => ?_, fun hends hgood hline => ?_,
      fun hends hgood hline => ?_⟩
    · exact State.exec_phasingPeriodEnd_goesOn hrun hst hdue rfl taken (fun h => hends (ending.1 h))
    · exact (State.exec_phasingPeriodEnd_ends hrun hst hdue rfl taken (ending.2 hends) (good_case hgood hne)).1 hline
    · have outcome := (State.exec_phasingPeriodEnd_ends hrun hst hdue rfl taken (ending.2 hends) (good_case hgood hne)).2 ho hline
      rw [Option.getD_some, show originOffset origin s.samples s.width = 0 from ho] at outcome
      exact outcome
    · have outcome := (State.exec_phasingPeriodEnd_ends hrun hst hdue rfl taken (ending.2 hends)
        (Phasing.settledOrigin_of_not_good hgood)).1 (.inr hline)
      rw [Option.getD_none, unphased_offset] at outcome
      exact outcome
    · have outcome := (State.exec_phasingPeriodEnd_ends hrun hst hdue rfl taken (ending.2 hends)
        (Phasing.settledOrigin_of_not_good hgood)).2 unphased_offset hline
      rw [Option.getD_none, unphased_offset] at outcome
      exact outcome
  · intro t
    obtain ⟨own, binding⟩ := s.reception.sample_of_skip s.width s.samples audio quadrature hst hskip
    have line : 2047 < t.nextChartLine ↔ s.Beyond s.reception.ownIndex := by
      rw [State.beyond_iff (s := t) (own.trans_le hown)]
      simp only [State.Beyond, t, own, binding]
      rfl
    rw [State.exec_audioSample_of_lineZero audio quadrature hrun hdue hst hskip]
    exact ⟨fun h => by rw [State.lengthTest_of_not_beyond (fun hb => h (line.1 hb))],
      fun h => by rw [State.lengthTest_of_beyond (line.2 h)]⟩

end Sys2Proof.Machine
end

section
/-!
PROOF. What the taking of candidates, the evaluation and the due requests leave of the RECEPTION UNIT: its own fields, the line
buffers apart.
-/
namespace Sys2Proof.Machine

variable (s : State)

/-! ## Acts that leave the whole unit -/

theorem State.reception_ite {p : Prop} [Decidable p] (t u : State) :
    (if p then t else u).reception = if p then t.reception else u.reception := apply_ite State.reception _ _ _

@[simp] theorem State.unmerge_reception (l : List Nat) : (s.unmerge l).reception = s.reception := by
  induction l generalizing s with
  | nil => rfl
  | cons n l ih => exact (ih _).trans rfl

@[simp] theorem State.freePools_reception (l : List Nat) : (s.freePools l).reception = s.reception := by
  rw [State.freePools_eq]

@[simp] theorem State.freeNamed_reception (n : Option Nat) : (s.freeNamed n).reception = s.reception := by
  unfold State.freeNamed
  cases n <;> simp

@[simp] theorem State.cancelWrites_reception (p : Write → Bool) : (s.cancelWrites p).reception = s.reception := by
  obtain ⟨m, i, h, -⟩ := s.cancelWrites_eq p
  rw [h]

@[simp] theorem State.freeAndCancel_reception (l : List Nat) : (s.freeAndCancel l).reception = s.reception := by
  simp [State.freeAndCancel]

@[simp] theorem State.thawEnd_reception (c : Nat) : (s.thawEnd c).reception = s.reception := by
  simp [State.thawEnd, State.reception_ite]

@[simp] theorem State.queueBatch_reception : s.queueBatch.reception = s.reception := by
  have moved := congrArg State.reception (s.queueBatch_aside s.originSequence (fun _ => s.reception))
  exact moved

@[simp] theorem State.queueWrite_reception (w : Write) : (s.queueWrite w).reception = s.reception := by
  simp [State.queueWrite]

@[simp] theorem State.tallyLine_reception (c n g : Nat) (fp : Fingerprint) : (s.tallyLine c n g fp).reception = s.reception := by
  unfold State.tallyLine
  split
  · rfl
  · dsimp only
    split
    · split <;> rfl
    · split
      · split
        · exact State.queueBatch_reception _
        · rfl
      · split
        · exact s.queueBatch_reception
        · exact s.queueBatch_reception

@[simp] theorem State.tallyCandidate_reception (c : Candidate) : (s.tallyCandidate c).reception = s.reception := by
  unfold State.tallyCandidate
  split <;> simp

theorem State.assignShadow_reception {c n e : Nat} {t : State} (h : s.assignShadow c n = some (e, t)) :
    t.reception = s.reception := by
  unfold State.assignShadow at h
  split at h
  · cases h; rfl
  · split at h
    · cases h; rfl
    · cases h

@[simp] theorem State.takeCandidate_reception (c : Candidate) : (s.takeCandidate c).reception = s.reception := by
  have rejected : ∀ t : State, (t.rejectCandidate c).reception = t.reception := fun t => t.freeNamed_reception c.frees
  unfold State.takeCandidate
  split
  · exact rejected s
  · split
    · unfold State.holdCandidate
      split
      · split
        · rename_i h
          simpa using s.assignShadow_reception h
        · exact rejected _
      · exact rejected s
    · split
      · simp [State.acceptCandidate]
      · exact rejected s

@[simp] theorem State.settleMigration_reception : s.settleMigration.reception = s.reception := by
  simp [State.settleMigration, State.reception_ite]

@[simp] theorem State.makeRead_reception : s.makeRead.reception = s.reception := by
  unfold State.makeRead
  split <;> rfl

@[simp] theorem State.formSegments_reception : s.formSegments.reception = s.reception := by
  unfold State.formSegments
  split
  · split <;> rfl
  · rfl

@[simp] theorem State.makeDueReads_reception : s.makeDueReads.reception = s.reception := by
  simp [State.makeDueReads, State.reception_ite]

@[simp] theorem State.evaluate_reception : s.evaluate.reception = s.reception := by
  unfold State.evaluate State.alignDecision
  split
  · split
    · split
      · split
        · simp [State.acceptOffset]
        · rfl
      · rfl
    · rfl
  · rfl

@[simp] theorem State.queueOwnOpen_reception (c : Nat) (split : Bool) : (s.queueOwnOpen c split).reception = s.reception := by
  unfold State.queueOwnOpen
  split
  · split <;> rfl
  · rfl

@[simp] theorem State.clearPeerLines_reception (c : Nat) : (s.clearPeerLines c).reception = s.reception := by
  simp [State.clearPeerLines, State.settlePendingGrades]

@[simp] theorem State.clearPeerShadows_reception (c : Nat) : (s.clearPeerShadows c).reception = s.reception := by
  simp [State.clearPeerShadows]

@[simp] theorem State.redirectWrite_reception (c : Nat) (w : Write) : (s.redirectWrite c w).reception = s.reception := by
  unfold State.redirectWrite
  split
  · rfl
  · split
    · simp
    · dsimp only
      split
      · split
        · rename_i h
          simpa using s.assignShadow_reception h
        · simp
      · simp

@[simp] theorem State.makeReadsAmong_reception (l : List Write) : (s.makeReadsAmong l).reception = s.reception := by
  simp [State.makeReadsAmong]

@[simp] theorem State.redirectWrites_reception (c : Nat) (l : List Write) : (s.redirectWrites c l).reception = s.reception := by
  induction l generalizing s with
  | nil => rfl
  | cons w l ih => simp [State.redirectWrites, ih]

@[simp] theorem State.carryOutFreeze_reception (c : Nat) : (s.carryOutFreeze c).reception = s.reception := by
  simp [State.carryOutFreeze]

/-! ## Acts that take or drop buffered lines -/

/-- The RECEPTION UNIT's own fields, the line buffers apart. -/
def State.unit : Reception := { s.reception with buffers := [] }

variable {s} in
theorem State.unit_of_reception {t : State} (h : t.reception = s.reception) : t.unit = s.unit := by
  unfold State.unit
  rw [h]

theorem State.releaseSlot_unit (c : Nat) : (s.releaseSlot c).unit = s.unit := by
  unfold State.unit
  rw [State.releaseSlot_reception]

theorem State.originKey_unit : s.originKey.2.unit = s.unit := by
  unfold State.originKey
  generalize s.usableSequence 256 s.originSequence = found
  obtain ⟨q, _ | c⟩ := found
  · rfl
  · exact s.releaseSlot_unit c

theorem State.splitRecord_unit (c : Nat) (k : Key) : (s.splitRecord c k).unit = s.unit := by
  refine Eq.trans (State.unit_of_reception ?_) s.originKey_unit
  simp [State.splitRecord, State.queueOpenClose_eq]

theorem State.carryOutSplit_unit (c : Nat) : (s.carryOutSplit c).unit = s.unit := by
  unfold State.carryOutSplit
  split
  · rfl
  · rename_i r _
    dsimp only
    rw [State.unit_of_reception (State.startNext_reception _), State.unit_of_reception (State.settleMigration_reception _)]
    generalize hx : State.splitRecord _ c r.key = x
    have split : x.unit = s.unit := by
      rw [← hx, State.splitRecord_unit]
      exact State.unit_of_reception (by simp)
    exact split

theorem State.carryOut_unit (q : QuietRequest) : (s.carryOut q).unit = s.unit := by
  unfold State.carryOut
  split
  · cases q with
    | splitClear c =>
      dsimp only
      split
      · exact s.carryOutSplit_unit c
      · rfl
    | freeze c =>
      dsimp only
      split
      · exact State.unit_of_reception (s.carryOutFreeze_reception c)
      · rfl
  · rfl

theorem State.carryOutAll_unit (l : List QuietRequest) : (s.carryOutAll l).unit = s.unit := by
  induction l generalizing s with
  | nil => rfl
  | cons q l ih => exact (ih _).trans ((State.unit_of_reception (State.makeDueReads_reception _)).trans (s.carryOut_unit q))

theorem State.takeDueSteps_unit : s.takeDueSteps.unit = s.unit :=
  (State.carryOutAll_unit _ _).trans (State.unit_of_reception s.makeDueReads_reception)

theorem State.takeNext_unit : s.takeNext.unit = s.unit := by
  unfold State.takeNext
  split
  · exact State.unit_of_reception (by simp [State.queueStore])
  · split
    · exact (State.unit_of_reception (State.takeCandidate_reception _ _)).trans rfl
    · split
      · refine State.unit_of_reception ?_
        unfold State.takeBody
        dsimp only
        split
        · split <;> simp
        · rfl
      · split
        · exact State.unit_of_reception (by simp [State.takeMigration])
        · split
          · exact State.unit_of_reception (by simp [State.takeMerge])
          · rfl

/-- What arrives at the LINE TABLE and is taken leaves the unit's own fields. -/
theorem State.takeArrival_unit (waited : Bool) : (s.takeArrival waited).unit = s.unit := by
  unfold State.takeArrival
  split
  · exact (State.takeNext_unit _).trans s.takeDueSteps_unit
  · rfl

theorem State.splitAtOnce_unit : s.splitAtOnce.unit = s.unit := by
  unfold State.splitAtOnce
  split
  · split
    · exact (State.carryOutSplit_unit _ _).trans (State.unit_of_reception s.makeDueReads_reception)
    · rfl
  · rfl

end Sys2Proof.Machine
end

section
/-!
PROOF. The end of an image line (ImageLineIsHandedOn).
-/
namespace Sys2Proof.Machine

variable {s x y : State} {c : Nat} {r : ChartRecord}

/-! ## The row's shape (R14, R15) -/

/-- The faded lines in a row, this one included (R15). -/
def State.fades (s : State) : Nat := if s.width < 2 * s.finishedLine.invalid then s.reception.fadeCount + 1 else 0

/-- The next own line follows. -/
def State.bumped (x : State) (own : Nat) : State := { x with reception := { x.reception with ownIndex := own + 1 } }

/-- What follows a line of `s` that was handed on, with `nextLine` telling the next chart line (R14 to R16). -/
def State.lineEnded (s : State) (nextLine : State → Int) (x : State) : State := State.settle (
  if s.reception.toneDue then x.bumped s.reception.ownIndex
  else if 16 ≤ s.fades then x.endReception .fade
  else if 2047 < nextLine (x.bumped s.reception.ownIndex) then (x.bumped s.reception.ownIndex).endReception .length
  else x.bumped s.reception.ownIndex)

/-- The count of faded lines is taken into the unit. -/
def State.faded (x : State) (fade : Nat) : State := x.modifyReception (fun r => { r with fadeCount := fade })

theorem State.unit_faded (h : y.unit = x.unit) (fade : Nat) : (y.faded fade).unit = (x.faded fade).unit :=
  congrArg (fun r : Reception => { r with fadeCount := fade }) h

/-- The row: the line handed on (`y`), what is due at once (`x`), and the line tests. -/
theorem State.exec_imageLineEnd (hrun : s.config.state = .run) (hst : s.reception.state = .image) (hdue : s.reception.endDue = true)
    (hy : s.nextPeriod.handOn s.finishedLine = y) (hu : y.unit = s.nextPeriod.unit)
    (hx : (y.faded s.fades).splitAtOnce.takeArrival s.candidateWaits = x) {nextLine : State → Int}
    (hn : (x.bumped s.reception.ownIndex).nextChartLine = nextLine (x.bumped s.reception.ownIndex)) :
    exec .imageLineEnd s = .next (s.lineEnded nextLine x) := by
  have kept : x.unit = (s.nextPeriod.faded s.fades).unit := by
    rw [← hx, State.takeArrival_unit, State.splitAtOnce_unit, State.unit_faded hu]
  have ownKept := congrArg Reception.ownIndex kept
  have own : x.reception.ownIndex = s.reception.ownIndex := ownKept
  have toneKept := congrArg Reception.toneDue kept
  have tone : x.reception.toneDue = s.reception.toneDue := toneKept
  have ends : s.imageLineEnds = if x.reception.toneDue then x.bumped x.reception.ownIndex
      else if 16 ≤ s.fades then x.endReception .fade else (x.bumped x.reception.ownIndex).lengthTest := by
    rw [← hx, ← hy]
    rfl
  rw [own, tone] at ends
  have row : exec .imageLineEnd s = .next s.imageLineEnds.settle := by
    simp only [exec, execImageLineEnd, State.whenCan, State.running, hrun, hst, hdue]
    rfl
  rw [row, ends]
  unfold State.lineEnded State.lengthTest
  rw [hn]

/-! ## Nothing due at once -/

theorem State.splitAtOnce_of_not_splitWait (h : x.alignment.state ≠ .splitWait) : x.splitAtOnce = x := by
  unfold State.splitAtOnce
  split
  · rename_i hs _
    exact absurd hs h
  · rfl

theorem State.takeArrival_of_same {waited : Bool} (h : waited = false → x.candidateWaits = false) : x.takeArrival waited = x := by
  cases waited with
  | true => exact x.takeArrival_of_waited
  | false => exact x.takeArrival_of_none false (h rfl)

theorem State.takeArrival_of_full (waited : Bool) (h : 4 ≤ x.lineTable.queue.length) : x.takeArrival waited = x := by
  have full : x.writePlaceFree = false := by
    simp [State.writePlaceFree, Config.writeQueuePlaces, Nat.not_lt.2 h]
  simp [State.takeArrival, full]

/-- What waits for the LINE TABLE, told by what it is told by (R31). -/
theorem State.candidateWaits_congr (hstore : y.lineTable.store.isSome = x.lineTable.store.isSome)
    (hbuf : y.reception.buffers = x.reception.buffers) (hlast : y.lineTable.lastServed = x.lineTable.lastServed)
    (hctx : y.fetch.contexts = x.fetch.contexts) (hst : y.alignment.state = x.alignment.state)
    (hmig : y.alignment.migration = x.alignment.migration) (hmerge : y.nextMerge = x.nextMerge) :
    y.candidateWaits = x.candidateWaits := by
  simp only [State.candidateWaits, State.nextBody, hstore, hbuf, hlast, hctx, hst, hmig, hmerge]

theorem State.nextMerge_congr (hpool : y.pool.filter (fun p => p.2.kind = .shadow) = x.pool.filter (fun p => p.2.kind = .shadow))
    (hhold : ∀ b, y.hold b = x.hold b) : y.nextMerge = x.nextMerge := by
  have split : ∀ z : State, z.pool.filter (fun p => p.2.kind = .shadow && !p.2.merging && z.hold p.2.slot = .thawing) =
      (z.pool.filter (fun p => p.2.kind = .shadow)).filter (fun p => !p.2.merging && z.hold p.2.slot = .thawing) := by
    intro z
    rw [List.filter_filter]
    refine List.filter_congr fun p _ => ?_
    cases decide (p.2.kind = .shadow) <;> simp
  unfold State.nextMerge
  rw [split, split, hpool]
  simp only [hhold]

/-- A change of one slot that keeps its record's hold keeps every hold. -/
theorem State.hold_modify (l : List (Nat × Slot)) (c : Nat) (g : Slot → Slot) (h : ∀ sl, (g sl).record.hold = sl.record.hold)
    (hx : x.slots = l) (hy : y.slots = Sparse.modify l c g) (b : Nat) : y.hold b = x.hold b := by
  unfold State.hold State.record? State.slot?
  rw [hx, hy, Sparse.find_modify]
  by_cases hb : b = c
  · rw [if_pos hb]
    cases Sparse.find l b <;> simp [h]
  · rw [if_neg hb]

/-! ## The report of a line handed on (R89) -/

@[simp] theorem ChartRecord.restartQuiet_offset (r : ChartRecord) (d : Nat) : (r.restartQuiet d).offset = r.offset := by
  unfold ChartRecord.restartQuiet
  split <;> rfl

@[simp] theorem ChartRecord.restartQuiet_expected (r : ChartRecord) (d : Nat) : (r.restartQuiet d).expected = r.expected := by
  unfold ChartRecord.restartQuiet
  split <;> rfl

@[simp] theorem ChartRecord.restartQuiet_hold (r : ChartRecord) (d : Nat) : (r.restartQuiet d).hold = r.hold := by
  unfold ChartRecord.restartQuiet
  split <;> rfl

/-- A record once a line of its chart was handed on. -/
def ChartRecord.handed (r : ChartRecord) (n : Option Nat) (deadline : Nat) : ChartRecord :=
  ({ r with ownLinesHanded := true, lastOwn := n.orElse fun _ => r.lastOwn } : ChartRecord).restartQuiet deadline

theorem State.reportOwnLine_eq (x : State) (c : Nat) (n : Option Nat) : x.reportOwnLine c n = { x with
    slots := Sparse.modify x.slots c (fun sl => { sl with record := sl.record.handed n (x.now + 32 * x.linePeriod) }) } := rfl

theorem State.reportOwnLine_record (hr : x.record? c = some r) (n : Option Nat) :
    (x.reportOwnLine c n).record? c = some (r.handed n (x.now + 32 * x.linePeriod)) := by
  obtain ⟨sl, hsl, rfl⟩ := State.slot_of_record hr
  rw [State.reportOwnLine_eq]
  simp only [State.record?, State.slot?, Sparse.find_modify_same, hsl, Option.map_some]

theorem State.reportOwnLine_hold (x : State) (c : Nat) (n : Option Nat) (b : Nat) : (x.reportOwnLine c n).hold b = x.hold b :=
  State.hold_modify x.slots c (fun sl => { sl with record := sl.record.handed n (x.now + 32 * x.linePeriod) })
    (fun _ => ChartRecord.restartQuiet_hold _ _) rfl rfl b

theorem State.reportOwnLine_entry (x : State) (c : Nat) (n : Option Nat) (b k : Nat) :
    (x.reportOwnLine c n).entry b k = x.entry b k := by
  rw [State.reportOwnLine_eq]
  unfold State.entry State.slot?
  dsimp only
  rw [Sparse.find_modify]
  by_cases hb : b = c
  · rw [if_pos hb]
    cases Sparse.find x.slots b <;> rfl
  · rw [if_neg hb]

/-! ## Handing a line on (R18) -/

theorem State.handOn_unbound (l : FinishedLine) (hb : x.reception.binding = none) : x.handOn l = x := by
  unfold State.handOn
  rw [hb]

theorem State.handOn_aligning (l : FinishedLine) (hb : x.reception.binding = some c) (hr : x.record? c = some r)
    (hst : r.state = .aligning) :
    x.handOn l = (x.reportOwnLine c none).alignLine c l.ownIndex l.grade l.fingerprint l.pixels := by
  unfold State.handOn
  simp only [hb, hr, hst, if_true]

theorem State.handOn_outside (l : FinishedLine) {d : Int} (hb : x.reception.binding = some c) (hr : x.record? c = some r)
    (hst : r.state = .opened) (hd : r.offset = some d) (hout : (l.ownIndex : Int) + d < 0 ∨ 2047 < (l.ownIndex : Int) + d) :
    x.handOn l = x := by
  have none : chartLine ((l.ownIndex : Int) + d) = none := if_neg (by omega)
  unfold State.handOn
  simp only [hb, hr, hst, hd, none]
  rfl

theorem State.handOn_offered (l : FinishedLine) {d : Int} {n : Nat} (hb : x.reception.binding = some c) (hr : x.record? c = some r)
    (hst : r.state = .opened) (hd : r.offset = some d) (hn : (n : Int) = (l.ownIndex : Int) + d) (hle : n ≤ 2047) :
    x.handOn l = (x.reportOwnLine c (some n)).offerOwnLine
      { slot := c, line := n, ownIndex := l.ownIndex, grade := l.grade, fingerprint := l.fingerprint, pixels := l.pixels } := by
  have some : chartLine ((l.ownIndex : Int) + d) = some n := by
    rw [← hn]
    exact if_pos (by omega)
  unfold State.handOn
  simp only [hb, hr, hst, hd, some]
  rfl

/-! ## A line offered as a candidate (R19, R31) -/

theorem State.offerOwnLine_buffered (b : BufferedLine) (hno : x.NoReads) (hreq : x.lineTable.requests = [])
    (h : x.reception.buffers ≠ [] ∨ 4 ≤ x.lineTable.queue.length ∨ x.lineTable.store ≠ none) :
    x.offerOwnLine b = x.modifyReception (fun r => { r with buffers := joinBuffers r.buffers b }) := by
  unfold State.offerOwnLine
  rw [x.takeDueSteps_of_idle hno hreq]
  refine if_neg fun hall => ?_
  simp only [Bool.and_eq_true, State.writePlaceFree, decide_eq_true_eq, Config.writeQueuePlaces, List.isEmpty_iff,
    Option.isNone_iff_eq_none] at hall
  obtain ⟨⟨hbuf, hq⟩, hstore⟩ := hall
  rcases h with h | h | h
  · exact h hbuf
  · omega
  · exact h hstore

theorem State.offerOwnLine_taken (b : BufferedLine) (hno : x.NoReads) (hreq : x.lineTable.requests = [])
    (hbuf : x.reception.buffers = []) (hq : x.lineTable.queue.length < 4) (hstore : x.lineTable.store = none) :
    x.offerOwnLine b = x.takeCandidate (x.ownCandidate b) := by
  unfold State.offerOwnLine
  rw [x.takeDueSteps_of_idle hno hreq]
  exact if_pos (by simp [hbuf, hstore, State.writePlaceFree, Config.writeQueuePlaces, hq])

theorem joinBuffers_eq (l : List BufferedLine) (b : BufferedLine) :
    joinBuffers l b = (if l.length < 2 then l else l.drop 1) ++ [b] := by
  unfold joinBuffers
  split
  · rw [if_neg (by omega)]
  · rw [if_pos (by omega)]

/-! ## A candidate's taking leaves the ALIGNMENT UNIT -/

theorem State.tallyLine_alignment (x : State) (c n g : Nat) (fp : Fingerprint) : (x.tallyLine c n g fp).alignment = x.alignment := by
  have batch : ∀ z : State, z.queueBatch.alignment = z.alignment := by
    intro z
    unfold State.queueBatch
    split
    · rfl
    · split
      · rfl
      · split
        · rfl
        · split <;> rfl
  unfold State.tallyLine
  split
  · rfl
  · dsimp only
    split
    · split <;> rfl
    · split
      · split
        · exact batch _
        · rfl
      · split
        · exact batch x
        · exact batch x

theorem State.tallyCandidate_alignment (x : State) (k : Candidate) : (x.tallyCandidate k).alignment = x.alignment := by
  unfold State.tallyCandidate
  split
  · exact x.tallyLine_alignment _ _ _ _
  · rfl

theorem State.rejectCandidate_alignment (x : State) (k : Candidate) : (x.rejectCandidate k).alignment = x.alignment := by
  unfold State.rejectCandidate State.freeNamed
  cases k.frees with
  | none => rfl
  | some n =>
    dsimp only
    rw [State.freePool_eq]

theorem State.queueWrite_alignment (x : State) (w : Write) : (x.queueWrite w).alignment = x.alignment :=
  State.startNext_alignment _

theorem State.takeCandidate_alignment (x : State) (k : Candidate) : (x.takeCandidate k).alignment = x.alignment := by
  unfold State.takeCandidate
  split
  · exact x.rejectCandidate_alignment k
  · split
    · unfold State.holdCandidate
      split
      · split
        · rename_i h
          have assigned : ∀ {n t}, x.assignShadow k.slot k.line = some (n, t) → t.alignment = x.alignment := by
            intro n t h
            unfold State.assignShadow at h
            split at h
            · cases h; rfl
            · split at h
              · cases h; rfl
              · cases h
          rw [State.tallyCandidate_alignment, State.queueWrite_alignment]
          have kept := assigned h
          exact kept
        · exact State.rejectCandidate_alignment _ k
      · exact x.rejectCandidate_alignment k
    · split
      · unfold State.acceptCandidate
        rw [State.tallyCandidate_alignment]
        exact x.queueWrite_alignment _
      · exact x.rejectCandidate_alignment k

/-! ## A candidate accepted while nothing else waits (R25, R26, R28, R112) -/

/-- A write that joins an empty queue starts at once. -/
theorem State.queueWrite_first (w : Write) {p : Pixels} (hq : x.lineTable.queue = []) (hreq : x.lineTable.requests = [])
    (hstart : x.lineTable.started = false) (hw : w.content = some p) :
    x.queueWrite w = { x with lineTable := { x.lineTable with
      queue := [{ w with order := x.lineTable.nextOrder }], started := true, nextOrder := x.lineTable.nextOrder + 1 } } := by
  obtain ⟨order, kind, slot, target, grade, source, origin, content, frees, stale⟩ := w
  obtain rfl : content = some p := hw
  unfold State.queueWrite State.startNext
  simp [hq, hreq, hstart]

theorem replaces_of (margin g : Nat) (e : LineEntry) (hg : 1 ≤ g) (h : e.committed = 0 ∧ e.pending = none ∨
    e.pending.getD e.committed < g ∧ e.pending.getD e.committed + margin ≤ g) : replaces margin g (referenceGrade e none) = true := by
  unfold referenceGrade
  by_cases hempty : e.committed = 0 ∧ e.pending = none
  · simp [hempty, replaces, hg]
  · have reference : ¬(decide (e.committed = 0) && e.pending.isNone) = true := by simpa using hempty
    obtain ⟨hlt, hmargin⟩ := h.resolve_left hempty
    dsimp only
    rw [if_neg reference]
    simp only [replaces, Bool.and_eq_true, decide_eq_true_eq]
    omega

theorem State.takeCandidate_first {k : Candidate} {p : Pixels} {fp : Fingerprint} (hg : 3 ≤ k.grade) (hhold : x.hold k.slot = .none)
    (hrep : replaces x.config.settings.margin k.grade (referenceGrade (x.entry k.slot k.line) none) = true)
    (hq : x.lineTable.queue = []) (hreq : x.lineTable.requests = []) (hstart : x.lineTable.started = false)
    (hbatch : x.fetch.batch = none) (hp : k.content = some p) (hw : k.width = x.width) (hfp : k.fingerprint = some fp) :
    x.takeCandidate k = { x with
      lineTable := { x.lineTable with
        queue :=
          [{ order := x.lineTable.nextOrder, kind := .composite, slot := k.slot, target := k.line, grade := k.grade
             source := k.source, origin := some k.origin, content := some p, frees := k.frees }]
        started := true, nextOrder := x.lineTable.nextOrder + 1 }
      slots := Sparse.modify x.slots k.slot (fun sl => sl.setEntry k.line { sl.entry k.line with pending := some k.grade })
      fetch := { x.fetch with batch := some ({ slot := k.slot, first := k.line, lines := [{ grade := k.grade, fingerprint := fp }]
                                               deadline := some (x.now + 8 * x.linePeriod), lastTaken := x.now
                                               waiting := false } : Batch) } } := by
  have composite : x.heldReference k.slot k.line = none := by
    unfold State.heldReference
    rw [hhold]
  have write : x.writeOf k .composite k.line =
      { order := 0, kind := .composite, slot := k.slot, target := k.line, grade := k.grade, source := k.source
        origin := some k.origin, content := some p, frees := k.frees } := by
    simp [State.writeOf, hp, hw, mapWidth]
  unfold State.takeCandidate
  rw [if_neg (by omega), composite]
  dsimp only
  rw [if_pos hrep]
  unfold State.acceptCandidate
  rw [write, State.queueWrite_first _ hq hreq hstart rfl]
  unfold State.tallyCandidate State.tallyLine
  simp only [hfp, State.modifyEntry_fetch, hbatch]
  rfl

end Sys2Proof.Machine
end

section
/-!
PROOF. The end of an image line, continued: the forms a line handed on can take, and the statement (ImageLineIsHandedOn).
-/
namespace Sys2Proof.Machine

variable {s x y : State} {c : Nat} {r : ChartRecord}

/-- With no split waited for and nothing newly waiting for the LINE TABLE, nothing more happens at once. -/
theorem State.nothing_at_once {waited : Bool} (ha : x.alignment.state ≠ .splitWait)
    (hw : (waited = false → x.candidateWaits = false) ∨ 4 ≤ x.lineTable.queue.length) :
    x.splitAtOnce.takeArrival waited = x := by
  rw [State.splitAtOnce_of_not_splitWait ha]
  rcases hw with hw | hw
  · exact State.takeArrival_of_same hw
  · exact State.takeArrival_of_full waited hw

/-- The line tests where the chart of the reception is OPEN with offset `d`. -/
theorem State.nextChartLine_of_opened {own : Nat} {d : Int} (hb : x.reception.binding = some c) (hr : x.record? c = some r)
    (hd : r.offset = some d) : (x.bumped own).nextChartLine = own + 1 + d := by
  have line := State.nextChartLine_of_bound (s := x.bumped own) hb hr
  rw [line, hd]
  rfl

/-- The line tests where it is still ALIGNING. -/
theorem State.nextChartLine_of_aligning {own : Nat} (hb : x.reception.binding = some c) (hr : x.record? c = some r)
    (hd : r.offset = none) : (x.bumped own).nextChartLine = own + 1 + (r.expected.getD 0 : Nat) := by
  have line := State.nextChartLine_of_bound (s := x.bumped own) hb hr
  rw [line, hd]
  rfl

/-- The finished line as it waits in a line buffer. -/
def State.bufferedLine (s : State) (c n : Nat) : BufferedLine :=
  { slot := c, line := n, ownIndex := s.reception.ownIndex, grade := s.finishedLine.grade
    fingerprint := s.finishedLine.fingerprint, pixels := s.finishedLine.pixels }

/-- The candidate that a finished line makes. -/
def State.lineCandidate (s : State) (c n : Nat) : Candidate :=
  { slot := c, line := n, grade := s.finishedLine.grade, source := s.self, origin := .own, width := s.width
    content := some s.finishedLine.pixels, fingerprint := some s.finishedLine.fingerprint, frees := none }

theorem State.handOn_taken {d : Int} {n : Nat} (hb : s.reception.binding = some c) (hr : s.record? c = some r)
    (hopen : r.state = .opened) (hd : r.offset = some d) (hn : (n : Int) = s.reception.ownIndex + d) (hle : n ≤ 2047)
    (hno : s.NoReads) (hreq : s.lineTable.requests = []) (hbuf : s.reception.buffers = []) (hq : s.lineTable.queue.length < 4)
    (hstore : s.lineTable.store = none) :
    s.nextPeriod.handOn s.finishedLine = (s.nextPeriod.reportOwnLine c (some n)).takeCandidate (s.lineCandidate c n) := by
  have offered := State.offerOwnLine_taken (x := s.nextPeriod.reportOwnLine c (some n)) (s.bufferedLine c n)
    ⟨hno.lines, hno.bodies⟩ hreq hbuf hq hstore
  exact (State.handOn_offered (x := s.nextPeriod) s.finishedLine hb hr hopen hd hn hle).trans offered

/-- The state with an accepted line queued as the only write, and its batch begun. -/
def State.lineQueued (s : State) (c n : Nat) : State :=
  { s.nextPeriod with
    lineTable := { s.lineTable with
      queue :=
        [{ order := s.lineTable.nextOrder, kind := .composite, slot := c, target := n, grade := s.finishedLine.grade
           source := s.self, origin := some .own, content := some s.finishedLine.pixels, frees := none }]
      started := true, nextOrder := s.lineTable.nextOrder + 1 }
    slots := Sparse.modify s.slots c (fun sl =>
      ({ sl with record := sl.record.handed (some n) (s.now + 32 * s.linePeriod) } : Slot).setEntry n
        { sl.entry n with pending := some s.finishedLine.grade })
    fetch := { s.fetch with batch := some ({ slot := c, first := n
                                             lines := [{ grade := s.finishedLine.grade, fingerprint := s.finishedLine.fingerprint }]
                                             deadline := some (s.now + 8 * s.linePeriod), lastTaken := s.now
                                             waiting := false } : Batch) } }

/-- An accepted line of a chart not held, with no other write queued (R25, R26, R28, R112). -/
theorem State.takeCandidate_line {n : Nat} (hr : s.record? c = some r) (hhold : r.hold = .none) (hq : s.lineTable.queue = [])
    (hreq : s.lineTable.requests = []) (hstart : s.lineTable.started = false) (hbatch : s.fetch.batch = none)
    (hrep : (s.entry c n).committed = 0 ∧ (s.entry c n).pending = none ∨
      (s.entry c n).pending.getD (s.entry c n).committed < s.finishedLine.grade ∧
        (s.entry c n).pending.getD (s.entry c n).committed + s.config.settings.margin ≤ s.finishedLine.grade) :
    (s.nextPeriod.reportOwnLine c (some n)).takeCandidate (s.lineCandidate c n) = s.lineQueued c n := by
  obtain ⟨-, hgrade, -⟩ := s.finishedLine_grade
  have hold : (s.nextPeriod.reportOwnLine c (some n)).hold c = .none := by
    rw [State.reportOwnLine_hold]
    unfold State.hold
    have used : s.nextPeriod.record? c = some r := hr
    rw [used]
    exact hhold
  have entry : (s.nextPeriod.reportOwnLine c (some n)).entry c n = s.entry c n := State.reportOwnLine_entry _ _ _ _ _
  have accepted := State.takeCandidate_first (x := s.nextPeriod.reportOwnLine c (some n)) (k := s.lineCandidate c n) hgrade hold
    (by
      have replaced := replaces_of s.config.settings.margin s.finishedLine.grade (s.entry c n) (by omega) hrep
      rw [← entry] at replaced
      exact replaced)
    hq hreq hstart hbatch rfl rfl rfl
  have slots := Sparse.modify_modify s.slots c
    (fun sl => { sl with record := sl.record.handed (some n) (s.now + 32 * s.linePeriod) })
    (fun sl => sl.setEntry n { sl.entry n with pending := some s.finishedLine.grade })
  exact accepted.trans (congrArg (fun l => { s.lineQueued c n with slots := l }) slots)

section OpenChart

variable (hrun : s.config.state = .run) (hst : s.reception.state = .image) (hdue : s.reception.endDue = true)
include hrun hst hdue

/-! ## A reception unbound or bound to an OPEN chart (R18, R19) -/

theorem State.exec_imageLineEnd_unbound (hb : s.reception.binding = none) (ha : s.alignment.state ≠ .splitWait) :
    exec .imageLineEnd s = .next (s.lineEnded (fun _ => s.reception.ownIndex + 1) (s.nextPeriod.faded s.fades)) :=
  State.exec_imageLineEnd hrun hst hdue (State.handOn_unbound _ hb) rfl
    (State.nothing_at_once (x := s.nextPeriod.faded s.fades) ha (.inl id)) (State.nextChartLine_of_unbound hb)

theorem State.exec_imageLineEnd_outside {d : Int} (hb : s.reception.binding = some c) (hr : s.record? c = some r)
    (ha : s.alignment.state ≠ .splitWait) (hopen : r.state = .opened) (hd : r.offset = some d)
    (hout : (s.reception.ownIndex : Int) + d < 0 ∨ 2047 < (s.reception.ownIndex : Int) + d) :
    exec .imageLineEnd s = .next (s.lineEnded (fun _ => s.reception.ownIndex + 1 + d) (s.nextPeriod.faded s.fades)) :=
  State.exec_imageLineEnd hrun hst hdue (State.handOn_outside (x := s.nextPeriod) s.finishedLine hb hr hopen hd hout) rfl
    (State.nothing_at_once (x := s.nextPeriod.faded s.fades) ha (.inl id))
    (State.nextChartLine_of_opened (x := s.nextPeriod.faded s.fades) hb hr hd)

section Offered

variable {d : Int} {n : Nat} (hb : s.reception.binding = some c) (hr : s.record? c = some r)
  (ha : s.alignment.state ≠ .splitWait) (hopen : r.state = .opened) (hd : r.offset = some d)
  (hn : (n : Int) = s.reception.ownIndex + d) (hle : n ≤ 2047) (hno : s.NoReads) (hreq : s.lineTable.requests = [])
include hb hr ha hopen hd hn hle hno hreq

theorem State.exec_imageLineEnd_buffered
    (hbuf : s.reception.buffers ≠ [] ∨ 4 ≤ s.lineTable.queue.length ∨ s.lineTable.store ≠ none) :
    exec .imageLineEnd s = .next (s.lineEnded (fun _ => n + 1) (((s.nextPeriod.reportOwnLine c (some n)).modifyReception
      (fun r => { r with buffers := joinBuffers r.buffers (s.bufferedLine c n) })).faded s.fades)) := by
  have offered := State.offerOwnLine_buffered (x := s.nextPeriod.reportOwnLine c (some n)) (s.bufferedLine c n)
    ⟨hno.lines, hno.bodies⟩ hreq hbuf
  have handed := (State.handOn_offered (x := s.nextPeriod) s.finishedLine hb hr hopen hd hn hle).trans offered
  refine State.exec_imageLineEnd hrun hst hdue handed rfl (State.nothing_at_once (x := State.faded _ s.fades) ha ?_) ?_
  · rcases hbuf with h | h | h
    · exact .inl fun hw => by simp [State.candidateWaits, h] at hw
    · exact .inr h
    · exact .inl fun hw => by simp [State.candidateWaits, h] at hw
  · have line := State.nextChartLine_of_opened (x := State.faded (((s.nextPeriod.reportOwnLine c (some n)).modifyReception
      (fun r => { r with buffers := joinBuffers r.buffers (s.bufferedLine c n) }))) s.fades) (own := s.reception.ownIndex) hb
      (State.reportOwnLine_record (x := s.nextPeriod) hr (some n)) ((ChartRecord.restartQuiet_offset _ _).trans hd)
    rw [line]
    omega

theorem State.exec_imageLineEnd_taken (hbuf : s.reception.buffers = []) (hq : s.lineTable.queue.length < 4)
    (hstore : s.lineTable.store = none) :
    exec .imageLineEnd s = .next (s.lineEnded State.nextChartLine (State.takeArrival
      (((s.nextPeriod.reportOwnLine c (some n)).takeCandidate (s.lineCandidate c n)).faded s.fades) s.candidateWaits)) := by
  have handed := State.handOn_taken hb hr hopen hd hn hle hno hreq hbuf hq hstore
  refine State.exec_imageLineEnd hrun hst hdue handed ?_ ?_ rfl
  · exact State.unit_of_reception (State.takeCandidate_reception _ _)
  · have kept := State.takeCandidate_alignment (s.nextPeriod.reportOwnLine c (some n)) (s.lineCandidate c n)
    have idle : (((s.nextPeriod.reportOwnLine c (some n)).takeCandidate (s.lineCandidate c n)).faded s.fades).alignment.state ≠
        .splitWait := fun h => ha ((congrArg Alignment.state kept).symm.trans h)
    rw [State.splitAtOnce_of_not_splitWait idle]

theorem State.exec_imageLineEnd_queued (hbuf : s.reception.buffers = []) (hstore : s.lineTable.store = none)
    (hq : s.lineTable.queue = []) (hstart : s.lineTable.started = false) (hbatch : s.fetch.batch = none) (hhold : r.hold = .none)
    (hrep : (s.entry c n).committed = 0 ∧ (s.entry c n).pending = none ∨
      (s.entry c n).pending.getD (s.entry c n).committed < s.finishedLine.grade ∧
        (s.entry c n).pending.getD (s.entry c n).committed + s.config.settings.margin ≤ s.finishedLine.grade) :
    exec .imageLineEnd s = .next (s.lineEnded (fun _ => n + 1) ((s.lineQueued c n).faded s.fades)) := by
  have handed := (State.handOn_taken hb hr hopen hd hn hle hno hreq hbuf (by rw [hq]; decide) hstore).trans
    (State.takeCandidate_line hr hhold hq hreq hstart hbatch hrep)
  refine State.exec_imageLineEnd hrun hst hdue handed rfl
    (State.nothing_at_once (x := (s.lineQueued c n).faded s.fades) ha (.inl fun hw => ?_)) ?_
  · have holds : ∀ b, ((s.lineQueued c n).faded s.fades).hold b = s.hold b :=
      State.hold_modify s.slots c (fun sl =>
        ({ sl with record := sl.record.handed (some n) (s.now + 32 * s.linePeriod) } : Slot).setEntry n
          { sl.entry n with pending := some s.finishedLine.grade })
        (fun _ => ChartRecord.restartQuiet_hold _ _) rfl rfl
    rw [← hw]
    exact State.candidateWaits_congr rfl rfl rfl rfl rfl rfl (State.nextMerge_congr rfl holds)
  · obtain ⟨sl, hsl, rfl⟩ := State.slot_of_record hr
    have record : ((s.lineQueued c n).faded s.fades).record? c = some (sl.record.handed (some n) (s.now + 32 * s.linePeriod)) := by
      have found := Sparse.find_modify_same s.slots c (fun sl =>
        ({ sl with record := sl.record.handed (some n) (s.now + 32 * s.linePeriod) } : Slot).setEntry n
          { sl.entry n with pending := some s.finishedLine.grade })
      rw [hsl] at found
      exact congrArg (Option.map Slot.record) found
    have line := State.nextChartLine_of_opened (x := (s.lineQueued c n).faded s.fades) (own := s.reception.ownIndex) hb record
      ((ChartRecord.restartQuiet_offset _ _).trans hd)
    rw [line]
    omega

end Offered

end OpenChart

end Sys2Proof.Machine
end

section
/-!
PROOF. The end of an image line of a chart still ALIGNING, and the statement (ImageLineIsHandedOn).
-/
namespace Sys2Proof.Machine

variable {s x y : State} {c : Nat} {r : ChartRecord}

/-! ## Pool entries -/

theorem State.freePoolEntry_eq {n : Nat} (ho : Sparse.Rising x.pool) (hn : n < 512) (hfree : Sparse.find x.pool n = none)
    (hlow : ∀ m < n, Sparse.find x.pool m ≠ none) : x.freePoolEntry = some n := by
  have lowest := Sparse.lowestFree_eq x.pool 0 n ho hfree (Nat.zero_le n)
    (fun b _ hb => Option.isSome_iff_ne_none.2 (hlow b hb))
  unfold State.freePoolEntry
  simp only [lowest]
  exact if_pos hn

theorem State.freePoolEntry_none (ho : Sparse.Rising x.pool) (hfull : ∀ n < 512, Sparse.find x.pool n ≠ none) :
    x.freePoolEntry = none := by
  have lowest := (Sparse.find_lowestFree 0 ho).2
  exact if_neg fun hlt => hfull _ hlt lowest

/-- A new value that a filter drops changes nothing that it keeps. -/
theorem Sparse.filter_put_of_not {α : Type} {m : List (Nat × α)} {n : Nat} {v : α} {P : Nat × α → Bool} (hv : P (n, v) = false)
    (hfree : Sparse.find m n = none) : (Sparse.put m n v).filter P = m.filter P := by
  induction m with
  | nil => simp [Sparse.put, hv]
  | cons p t ih =>
    obtain ⟨k, w⟩ := p
    rw [Sparse.find_cons] at hfree
    by_cases hk : k = n
    · simp [hk] at hfree
    · rw [if_neg hk] at hfree
      simp only [Sparse.put]
      split
      · rw [List.filter_cons_of_neg (by simp [hv])]
      · rw [if_neg (Ne.symm hk)]
        simp only [List.filter_cons, ih hfree]

/-! ## Holding a line (R99, R100) -/

/-- The line on the provisional list. -/
def heldLine (own g : Nat) (fp : Fingerprint) (n : Nat) : HeldLine := { ownIndex := own, grade := g, fingerprint := fp, entry := n }

/-- The state with the line held, its store not yet handed over. -/
def State.listed (x : State) (c own g : Nat) (fp : Fingerprint) (n : Nat) : State :=
  { x with
    pool := Sparse.put x.pool n (PoolEntry.newProvisional c own)
    alignment := { x.alignment with provisional := x.alignment.provisional ++ [heldLine own g fp n] } }

theorem State.storeRoom_iff (x : State) : (x.writePlaceFree && x.lineTable.store.isNone) = true ↔
    x.lineTable.queue.length < 4 ∧ x.lineTable.store = none := by
  simp [State.writePlaceFree, Config.writeQueuePlaces]

theorem State.handStore_queued (st : ProvisionalStore) (h : x.lineTable.queue.length < 4 ∧ x.lineTable.store = none) :
    x.handStore st = x.queueStore st := if_pos (x.storeRoom_iff.2 h)

theorem State.handStore_waiting (st : ProvisionalStore) (h : ¬(x.lineTable.queue.length < 4 ∧ x.lineTable.store = none)) :
    x.handStore st =
      let dropped := match x.lineTable.store with
        | some old => x.dropStore old
        | none => x
      { dropped with lineTable := { dropped.lineTable with store := some st } } := if_neg (fun hr => h (x.storeRoom_iff.1 hr))

/-- A held line whose store is queued at once as a POOL write. -/
def State.storeQueued (x : State) (c own g : Nat) (fp : Fingerprint) (p : Pixels) (n : Nat) : State :=
  State.startNext { x with
    pool := Sparse.put x.pool n { PoolEntry.newProvisional c own with pending := some g }
    alignment := { x.alignment with provisional := x.alignment.provisional ++ [heldLine own g fp n] }
    lineTable := { x.lineTable with
      nextOrder := x.lineTable.nextOrder + 1
      queue := x.lineTable.queue ++
        [{ order := x.lineTable.nextOrder, kind := .pool, slot := c, target := n, grade := g, source := x.self
           origin := none, content := some p, frees := none }] } }

/-- A held line whose store takes the waiting place; a store that waited there is dropped (R30). -/
def State.storeWaiting (x : State) (c own g : Nat) (fp : Fingerprint) (p : Pixels) (n : Nat) : State :=
  let store : Option ProvisionalStore := some { slot := c, entry := n, grade := g, pixels := p }
  match x.lineTable.store with
  | none => { x with
      pool := Sparse.put x.pool n (PoolEntry.newProvisional c own)
      alignment := { x.alignment with provisional := x.alignment.provisional ++ [heldLine own g fp n] }
      lineTable := { x.lineTable with store := store } }
  | some old => { x with
      pool := Sparse.erase (Sparse.put x.pool n (PoolEntry.newProvisional c own)) old.entry
      alignment := { x.alignment with
        provisional := (x.alignment.provisional ++ [heldLine own g fp n]).filter (fun h => h.entry != old.entry) }
      lineTable := { x.lineTable with
        store := store
        queue := x.lineTable.queue.map (fun w => if w.intoPool old.entry then { w with stale := true } else w) } }

theorem State.holdLine_refused {own g : Nat} {fp : Fingerprint} {p : Pixels}
    (h : 64 ≤ x.provisionalCount ∨ x.freePoolEntry = none) : x.holdLine c own g fp p = x := by
  unfold State.holdLine
  split
  · rename_i n hn
    refine if_neg ?_
    have many : 64 ≤ x.provisionalCount := h.resolve_right (by rw [hn]; exact Option.some_ne_none n)
    exact Nat.not_lt.2 many
  · rfl

theorem State.holdLine_granted {own g n : Nat} {fp : Fingerprint} {p : Pixels} (ho : Sparse.Rising x.pool)
    (hn : x.freePoolEntry = some n) (hcount : x.provisionalCount < 64) : x.holdLine c own g fp p =
    if x.lineTable.queue.length < 4 ∧ x.lineTable.store = none then x.storeQueued c own g fp p n
    else x.storeWaiting c own g fp p n := by
  have granted : x.holdLine c own g fp p = (x.listed c own g fp n).handStore
      { slot := c, entry := n, grade := g, pixels := p } := by
    unfold State.holdLine
    rw [hn]
    exact if_pos hcount
  rw [granted]
  split
  · rename_i h
    rw [State.handStore_queued (x := State.listed x c own g fp n) _ h]
    have pool := Sparse.modify_put x.pool n (PoolEntry.newProvisional c own) (fun e => { e with pending := some g }) ho
    unfold State.storeQueued
    rw [← pool]
    rfl
  · rename_i h
    rw [State.handStore_waiting (x := State.listed x c own g fp n) _ h]
    unfold State.storeWaiting State.listed
    dsimp only
    cases x.lineTable.store with
    | none => rfl
    | some old => simp only [State.dropStore, State.freePool_eq]

/-! ## The evaluation (R103) -/

theorem State.evaluate_of_not_collecting (h : x.alignment.state ≠ .collecting) : x.evaluate = x := by
  unfold State.evaluate
  split
  · rename_i hs _
    exact absurd hs h
  · rfl

/-- A trial offset is at most 2 from the expected one (R103). -/
theorem mem_trialOffsets {e : Nat} {d : Int} (h : (d - e).natAbs ≤ 2) : d ∈ trialOffsets e := by
  simp only [trialOffsets, List.mem_cons, List.not_mem_nil, or_false]
  omega

/-- Nothing is decided while an offset lacks distances and few lines were handed. -/
theorem State.evaluate_undecided (hh : x.alignment.handed < 64) {d : Int} (hd : (d - x.alignment.expected).natAbs ≤ 2)
    (hfew : (trialDistances x.alignThreshold x.alignment.provisional x.alignment.references d).length < 6) : x.evaluate = x := by
  have lacking : x.trials.all Trial.eligible = false := by
    refine List.all_eq_false.2 ⟨_, List.mem_map.2 ⟨d, mem_trialOffsets hd, rfl⟩, ?_⟩
    exact fun h => Nat.not_le.2 hfew (of_decide_eq_true h)
  unfold State.evaluate
  split
  · refine if_neg ?_
    simp only [lacking, Bool.false_or, decide_eq_true_eq]
    omega
  · rfl

/-! ## What holding a line leaves -/

/-- The state with a line held. -/
def State.lineHeld (x : State) (c own g : Nat) (fp : Fingerprint) (p : Pixels) (n : Nat) : State :=
  if x.lineTable.queue.length < 4 ∧ x.lineTable.store = none then x.storeQueued c own g fp p n else x.storeWaiting c own g fp p n

theorem State.startNext_waiting (x : State) : x.startNext.lineTable.store = x.lineTable.store ∧
    x.startNext.lineTable.lastServed = x.lineTable.lastServed := by
  unfold State.startNext
  split
  · exact ⟨rfl, rfl⟩
  · split <;> exact ⟨rfl, rfl⟩

section LineHeld

variable (own g : Nat) (fp : Fingerprint) (p : Pixels) (n : Nat)

theorem State.lineHeld_kept (x : State) : (x.lineHeld c own g fp p n).reception = x.reception ∧
    (x.lineHeld c own g fp p n).slots = x.slots ∧ (x.lineHeld c own g fp p n).alignment.state = x.alignment.state ∧
    (x.lineHeld c own g fp p n).alignment.handed = x.alignment.handed ∧
    (x.lineHeld c own g fp p n).alignment.expected = x.alignment.expected ∧
    (x.lineHeld c own g fp p n).alignment.references = x.alignment.references ∧
    (x.lineHeld c own g fp p n).config = x.config := by
  unfold State.lineHeld
  split
  · simp [State.storeQueued]
  · unfold State.storeWaiting
    cases x.lineTable.store <;> exact ⟨rfl, rfl, rfl, rfl, rfl, rfl, rfl⟩

/-- A line held makes nothing wait that could be taken, where nothing waited before. -/
theorem State.lineHeld_waits (hfree : Sparse.find x.pool n = none) (hnone : x.candidateWaits = false) :
    (x.lineHeld c own g fp p n).candidateWaits = false ∨ 4 ≤ (x.lineHeld c own g fp p n).lineTable.queue.length := by
  have store : x.lineTable.store = none := by
    simp only [State.candidateWaits, Bool.or_eq_false_iff] at hnone
    obtain ⟨⟨⟨⟨hstore, -⟩, -⟩, -⟩, -⟩ := hnone
    exact Option.not_isSome_iff_eq_none.1 (by simp [hstore])
  by_cases hq : x.lineTable.queue.length < 4
  · left
    have queued : x.lineHeld c own g fp p n = x.storeQueued c own g fp p n := if_pos ⟨hq, store⟩
    rw [queued, ← hnone]
    unfold State.storeQueued
    obtain ⟨hstore, hlast⟩ := State.startNext_waiting { x with
      pool := Sparse.put x.pool n { PoolEntry.newProvisional c own with pending := some g }
      alignment := { x.alignment with provisional := x.alignment.provisional ++ [heldLine own g fp n] }
      lineTable := { x.lineTable with
        nextOrder := x.lineTable.nextOrder + 1
        queue := x.lineTable.queue ++
          [{ order := x.lineTable.nextOrder, kind := .pool, slot := c, target := n, grade := g, source := x.self
             origin := none, content := some p, frees := none }] } }
    refine State.candidateWaits_congr (congrArg Option.isSome hstore) (by rw [State.startNext_reception]) hlast
      (by rw [State.startNext_fetch]) (by rw [State.startNext_alignment]) (by rw [State.startNext_alignment])
      (State.nextMerge_congr ?_ fun b => ?_)
    · rw [State.startNext_pool]
      exact Sparse.filter_put_of_not rfl hfree
    · unfold State.hold State.record? State.slot?
      rw [State.startNext_slots]
  · right
    have waits : x.lineHeld c own g fp p n = x.storeWaiting c own g fp p n := if_neg fun h => hq h.1
    rw [waits]
    unfold State.storeWaiting
    rw [store]
    exact Nat.not_lt.1 hq

end LineHeld

/-! ## The rows of a chart still ALIGNING -/

/-- The state with a line reported and counted. -/
def State.lineCounted (s : State) (c : Nat) : State :=
  { s.nextPeriod.reportOwnLine c none with alignment := { s.alignment with handed := s.alignment.handed + 1 } }

section Aligning

variable (hrun : s.config.state = .run) (hst : s.reception.state = .image) (hdue : s.reception.endDue = true)
  (hb : s.reception.binding = some c) (hr : s.record? c = some r) (hal : r.state = .aligning)
include hrun hst hdue hb hr hal

/-- The line handed on, what the evaluation makes of it, and what is due at once. -/
theorem State.exec_imageLineEnd_decided (hy : (s.nextPeriod.reportOwnLine c none).alignLine c s.reception.ownIndex
      s.finishedLine.grade s.finishedLine.fingerprint s.finishedLine.pixels = y.evaluate)
    (hu : y.reception = s.nextPeriod.reception) :
    exec .imageLineEnd s = .next (s.lineEnded State.nextChartLine
      ((y.evaluate.faded s.fades).splitAtOnce.takeArrival s.candidateWaits)) := by
  have handed := (State.handOn_aligning (x := s.nextPeriod) s.finishedLine hb hr hal).trans hy
  exact State.exec_imageLineEnd hrun hst hdue handed (State.unit_of_reception (y.evaluate_reception.trans hu)) rfl rfl

theorem State.exec_imageLineEnd_undecided (hy : (s.nextPeriod.reportOwnLine c none).alignLine c s.reception.ownIndex
      s.finishedLine.grade s.finishedLine.fingerprint s.finishedLine.pixels = y)
    (hu : y.reception = s.nextPeriod.reception) (hs : y.slots = (s.nextPeriod.reportOwnLine c none).slots)
    (hcol : y.alignment.state = .collecting) (hd : r.offset = none)
    (hw : (s.candidateWaits = false → y.candidateWaits = false) ∨ 4 ≤ y.lineTable.queue.length) :
    exec .imageLineEnd s = .next (s.lineEnded (fun _ => s.reception.ownIndex + 1 + (r.expected.getD 0 : Nat)) (y.faded s.fades)) := by
  have handed := (State.handOn_aligning (x := s.nextPeriod) s.finishedLine hb hr hal).trans hy
  refine State.exec_imageLineEnd hrun hst hdue handed (State.unit_of_reception hu)
    (State.nothing_at_once (x := y.faded s.fades) (by rw [State.faded, State.modifyReception_alignment, hcol]; decide) hw) ?_
  have record : (y.faded s.fades).record? c = some (r.handed none (s.now + 32 * s.linePeriod)) := by
    have reported := State.reportOwnLine_record (x := s.nextPeriod) hr none
    unfold State.record? State.slot? at reported ⊢
    rw [← hs] at reported
    exact reported
  have binding : (y.faded s.fades).reception.binding = some c := (congrArg Reception.binding hu).trans hb
  rw [State.nextChartLine_of_aligning binding record ((ChartRecord.restartQuiet_offset _ _).trans hd)]
  rw [show (r.handed none (s.now + 32 * s.linePeriod)).expected = r.expected from ChartRecord.restartQuiet_expected _ _]

end Aligning

/-! ## The line sent to alignment (R99) -/

theorem State.alignLine_uncounted (own g : Nat) (fp : Fingerprint) (p : Pixels) (ha : x.alignment.state = .splitWait)
    (hh : 64 ≤ x.alignment.handed) : x.alignLine c own g fp p = x := by
  unfold State.alignLine
  exact if_neg (by simp [ha, Nat.not_lt.2 hh])

theorem State.alignLine_counted (own g : Nat) (fp : Fingerprint) (p : Pixels)
    (ha : x.alignment.state = .collecting ∨ x.alignment.state = .splitWait ∧ x.alignment.handed < 64) :
    x.alignLine c own g fp p =
      (State.holdLine { x with alignment := { x.alignment with handed := x.alignment.handed + 1 } } c own g fp p).evaluate := by
  unfold State.alignLine
  exact if_pos (by simpa using ha)

theorem State.lineCounted_waits (s : State) (c : Nat) : (s.lineCounted c).candidateWaits = s.candidateWaits :=
  State.candidateWaits_congr rfl rfl rfl rfl rfl rfl
    (State.nextMerge_congr rfl fun b => State.reportOwnLine_hold s.nextPeriod c none b)

/-- A line that a PROVISIONAL entry is granted for is held, then the offsets are evaluated. -/
theorem State.alignLine_held {own g n : Nat} {fp : Fingerprint} {p : Pixels} (ho : Sparse.Rising s.pool)
    (ha : s.alignment.state = .collecting ∨ s.alignment.state = .splitWait ∧ s.alignment.handed < 64)
    (hcount : (s.pool.filter (fun p => p.2.kind = .provisional)).length < 64) (hn : n < 512) (hfree : Sparse.find s.pool n = none)
    (hlow : ∀ m < n, Sparse.find s.pool m ≠ none) :
    (s.nextPeriod.reportOwnLine c none).alignLine c own g fp p = ((s.lineCounted c).lineHeld c own g fp p n).evaluate := by
  have counted := State.alignLine_counted (x := s.nextPeriod.reportOwnLine c none) (c := c) own g fp p ha
  have granted := State.holdLine_granted (x := s.lineCounted c) (c := c) (own := own) (g := g) (fp := fp) (p := p) ho
    (State.freePoolEntry_eq (x := s.lineCounted c) ho hn hfree hlow) hcount
  exact counted.trans (congrArg State.evaluate granted)

/-- A line that no entry is granted for is counted only. -/
theorem State.alignLine_refused {own g : Nat} {fp : Fingerprint} {p : Pixels} (ho : Sparse.Rising s.pool)
    (ha : s.alignment.state = .collecting ∨ s.alignment.state = .splitWait ∧ s.alignment.handed < 64)
    (hno : 64 ≤ (s.pool.filter (fun p => p.2.kind = .provisional)).length ∨ ∀ n < 512, Sparse.find s.pool n ≠ none) :
    (s.nextPeriod.reportOwnLine c none).alignLine c own g fp p = (s.lineCounted c).evaluate := by
  have counted := State.alignLine_counted (x := s.nextPeriod.reportOwnLine c none) (c := c) own g fp p ha
  have refused := State.holdLine_refused (x := s.lineCounted c) (c := c) (own := own) (g := g) (fp := fp) (p := p)
    (hno.imp id (State.freePoolEntry_none (x := s.lineCounted c) ho))
  exact counted.trans (congrArg State.evaluate refused)

section AligningRows

variable (hrun : s.config.state = .run) (hst : s.reception.state = .image) (hdue : s.reception.endDue = true)
  (hb : s.reception.binding = some c) (hr : s.record? c = some r) (hal : r.state = .aligning)
include hrun hst hdue hb hr hal

theorem State.exec_imageLineEnd_uncounted (ha : s.alignment.state = .splitWait) (hh : 64 ≤ s.alignment.handed) :
    exec .imageLineEnd s = .next (s.lineEnded State.nextChartLine
      (((s.nextPeriod.reportOwnLine c none).evaluate.faded s.fades).splitAtOnce.takeArrival s.candidateWaits)) := by
  have splitting : (s.nextPeriod.reportOwnLine c none).alignment.state ≠ .collecting := fun h => by
    have state : s.alignment.state = .collecting := h
    rw [ha] at state
    cases state
  have uncounted := State.alignLine_uncounted (x := s.nextPeriod.reportOwnLine c none) (c := c) s.reception.ownIndex
    s.finishedLine.grade s.finishedLine.fingerprint s.finishedLine.pixels ha hh
  exact State.exec_imageLineEnd_decided hrun hst hdue hb hr hal
    (uncounted.trans (State.evaluate_of_not_collecting splitting).symm) rfl

section Counted

variable (ho : Sparse.Rising s.pool)
  (ha : s.alignment.state = .collecting ∨ s.alignment.state = .splitWait ∧ s.alignment.handed < 64)
include ho ha

/-- The finished line as it is held under pool entry `n`. -/
def State.finishedHeld (s : State) (c n : Nat) : State :=
  (s.lineCounted c).lineHeld c s.reception.ownIndex s.finishedLine.grade s.finishedLine.fingerprint s.finishedLine.pixels n

section Granted

variable {n : Nat} (hcount : (s.pool.filter (fun p => p.2.kind = .provisional)).length < 64) (hn : n < 512)
  (hfree : Sparse.find s.pool n = none) (hlow : ∀ m < n, Sparse.find s.pool m ≠ none)
include hcount hn hfree hlow

theorem State.exec_imageLineEnd_held : exec .imageLineEnd s = .next (s.lineEnded State.nextChartLine
    (((s.finishedHeld c n).evaluate.faded s.fades).splitAtOnce.takeArrival s.candidateWaits)) := by
  obtain ⟨unit, -⟩ := State.lineHeld_kept (c := c) s.reception.ownIndex s.finishedLine.grade s.finishedLine.fingerprint
    s.finishedLine.pixels n (s.lineCounted c)
  exact State.exec_imageLineEnd_decided hrun hst hdue hb hr hal (State.alignLine_held ho ha hcount hn hfree hlow) unit

theorem State.exec_imageLineEnd_held_undecided (hd : r.offset = none) (hcol : s.alignment.state = .collecting)
    (hh : s.alignment.handed < 63) {d : Int} (hd' : (d - s.alignment.expected).natAbs ≤ 2)
    (hfew : (trialDistances s.alignThreshold (s.finishedHeld c n).alignment.provisional s.alignment.references d).length < 6) :
    exec .imageLineEnd s = .next (s.lineEnded (fun _ => s.reception.ownIndex + 1 + (r.expected.getD 0 : Nat))
      ((s.finishedHeld c n).faded s.fades)) := by
  obtain ⟨unit, slots, state, handed, expected, references, config⟩ := State.lineHeld_kept (c := c) s.reception.ownIndex
    s.finishedLine.grade s.finishedLine.fingerprint s.finishedLine.pixels n (s.lineCounted c)
  have undecided : (s.finishedHeld c n).evaluate = s.finishedHeld c n := by
    refine State.evaluate_undecided (d := d) ?_ ?_ ?_
    · unfold State.finishedHeld
      rw [handed]
      exact Nat.succ_lt_succ hh
    · unfold State.finishedHeld
      rw [expected]
      exact hd'
    · unfold State.finishedHeld at hfew ⊢
      rw [references, State.alignThreshold, config]
      exact hfew
  have waits : (s.candidateWaits = false → (s.finishedHeld c n).candidateWaits = false) ∨
      4 ≤ (s.finishedHeld c n).lineTable.queue.length := by
    cases hw : s.candidateWaits with
    | true => exact .inl fun h => by cases h
    | false =>
      have nothing : (s.lineCounted c).candidateWaits = false := by rw [State.lineCounted_waits, hw]
      exact (State.lineHeld_waits (x := s.lineCounted c) s.reception.ownIndex s.finishedLine.grade s.finishedLine.fingerprint
        s.finishedLine.pixels n hfree nothing).imp (fun h _ => h) id
  exact State.exec_imageLineEnd_undecided hrun hst hdue hb hr hal
    ((State.alignLine_held ho ha hcount hn hfree hlow).trans undecided) unit slots (state.trans hcol) hd waits

end Granted

section Refused

variable (hno : 64 ≤ (s.pool.filter (fun p => p.2.kind = .provisional)).length ∨ ∀ n < 512, Sparse.find s.pool n ≠ none)
include hno

theorem State.exec_imageLineEnd_refused : exec .imageLineEnd s = .next (s.lineEnded State.nextChartLine
    (((s.lineCounted c).evaluate.faded s.fades).splitAtOnce.takeArrival s.candidateWaits)) :=
  State.exec_imageLineEnd_decided hrun hst hdue hb hr hal (State.alignLine_refused ho ha hno) rfl

theorem State.exec_imageLineEnd_refused_undecided (hd : r.offset = none) (hcol : s.alignment.state = .collecting)
    (hh : s.alignment.handed < 63) {d : Int} (hd' : (d - s.alignment.expected).natAbs ≤ 2)
    (hfew : (trialDistances s.alignThreshold s.alignment.provisional s.alignment.references d).length < 6) :
    exec .imageLineEnd s = .next (s.lineEnded (fun _ => s.reception.ownIndex + 1 + (r.expected.getD 0 : Nat))
      ((s.lineCounted c).faded s.fades)) := by
  have undecided := State.evaluate_undecided (x := s.lineCounted c) (Nat.succ_lt_succ hh) (d := d) hd' hfew
  exact State.exec_imageLineEnd_undecided hrun hst hdue hb hr hal ((State.alignLine_refused ho ha hno).trans undecided) rfl rfl
    hcol hd (.inl fun hw => (s.lineCounted_waits c).trans hw)

end Refused

end Counted

end AligningRows

/-! ## The statement -/

/-- Settles O27, each form of the line handed on by its own law. -/
theorem imageLineIsHandedOn : Obligations.ImageLineIsHandedOn := by
  intro s hrun hst hdue l own fade emptied line bumped ended
  refine ⟨fun hb ha => State.exec_imageLineEnd_unbound hrun hst hdue hb ha, fun c r d ha hb hr hopen hd =>
    ⟨fun hout => State.exec_imageLineEnd_outside hrun hst hdue hb hr ha hopen hd hout, fun n hn hle hno hreq => ⟨fun hbuf => ?_,
      fun hbuf hq hstore => ?_⟩⟩, fun c r d n => ?_, fun c r hb hr hal hd => ?_⟩
  · have outcome := State.exec_imageLineEnd_buffered hrun hst hdue hb hr ha hopen hd hn hle hno hreq hbuf
    simp only [joinBuffers_eq] at outcome
    exact outcome
  · exact State.exec_imageLineEnd_taken hrun hst hdue hb hr ha hopen hd hn hle hno hreq hbuf hq hstore
  · intro reported batch e ha hb hr hopen hd hn hle hhold hbuf hstore hq hreq hstart hno hbatch hrep
    exact State.exec_imageLineEnd_queued hrun hst hdue hb hr ha hopen hd hn hle hno hreq hbuf hstore hq hstart hbatch hhold hrep
  · intro reported counted provisional refused entry listed held waiting faded decided undecided
    refine ⟨fun ha hh => ?_, fun ho ha => ⟨fun n hcount hn hfree hlow => ?_, fun hno => ⟨?_, fun hcol hun => ?_⟩⟩⟩
    · exact State.exec_imageLineEnd_uncounted hrun hst hdue hb hr hal ha hh
    · intro kept
      refine ⟨?_, fun hcol hun => ?_⟩
      · exact State.exec_imageLineEnd_held hrun hst hdue hb hr hal ho ha hcount hn hfree hlow
      · obtain ⟨hh, d, hd', hfew⟩ := hun
        exact State.exec_imageLineEnd_held_undecided hrun hst hdue hb hr hal ho ha hcount hn hfree hlow hd hcol hh hd' hfew
    · exact State.exec_imageLineEnd_refused hrun hst hdue hb hr hal ho ha hno
    · obtain ⟨hh, d, hd', hfew⟩ := hun
      exact State.exec_imageLineEnd_refused_undecided hrun hst hdue hb hr hal ho ha hno hd hcol hh hd' hfew

end Sys2Proof.Machine
end

section
/-!
PROOF. The tables of a state: the slots, the write queue, the pool, the roster entries and the reassembly contexts; and what keeps
them ordered and the composite of a FROZEN chart untouched.
-/
namespace Sys2Proof.Machine

/-! ## The tables -/

/-- All that FrozenUntouched and TablesOrdered speak of. -/
structure Tables where
  slots : List (Nat × Slot)
  queue : List Write
  pool : List (Nat × PoolEntry)
  peers : List (Nat × RosterEntry)
  contexts : List (Nat × Context)

def State.tables (s : State) : Tables where
  slots := s.slots
  queue := s.lineTable.queue
  pool := s.pool
  peers := s.roster.peers
  contexts := s.fetch.contexts

/-- A slot's chart is FROZEN. -/
def Tables.Frozen (a : Tables) (c : Nat) : Prop := ∃ sl, Sparse.find a.slots c = some sl ∧ sl.record.hold = .frozen

/-- No write into the composite of a FROZEN chart is queued (R143, R144). -/
def Tables.Untouched (a : Tables) : Prop := ∀ c, a.Frozen c → ∀ w ∈ a.queue, w.intoComposite c = false

/-- Every table stands by rising keys (log entry 42). -/
structure Tables.Ordered (a : Tables) : Prop where
  slots : Sparse.Rising a.slots
  entries : ∀ p ∈ a.slots, Sparse.Rising p.2.entries
  rows : ∀ p ∈ a.slots, Sparse.Rising p.2.rows
  pool : Sparse.Rising a.pool
  peers : Sparse.Rising a.peers
  contexts : Sparse.Rising a.contexts

theorem State.hold_eq_frozen_iff (s : State) (c : Nat) : s.hold c = .frozen ↔ s.tables.Frozen c := by
  unfold State.hold State.record? State.slot? Tables.Frozen State.tables
  cases Sparse.find s.slots c <;> simp

theorem State.frozenUntouched_iff (s : State) : s.FrozenUntouched ↔ s.tables.Untouched := by
  simp only [State.FrozenUntouched, State.hold_eq_frozen_iff]
  rfl

theorem State.tablesOrdered_iff (s : State) : s.TablesOrdered ↔ s.tables.Ordered :=
  ⟨fun ⟨h1, h2, h3, h4, h5, h6⟩ => ⟨h1, h2, h3, h4, h5, h6⟩, fun ⟨h1, h2, h3, h4, h5, h6⟩ => ⟨h1, h2, h3, h4, h5, h6⟩⟩

/-- From `a` to `b` the tables stay ordered and what is FROZEN stays untouched. -/
structure Tables.Keep (a b : Tables) : Prop where
  untouched : a.Untouched → b.Untouched
  ordered : a.Ordered → b.Ordered

/-- From `s` to `t` the tables stay ordered and what is FROZEN stays untouched. -/
abbrev State.KeepsTables (s t : State) : Prop := s.tables.Keep t.tables

variable {s t u : State}

theorem Tables.Keep.trans {a b c : Tables} (h : a.Keep b) (k : b.Keep c) : a.Keep c :=
  ⟨k.untouched ∘ h.untouched, k.ordered ∘ h.ordered⟩

theorem State.KeepsTables.of_tables (h : t.tables = s.tables) : s.KeepsTables t := by
  unfold State.KeepsTables
  rw [h]
  exact ⟨id, id⟩

theorem State.KeepsTables.refl (s : State) : s.KeepsTables s := .of_tables rfl

/-- What follows and leaves the tables as they are keeps what was kept. -/
theorem Tables.Keep.same (h : s.KeepsTables t) (k : u.tables = t.tables) : s.KeepsTables u :=
  Tables.Keep.trans h (State.KeepsTables.of_tables k)

theorem Tables.Keep.iteElse {c : Prop} [Decidable c] (h : s.KeepsTables t) (k : s.KeepsTables u) :
    s.KeepsTables (if c then t else u) := by
  split
  · exact h
  · exact k

theorem Tables.Keep.ite {c : Prop} [Decidable c] (h : s.KeepsTables t) : s.KeepsTables (if c then t else s) :=
  h.iteElse (State.KeepsTables.refl s)

/-! ## A change of one table -/

/-- Slots that freeze no chart and keep their order. -/
theorem State.keepsTables_slots {l : List (Nat × Slot)}
    (hf : ∀ c sl, Sparse.find l c = some sl → sl.record.hold = .frozen → s.tables.Frozen c)
    (ho : s.tables.Ordered → Sparse.Rising l ∧ ∀ p ∈ l, Sparse.Rising p.2.entries ∧ Sparse.Rising p.2.rows) :
    s.KeepsTables { s with slots := l } where
  untouched h := fun c ⟨sl, hl, hsl⟩ => h c (hf c sl hl hsl)
  ordered h :=
    { h with
      slots := (ho h).1
      entries := fun p hp => ((ho h).2 p hp).1
      rows := fun p hp => ((ho h).2 p hp).2 }

/-- A write queue with no write into a FROZEN composite but what stood in it. -/
theorem State.keepsTables_queue {l : LineTable} (h : ∀ w ∈ l.queue, ∀ c, s.tables.Frozen c → w.intoComposite c = true →
    ∃ x ∈ s.lineTable.queue, x.intoComposite c = true) : s.KeepsTables { s with lineTable := l } where
  untouched hs := by
    intro c hc w hw
    by_contra hn
    obtain ⟨x, hx, hxc⟩ := h w hw c hc (by simpa using hn)
    simp [hs c hc x hx] at hxc
  ordered h := { h with }

theorem State.keepsTables_pool {l : List (Nat × PoolEntry)} (h : Sparse.Rising s.pool → Sparse.Rising l) :
    s.KeepsTables { s with pool := l } where
  untouched := id
  ordered k := { k with pool := h k.pool }

theorem State.keepsTables_contexts {f : Fetch} (h : Sparse.Rising s.fetch.contexts → Sparse.Rising f.contexts) :
    s.KeepsTables { s with fetch := f } where
  untouched := id
  ordered k := { k with contexts := h k.contexts }

theorem State.keepsTables_peers {r : Roster} (h : Sparse.Rising s.roster.peers → Sparse.Rising r.peers) :
    s.KeepsTables { s with roster := r } where
  untouched := id
  ordered k := { k with peers := h k.peers }

/-! ## Changes of slots -/

/-- From `a` to `b` a slot's chart is not frozen, and its tables keep their order. -/
structure Slot.Tame (a b : Slot) : Prop where
  hold : b.record.hold = .frozen → a.record.hold = .frozen
  entries : Sparse.Rising a.entries → Sparse.Rising b.entries
  rows : Sparse.Rising a.rows → Sparse.Rising b.rows

theorem Slot.Tame.refl (sl : Slot) : sl.Tame sl := ⟨id, id, id⟩

theorem Slot.Tame.trans {a b c : Slot} (h : a.Tame b) (k : b.Tame c) : a.Tame c :=
  ⟨h.hold ∘ k.hold, k.entries ∘ h.entries, k.rows ∘ h.rows⟩

/-- A change of the record alone that does not freeze the chart. -/
theorem Slot.Tame.record {sl : Slot} {r : ChartRecord} (h : r.hold = .frozen → sl.record.hold = .frozen) :
    sl.Tame { sl with record := r } := ⟨h, id, id⟩

/-- What a key finds after every value was changed. -/
theorem Sparse.find_map {α β : Type} (m : List (Nat × α)) (g : Nat × α → β) (n : Nat) :
    Sparse.find (m.map (fun p => (p.1, g p))) n = (Sparse.find m n).map (fun v => g (n, v)) := by
  induction m with
  | nil => rfl
  | cons p t ih =>
    obtain ⟨k, v⟩ := p
    rw [List.map_cons, Sparse.find_cons, Sparse.find_cons]
    split
    · next h => subst h; rfl
    · exact ih

/-- A change of every slot that is tame keeps the tables. -/
theorem State.keepsTables_map {g : Nat × Slot → Slot} (h : ∀ p : Nat × Slot, p.2.Tame (g p)) :
    s.KeepsTables { s with slots := s.slots.map (fun p => (p.1, g p)) } := by
  refine State.keepsTables_slots (fun c sl hc hsl => ?_) (fun k => ⟨Sparse.rising_map _ (fun _ => rfl) k.slots, ?_⟩)
  · rw [Sparse.find_map] at hc
    obtain ⟨x, hx, rfl⟩ := Option.map_eq_some_iff.1 hc
    exact ⟨x, hx, (h (c, x)).hold hsl⟩
  · intro q hq
    obtain ⟨p, hp, rfl⟩ := List.mem_map.1 hq
    exact ⟨(h p).entries (k.entries p hp), (h p).rows (k.rows p hp)⟩

theorem State.modifySlot_keepsTables {f : Slot → Slot} (h : ∀ sl : Slot, sl.Tame (f sl)) (s : State) (c : Nat) :
    s.KeepsTables (s.modifySlot c f) := by
  have each : Sparse.modify s.slots c f = s.slots.map (fun p => (p.1, if p.1 = c then f p.2 else p.2)) :=
    List.map_congr_left fun p _ => by split <;> rfl
  show s.KeepsTables { s with slots := Sparse.modify s.slots c f }
  rw [each]
  exact State.keepsTables_map (g := fun p => if p.1 = c then f p.2 else p.2) fun p => by
    split
    · exact h p.2
    · exact .refl p.2

/-- A change of a record that does not freeze its chart keeps the tables. -/
theorem State.modifyRecord_keepsTables (s : State) (c : Nat) {f : ChartRecord → ChartRecord}
    (h : ∀ r, (f r).hold = .frozen → r.hold = .frozen := by exact fun _ h => h) : s.KeepsTables (s.modifyRecord c f) :=
  s.modifySlot_keepsTables (f := fun sl => { sl with record := f sl.record }) (fun sl => .record (h sl.record)) c

theorem Slot.setEntry_tame (sl : Slot) (n : Nat) (e : LineEntry) : sl.Tame (sl.setEntry n e) where
  hold := id
  entries h := by
    unfold Slot.setEntry
    split
    · exact Sparse.rising_erase n h
    · exact Sparse.rising_put n e h
  rows := id

theorem Slot.setRow_tame (sl : Slot) (n : Nat) (r : HolderRow) : sl.Tame (sl.setRow n r) where
  hold := id
  entries := id
  rows h := by
    unfold Slot.setRow
    split
    · exact Sparse.rising_erase n h
    · exact Sparse.rising_put n r h

theorem State.modifyEntry_keepsTables (s : State) (c n : Nat) (f : LineEntry → LineEntry) :
    s.KeepsTables (s.modifyEntry c n f) := s.modifySlot_keepsTables (fun sl => sl.setEntry_tame n _) c

theorem State.modifyRow_keepsTables (s : State) (c n : Nat) (f : HolderRow → HolderRow) :
    s.KeepsTables (s.modifyRow c n f) := s.modifySlot_keepsTables (fun sl => sl.setRow_tame n _) c

/-- Entries changed one by one, the empty ones no longer listed, keep their order. -/
theorem Slot.tame_entries (sl : Slot) (g : Nat × LineEntry → LineEntry) (p : Nat × LineEntry → Bool) :
    sl.Tame { sl with entries := (sl.entries.map (fun q => (q.1, g q))).filter p } where
  hold := id
  entries h := Sparse.rising_filter _ (Sparse.rising_map _ (fun _ => rfl) h)
  rows := id

theorem Slot.dropDeferrals_tame (sl : Slot) : sl.Tame sl.dropDeferrals where
  hold := id
  entries := id
  rows h := Sparse.rising_filter _ (Sparse.rising_map (fun p => (p.1, { p.2 with deferral := none })) (fun _ => rfl) h)

theorem Slot.tallyRows_tame (sl : Slot) (st : Station) (n : Nat) (l : List TallyEntry) : sl.Tame (sl.tallyRows st n l) := by
  induction l generalizing sl n with
  | nil => exact .refl sl
  | cons e t ih =>
    refine Slot.Tame.trans ?_ (ih _ (n + 1))
    split
    · exact .refl sl
    · exact sl.setRow_tame n _

/-- The hold changes to one that is not FROZEN. -/
theorem State.setHold_keepsTables (s : State) (c : Nat) {h : Hold} (hh : h ≠ .frozen) : s.KeepsTables (s.setHold c h) :=
  s.modifyRecord_keepsTables c (fun _ k => absurd k hh)

/-- A new record that is not FROZEN takes a slot. -/
theorem State.keepsTables_putSlot (s : State) (c : Nat) {sl : Slot} (hh : sl.record.hold ≠ .frozen) (he : sl.entries = [])
    (hr : sl.rows = []) : s.KeepsTables { s with slots := Sparse.put s.slots c sl } := by
  refine State.keepsTables_slots (fun d x hx hd => ?_) (fun k => ⟨Sparse.rising_put c sl k.slots, fun p hp => ?_⟩)
  · by_cases h : d = c
    · subst h
      rw [Sparse.find_put_same] at hx
      cases hx
      exact absurd hd hh
    · rw [Sparse.find_put_other _ _ _ _ h] at hx
      exact ⟨x, hx, hd⟩
  · rcases Sparse.mem_put hp with rfl | hp
    · simp [he, hr]
    · exact ⟨k.entries p hp, k.rows p hp⟩

theorem State.removeSlot_keepsTables (s : State) (c order : Nat) : s.KeepsTables (s.removeSlot c order) := by
  have erased : s.KeepsTables { s with slots := Sparse.erase s.slots c } :=
    State.keepsTables_slots (fun d x hx hd => by
      by_cases h : d = c
      · subst h; simp at hx
      · rw [Sparse.find_erase_other _ _ _ h] at hx
        exact ⟨x, hx, hd⟩) (fun k => ⟨Sparse.rising_erase c k.slots, fun p hp =>
          ⟨k.entries p (List.mem_filter.1 hp).1, k.rows p (List.mem_filter.1 hp).1⟩⟩)
  exact erased.trans (State.keepsTables_map (s := { s with slots := Sparse.erase s.slots c })
    (g := fun p => { p.2 with record := { p.2.record with
      closeOrder := p.2.record.closeOrder.map (fun o => if order < o then o - 1 else o) } }) fun p => .record id)

/-! ## Changes of the write queue and the pool -/

/-- A queue that keeps some writes, each with its kind and its slot, keeps the tables. -/
theorem State.keepsTables_fewer {l : LineTable} (h : ∀ w ∈ l.queue, ∃ x ∈ s.lineTable.queue, w.kind = x.kind ∧ w.slot = x.slot) :
    s.KeepsTables { s with lineTable := l } :=
  State.keepsTables_queue fun w hw c _ hc => by
    obtain ⟨x, hx, hk, hs⟩ := h w hw
    exact ⟨x, hx, by simpa [Write.intoComposite, hk, hs] using hc⟩

theorem State.keepsTables_sublist {l : LineTable} (h : l.queue.Sublist s.lineTable.queue) :
    s.KeepsTables { s with lineTable := l } :=
  State.keepsTables_fewer fun w hw => ⟨w, h.subset hw, rfl, rfl⟩

theorem State.modifyPool_keepsTables (s : State) (n : Nat) (f : PoolEntry → PoolEntry) : s.KeepsTables (s.modifyPool n f) :=
  State.keepsTables_pool (Sparse.rising_modify n f)

theorem State.startNext_keepsTables (s : State) : s.KeepsTables s.startNext := by
  unfold State.startNext
  split
  · exact .of_tables rfl
  · next w t hq =>
    split
    · exact .refl s
    · refine State.keepsTables_fewer fun x hx => ?_
      rw [hq]
      rcases List.mem_cons.1 hx with rfl | hx
      · exact ⟨w, List.mem_cons_self, rfl, rfl⟩
      · exact ⟨x, List.mem_cons_of_mem _ hx, rfl, rfl⟩

/-- A write joins the queue that goes into no FROZEN composite. -/
theorem State.queueWrite_keepsTables (s : State) {w : Write} (h : w.kind = .pool ∨ ¬s.tables.Frozen w.slot) :
    s.KeepsTables (s.queueWrite w) := by
  refine Tables.Keep.trans (State.keepsTables_queue fun x hx c hc hxc => ?_) (State.startNext_keepsTables _)
  rcases List.mem_append.1 hx with hx | hx
  · exact ⟨x, hx, hxc⟩
  · rw [List.mem_singleton.1 hx] at hxc
    simp only [Write.intoComposite, Bool.and_eq_true, bne_iff_ne, decide_eq_true_eq] at hxc
    obtain ⟨hk, rfl⟩ := hxc
    rcases h with h | h
    · exact absurd h hk
    · exact absurd hc h

theorem State.cancelWrites_keepsTables (s : State) (p : Write → Bool) : s.KeepsTables (s.cancelWrites p) := by
  obtain ⟨m, i, h, -⟩ := s.cancelWrites_eq p
  rw [h]
  exact Tables.Keep.same (State.keepsTables_sublist (s := s) (l := { s.lineTable with
    queue := s.lineTable.queue.filter (fun w => !p w)
    started := s.lineTable.started && s.lineTable.queue.head?.any (fun w => !p w) }) List.filter_sublist) rfl

theorem State.freePool_keepsTables (s : State) (n : Nat) : s.KeepsTables (s.freePool n) := by
  refine Tables.Keep.trans (State.keepsTables_pool (s := s) (Sparse.rising_erase n))
    (State.keepsTables_fewer fun w hw => ?_)
  obtain ⟨x, hx, rfl⟩ := List.mem_map.1 hw
  exact ⟨x, hx, by unfold Write.afterFree; split <;> rfl, by unfold Write.afterFree; split <;> rfl⟩

theorem State.freePools_keepsTables (s : State) (l : List Nat) : s.KeepsTables (s.freePools l) := by
  induction l generalizing s with
  | nil => exact .refl s
  | cons n l ih => exact (s.freePool_keepsTables n).trans (ih _)

theorem State.freeNamed_keepsTables (s : State) (n : Option Nat) : s.KeepsTables (s.freeNamed n) := by
  cases n with
  | none => exact .refl s
  | some n => exact s.freePool_keepsTables n

theorem State.freeAndCancel_keepsTables (s : State) (l : List Nat) : s.KeepsTables (s.freeAndCancel l) :=
  (s.cancelWrites_keepsTables _).trans (State.freePools_keepsTables _ _)

theorem State.unmerge_keepsTables (s : State) (l : List Nat) : s.KeepsTables (s.unmerge l) := by
  induction l generalizing s with
  | nil => exact .refl s
  | cons n l ih => exact (s.modifyPool_keepsTables n _).trans (ih _)

/-- A SHADOW entry's assignment changes the pool alone, which keeps its order (R145). -/
theorem State.assignShadow_keepsTables {c n e : Nat} (h : s.assignShadow c n = some (e, t)) : s.KeepsTables t := by
  unfold State.assignShadow at h
  split at h
  · cases h; exact .refl s
  · split at h
    · cases h; exact State.keepsTables_pool (Sparse.rising_put _ _)
    · cases h

end Sys2Proof.Machine
end

section
/-!
PROOF. The blocks' operations, in the order of their definitions, keep the tables ordered and what is FROZEN untouched.
-/
namespace Sys2Proof.Machine

variable {s t u : State}

/-! ## Operations that leave the tables as they are -/

@[simp] theorem State.queueOpenClose_tables (s : State) (p : Payload) : (s.queueOpenClose p).tables = s.tables := by
  unfold State.queueOpenClose; split <;> rfl

@[simp] theorem State.setBatch_tables (s : State) (b : Option Batch) : (s.setBatch b).tables = s.tables := rfl

@[simp] theorem State.queueBatch_tables (s : State) : s.queueBatch.tables = s.tables := by
  unfold State.queueBatch
  split
  · rfl
  · split
    · rfl
    · split
      · rfl
      · split <;> rfl

@[simp] theorem State.tallyLine_tables (s : State) (c n g : Nat) (fp : Fingerprint) : (s.tallyLine c n g fp).tables = s.tables := by
  unfold State.tallyLine
  split
  · rfl
  · dsimp only
    split
    · split <;> rfl
    · split
      · split
        · exact State.queueBatch_tables _
        · rfl
      · split <;> exact State.queueBatch_tables _

@[simp] theorem State.tallyCandidate_tables (s : State) (c : Candidate) : (s.tallyCandidate c).tables = s.tables := by
  unfold State.tallyCandidate
  split
  · exact State.tallyLine_tables _ _ _ _ _
  · rfl

@[simp] theorem State.retire_tables (s : State) (e : FetchEntry) : (s.retire e).tables = s.tables := rfl

@[simp] theorem State.updateFetch_tables (s : State) (e new : FetchEntry) : (s.updateFetch e new).tables = s.tables := rfl

@[simp] theorem State.cancelTimers_tables (s : State) (p : FallbackTimer → Bool) : (s.cancelTimers p).tables = s.tables := rfl

@[simp] theorem State.post_tables (s : State) (k : EventKind) (n : Nat) : (s.post k n).tables = s.tables := rfl

@[simp] theorem State.removeSlotEvents_tables (s : State) (c : Nat) : (s.removeSlotEvents c).tables = s.tables := rfl

@[simp] theorem State.respond_tables (s : State) (r : Response) : (s.respond r).tables = s.tables := rfl

@[simp] theorem State.clockOut_tables (s : State) (l : List Byte) : (s.clockOut l).tables = s.tables := rfl

@[simp] theorem State.setAlignment_tables (s : State) (a : Alignment) : { s with alignment := a }.tables = s.tables := rfl

@[simp] theorem State.modifyReception_tables (s : State) (f : Reception → Reception) : (s.modifyReception f).tables = s.tables := rfl

@[simp] theorem State.formSegments_tables (s : State) : s.formSegments.tables = s.tables := by
  unfold State.formSegments
  split
  · split <;> rfl
  · rfl

@[simp] theorem State.makeRead_tables (s : State) : s.makeRead.tables = s.tables := by
  unfold State.makeRead; split <;> rfl

@[simp] theorem State.makeDueReads_tables (s : State) : s.makeDueReads.tables = s.tables := by
  unfold State.makeDueReads
  rw [State.formSegments_tables]
  dsimp only
  split
  · exact s.makeRead_tables
  · rfl

@[simp] theorem State.issueAsk_tables (s : State) (c : Nat) (r : ChartRecord) (n : Nat) (row : HolderRow) (b : Holder) :
    (s.issueAsk c r n row b).tables = s.tables := by
  unfold State.issueAsk; dsimp only; split <;> rfl

@[simp] theorem State.issueAsksUpTo_tables (s : State) (k : Nat) : (s.issueAsksUpTo k).tables = s.tables := by
  induction k generalizing s with
  | zero => rfl
  | succ k ih => unfold State.issueAsksUpTo; split <;> simp [ih]

@[simp] theorem State.wakeTransmitter_tables (s : State) : s.wakeTransmitter.tables = s.tables := by
  unfold State.wakeTransmitter; split <;> rfl

@[simp] theorem State.settle_tables (s : State) : s.settle.tables = s.tables :=
  (State.wakeTransmitter_tables _).trans (State.issueAsksUpTo_tables s 4)

@[simp] theorem State.dropBody_tables (s : State) (i : Nat) : (s.dropBody i).tables = s.tables := State.formSegments_tables _

@[simp] theorem State.withdrawBodies_tables (s : State) (c : Nat) : (s.withdrawBodies c).tables = s.tables :=
  State.formSegments_tables _

@[simp] theorem State.declineTo_tables (s : State) (k : Key) (n : Nat) (r : Station) (x : DeclineReason) :
    (s.declineTo k n r x).tables = s.tables := rfl

@[simp] theorem State.queueBody_tables (s : State) (c : Nat) (k : Key) (n : Nat) (r : Station) :
    (s.queueBody c k n r).tables = s.tables := State.formSegments_tables _

@[simp] theorem State.serve_tables (s : State) (k : Key) (n : Nat) (r : Station) : (s.serve k n r).tables = s.tables := by
  unfold State.serve
  split
  · rfl
  · split
    · rfl
    · split
      · rfl
      · split
        · rfl
        · split
          · rfl
          · split
            · rfl
            · exact State.queueBody_tables _ _ _ _ _

@[simp] theorem State.startFallback_tables (s : State) (a : Ask) (r : Station) : (s.startFallback a r).tables = s.tables := by
  unfold State.startFallback
  dsimp only
  split
  · rfl
  · split
    · rfl
    · split <;> rfl

@[simp] theorem State.segmentZeroHeard_tables (s : State) (st : Station) (b : Segment) (h : BodyHeader) :
    (s.segmentZeroHeard st b h).tables = s.tables := by
  unfold State.segmentZeroHeard
  dsimp only
  split
  · split <;> rfl
  · rfl

@[simp] theorem State.settleMigration_tables (s : State) : s.settleMigration.tables = s.tables := by
  unfold State.settleMigration; split <;> rfl

@[simp] theorem State.releaseAlignment_tables (s : State) (c : Nat) : (s.releaseAlignment c).tables = s.tables := by
  unfold State.releaseAlignment; split <;> rfl

@[simp] theorem State.retireAll_false_tables (s : State) (l : List FetchEntry) : (s.retireAll false l).tables = s.tables := by
  rw [State.retireAll_eq]; rfl

@[simp] theorem State.retireWhere_false_tables (s : State) (p : FetchEntry → Bool) : (s.retireWhere p false).tables = s.tables :=
  State.retireAll_false_tables _ _

/-! ## The record's frames (R80, R82) and closing (R92) -/

theorem State.queueOwnOpen_keepsTables (s : State) (c : Nat) (split : Bool) : s.KeepsTables (s.queueOwnOpen c split) := by
  unfold State.queueOwnOpen
  split
  · split
    · rename_i l _
      have queued : s.KeepsTables { s with link := l } := .of_tables rfl
      exact queued.trans (State.modifyRecord_keepsTables _ c)
    · exact s.modifyRecord_keepsTables c
  · exact .refl s

theorem State.ownOpenNotice_keepsTables (s : State) (k : Key) : s.KeepsTables (s.ownOpenNotice k) := by
  unfold State.ownOpenNotice
  split
  · exact s.modifyRecord_keepsTables _ (fun r h => by split at h <;> exact h)
  · exact .refl s

theorem State.closingTest_keepsTables (s : State) (c : Nat) : s.KeepsTables (s.closingTest c) := by
  unfold State.closingTest
  split
  · exact Tables.Keep.same (s.modifyRecord_keepsTables c) (State.post_tables _ _ _) |> Tables.Keep.ite
  · exact .refl s

theorem State.closingTests_keepsTables (s : State) (l : List Nat) : s.KeepsTables (s.closingTests l) := by
  induction l generalizing s with
  | nil => exact .refl s
  | cons c l ih => exact (s.closingTest_keepsTables c).trans (ih _)

/-! ## Candidates (R24 to R31) -/

theorem State.thawEnd_keepsTables (s : State) (c : Nat) : s.KeepsTables (s.thawEnd c) :=
  ((s.setHold_keepsTables c (by decide)).same (State.post_tables _ _ _)).ite

/-- A candidate that goes to no HOLD UNIT is of a chart that is not FROZEN (R27). -/
theorem State.not_frozen_of_heldReference {c n : Nat} (h : s.heldReference c n = none) : ¬s.tables.Frozen c := by
  rw [← State.hold_eq_frozen_iff]
  intro hc
  unfold State.heldReference at h
  rw [hc] at h
  cases hs : s.shadow? c n <;> simp [hs] at h

theorem State.acceptCandidate_keepsTables (s : State) {c : Candidate} (h : s.heldReference c.slot c.line = none) :
    s.KeepsTables (s.acceptCandidate c) :=
  ((s.queueWrite_keepsTables (.inr (State.not_frozen_of_heldReference h))).trans
    (State.modifyEntry_keepsTables _ _ _ _)).same (State.tallyCandidate_tables _ c)

theorem State.holdCandidate_keepsTables (s : State) (c : Candidate) (shadow : Option Nat) :
    s.KeepsTables (s.holdCandidate c shadow) := by
  unfold State.holdCandidate
  split
  · split
    · next h =>
      exact (((State.assignShadow_keepsTables h).trans (State.modifyPool_keepsTables _ _ _)).trans
        (State.queueWrite_keepsTables _ (.inl rfl))).same (State.tallyCandidate_tables _ c)
    · exact (State.KeepsTables.of_tables (State.post_tables s _ _)).trans (State.freeNamed_keepsTables _ _)
  · exact s.freeNamed_keepsTables _

/-- A candidate goes into no FROZEN composite (R27, R144). -/
theorem State.takeCandidate_keepsTables (s : State) (c : Candidate) : s.KeepsTables (s.takeCandidate c) := by
  unfold State.takeCandidate
  split
  · exact s.freeNamed_keepsTables _
  · split
    · exact s.holdCandidate_keepsTables c _
    · next h => exact (s.acceptCandidate_keepsTables h).iteElse (s.freeNamed_keepsTables _)

theorem State.queueStore_keepsTables (s : State) (st : ProvisionalStore) : s.KeepsTables (s.queueStore st) :=
  (s.modifyPool_keepsTables _ _).trans (State.queueWrite_keepsTables _ (.inl rfl))

/-- A merge line is one of a THAWING slot (R147). -/
theorem State.not_frozen_of_nextMerge {p : Nat × PoolEntry} (h : s.nextMerge = some p) : ¬s.tables.Frozen p.2.slot := by
  have hp := (List.mem_filter.1 (mem_of_firstLeast h)).2
  simp only [Bool.and_eq_true, decide_eq_true_eq] at hp
  rw [← State.hold_eq_frozen_iff, hp.2]
  decide

theorem State.takeMerge_keepsTables (s : State) (n : Nat) {e : PoolEntry} (h : ¬s.tables.Frozen e.slot) :
    s.KeepsTables (s.takeMerge n e) :=
  ((s.modifyPool_keepsTables n _).trans (State.queueWrite_keepsTables _ (.inr (by exact h)))).trans (State.modifyEntry_keepsTables _ _ _ _)

theorem State.setContext_keepsTables (s : State) (n : Nat) (c : Option Context) : s.KeepsTables (s.setContext n c) := by
  cases c with
  | none => exact State.keepsTables_contexts (Sparse.rising_erase n)
  | some c => exact State.keepsTables_contexts (Sparse.rising_put n c)

theorem State.takeBody_keepsTables (s : State) (n : Nat) (c : Context) (k : Nat) : s.KeepsTables (s.takeBody n c k) := by
  have idle : s.KeepsTables { s with
      fetch := { s.fetch with contexts := Sparse.erase s.fetch.contexts n }
      lineTable := { s.lineTable with lastServed := Fin.ofNat 8 n } } :=
    Tables.Keep.same (s.setContext_keepsTables n none) rfl
  unfold State.takeBody
  dsimp only
  split
  · exact (idle.trans (State.takeCandidate_keepsTables _ _)).iteElse idle
  · exact idle

theorem State.takeMigration_keepsTables (s : State) (c : Nat) (h : HeldLine) (n : Nat) : s.KeepsTables (s.takeMigration c h n) := by
  have dropped : s.KeepsTables { s with alignment := { s.alignment with migration := s.alignment.migration.drop 1 } } :=
    .of_tables rfl
  exact (dropped.trans (State.takeCandidate_keepsTables _ _)).same (State.settleMigration_tables _)

/-- The candidate taken, of whatever source, goes into no FROZEN composite (R31). -/
theorem State.takeNext_keepsTables (s : State) : s.KeepsTables s.takeNext := by
  unfold State.takeNext
  split
  · have emptied : s.KeepsTables { s with lineTable := { s.lineTable with store := none } } := .of_tables rfl
    exact emptied.trans (State.queueStore_keepsTables _ _)
  · split
    · next b rest _ =>
      have taken : s.KeepsTables { s with reception := { s.reception with buffers := rest } } := .of_tables rfl
      exact taken.trans (State.takeCandidate_keepsTables _ _)
    · split
      · exact s.takeBody_keepsTables _ _ _
      · split
        · exact s.takeMigration_keepsTables _ _ _
        · split
          · next h => exact s.takeMerge_keepsTables _ (State.not_frozen_of_nextMerge h)
          · exact .refl s

/-! ## Completions (R29, R30) -/

theorem State.popWrite_keepsTables (s : State) : s.KeepsTables s.popWrite := State.keepsTables_sublist (List.drop_sublist _ _)

theorem State.completeComposite_keepsTables (s : State) (w : Write) : s.KeepsTables (s.completeComposite w) := by
  unfold State.completeComposite
  have stored : s.KeepsTables (((s.popWrite).storeWrite w).modifyEntry w.slot w.target (fun e => e.completed w)) :=
    (Tables.Keep.same (u := s.popWrite.storeWrite w) s.popWrite_keepsTables rfl).trans (State.modifyEntry_keepsTables _ _ _ _)
  have freed := (stored.trans (State.freeNamed_keepsTables _ w.frees)).same (State.post_tables _ .linesImproved w.slot)
  exact ((freed.trans (State.modifyRecord_keepsTables _ _)).trans (State.thawEnd_keepsTables _ _)).trans
    (State.startNext_keepsTables _)

theorem State.completePool_keepsTables (s : State) (w : Write) : s.KeepsTables (s.completePool w) := by
  unfold State.completePool
  have stored : s.KeepsTables ((s.popWrite).storeWrite w) := Tables.Keep.same s.popWrite_keepsTables rfl
  exact ((stored.iteElse (stored.trans (State.modifyPool_keepsTables _ _ _))).trans (State.freeNamed_keepsTables _ _)).trans
    (State.startNext_keepsTables _)

/-! ## Fetches (R119, R124) and releases (R40, R95, R135) -/

theorem State.retireAll_keepsTables (s : State) (counted : Bool) (l : List FetchEntry) :
    s.KeepsTables (s.retireAll counted l) := by
  induction l generalizing s with
  | nil => exact .refl s
  | cons e l ih =>
    have retired := State.KeepsTables.of_tables (s.retire_tables e)
    exact ((retired.trans (State.modifyRow_keepsTables _ _ _ _)).iteElse retired).trans (ih _)

theorem State.releaseLines_keepsTables (s : State) (c : Nat) : s.KeepsTables (s.releaseLines c) := by
  unfold State.releaseLines
  have read := (State.KeepsTables.of_tables s.makeRead_tables).ite (c := (s.port.read.any (fun r => r.slot = c)) = true)
  refine Tables.Keep.trans ?_ (State.cancelWrites_keepsTables _ _)
  exact read.same rfl

theorem State.releaseFetch_keepsTables (s : State) (c : Nat) (k : Key) : s.KeepsTables (s.releaseFetch c k) := by
  unfold State.releaseFetch
  have withdrawn : s.KeepsTables
      (((s.retireWhere (fun e => e.slot = c) false).cancelTimers (fun t => t.key == k)).withdrawBodies c) :=
    .of_tables (by simp)
  exact (withdrawn.trans (State.KeepsTables.of_tables (State.setBatch_tables _ none)).ite).trans
    (State.keepsTables_contexts (Sparse.rising_filter _))

theorem State.releasePool_keepsTables (s : State) (c : Nat) : s.KeepsTables (s.releasePool c) := by
  unfold State.releasePool
  have left : s.KeepsTables { s with pool := s.pool.filter (fun p => p.2.slot != c) } :=
    State.keepsTables_pool (Sparse.rising_filter _)
  exact left.trans (Tables.Keep.ite (State.KeepsTables.of_tables rfl))

theorem State.releaseSlot_keepsTables (s : State) (c : Nat) : s.KeepsTables (s.releaseSlot c) := by
  unfold State.releaseSlot
  split
  · exact .refl s
  · rename_i r _
    have freed := ((((s.releaseLines_keepsTables c).trans (State.releaseFetch_keepsTables _ c r.key)).same
      (State.releaseAlignment_tables _ c)).trans (State.releasePool_keepsTables _ c)).trans
        (State.removeSlot_keepsTables _ c (r.closeOrder.getD 0))
    have posted := freed.same (State.removeSlotEvents_tables _ c)
    exact (posted.trans (State.KeepsTables.of_tables (State.respond_tables _ _)).ite).trans (State.startNext_keepsTables _)

/-! ## Creation and a reception's request (R77 to R81, R98) -/

theorem State.allocate_keepsTables {c : Nat} (h : s.allocate = some (c, t)) : s.KeepsTables t := by
  unfold State.allocate at h
  dsimp only at h
  split at h
  · cases h; exact .refl _
  · obtain ⟨d, -, hd⟩ := Option.map_eq_some_iff.1 h
    cases hd
    exact s.releaseSlot_keepsTables _

theorem State.create_keepsTables (s : State) {r : ChartRecord} (hr : r.hold ≠ .frozen) : s.KeepsTables (s.create r).2 := by
  unfold State.create
  split
  · next h =>
    exact ((State.allocate_keepsTables h).trans (State.keepsTables_putSlot _ _ (sl := { record := r, entries := [], rows := [] })
      hr rfl rfl)).same (State.post_tables _ _ _)
  · exact .of_tables (State.post_tables _ _ _)

theorem State.originKey_keepsTables (s : State) : s.KeepsTables s.originKey.2 := by
  unfold State.originKey
  dsimp only
  split
  · exact (s.releaseSlot_keepsTables _).same rfl
  · exact .of_tables rfl

theorem State.originate_keepsTables (s : State) (late : Bool) : s.KeepsTables (s.originate late).2 := by
  have created := s.originKey_keepsTables.trans (State.create_keepsTables s.originKey.2
    (r := { s.originKey.2.newRecord s.originKey.1 with
      offset := some 0, bound := true, late := late, contributors := [{ station := s.originKey.2.self, ended := none }] })
    (by simp [State.newRecord]))
  unfold State.originate
  dsimp only
  split
  · next h =>
    rw [h] at created
    exact created.trans (State.queueOwnOpen_keepsTables _ _ _)
  · next h =>
    rw [h] at created
    exact created

theorem State.takeUp_keepsTables (s : State) (c : Nat) (k : Key) (e : Nat) : s.KeepsTables (s.takeUp c k e) := by
  unfold State.takeUp
  exact ((State.KeepsTables.of_tables (State.retireWhere_false_tables s _)).same (State.setAlignment_tables _ _)).trans
    (State.freePools_keepsTables _ _)

theorem State.bind_keepsTables (s : State) (c e : Nat) (late : Bool) : s.KeepsTables (s.bind c e late) := by
  unfold State.bind
  split
  · exact (s.modifyRecord_keepsTables c).trans (State.takeUp_keepsTables _ _ _ _)
  · exact .refl s

theorem State.requestStarted_keepsTables (s : State) : s.KeepsTables s.requestStarted.2 := by
  unfold State.requestStarted
  split
  · exact s.bind_keepsTables _ _ _
  · exact s.originate_keepsTables _

theorem State.requestLate_keepsTables (s : State) (n : Nat) : s.KeepsTables (s.requestLate n).2 := by
  unfold State.requestLate
  split
  · exact s.bind_keepsTables _ _ _
  · exact s.originate_keepsTables _

/-! ## Alignment (R99 to R109) -/

theorem State.acceptOffset_keepsTables (s : State) (c : Nat) (d : Int) : s.KeepsTables (s.acceptOffset c d) := by
  unfold State.acceptOffset
  have opened := s.modifyRecord_keepsTables c (f := fun r => { r with state := .opened, offset := some d, expected := none })
  exact (((opened.same (State.post_tables _ .chartAligned c)).same (State.setAlignment_tables _ _)).trans
    (State.freePools_keepsTables _ _)).same (State.settleMigration_tables _)

theorem State.askSplit_tables (s : State) (c : Nat) : (s.askSplit c).tables = s.tables := rfl

theorem State.evaluate_keepsTables (s : State) : s.KeepsTables s.evaluate := by
  unfold State.evaluate State.alignDecision
  split
  · refine Tables.Keep.ite ?_
    split
    · exact (s.acceptOffset_keepsTables _ _).iteElse (.of_tables (s.askSplit_tables _))
    · exact .of_tables (s.askSplit_tables _)
  · exact .refl s

theorem State.alignTally_keepsTables (s : State) (st : Station) (x : Tally) : s.KeepsTables (s.alignTally st x) := by
  have noted : ∀ a, s.KeepsTables { s with alignment := a } := fun a => .of_tables rfl
  exact Tables.Keep.ite ((Tables.Keep.trans (noted _) (State.evaluate_keepsTables _)).iteElse (noted _))

theorem State.handStore_keepsTables (s : State) (st : ProvisionalStore) : s.KeepsTables (s.handStore st) := by
  unfold State.handStore
  refine (s.queueStore_keepsTables st).iteElse ?_
  have waits : ∀ x : State, s.KeepsTables x → s.KeepsTables { x with lineTable := { x.lineTable with store := some st } } :=
    fun x h => h.same rfl
  refine waits _ ?_
  split
  · next old _ =>
    have dropped : s.KeepsTables { s with
        lineTable := { s.lineTable with store := none }
        alignment := { s.alignment with
          provisional := s.alignment.provisional.filter (fun (h : HeldLine) => h.entry != old.entry) } } := .of_tables rfl
    exact dropped.trans (State.freePool_keepsTables _ _)
  · exact .refl s

theorem State.holdLine_keepsTables (s : State) (c n g : Nat) (fp : Fingerprint) (x : Pixels) :
    s.KeepsTables (s.holdLine c n g fp x) := by
  unfold State.holdLine
  split
  · next e _ =>
    have put : s.KeepsTables (s.putPool e (PoolEntry.newProvisional c n)) := State.keepsTables_pool (Sparse.rising_put _ _)
    exact Tables.Keep.ite ((put.same (State.setAlignment_tables _ _)).trans (State.handStore_keepsTables _ _))
  · exact .refl s

theorem State.alignLine_keepsTables (s : State) (c n g : Nat) (fp : Fingerprint) (x : Pixels) :
    s.KeepsTables (s.alignLine c n g fp x) := by
  have counted : s.KeepsTables { s with alignment := { s.alignment with handed := s.alignment.handed + 1 } } := .of_tables rfl
  exact Tables.Keep.ite ((counted.trans (State.holdLine_keepsTables _ _ _ _ _ _)).trans (State.evaluate_keepsTables _))

theorem State.abandon_keepsTables (s : State) (c : Nat) : s.KeepsTables (s.abandon c) := by
  unfold State.abandon
  have idle : s.KeepsTables { s with
      lineTable := { s.lineTable with requests := s.lineTable.requests.filter (fun q => q != QuietRequest.splitClear c) }
      alignment := Alignment.reset } := .of_tables rfl
  have opened := (idle.trans (State.freeAndCancel_keepsTables _ (s.alignment.provisional.map HeldLine.entry))).trans
    (State.modifyRecord_keepsTables _ c (f := fun r => { r with state := .opened, offset := none, expected := none }))
  exact (opened.same (State.post_tables _ .alignAbandoned c)).trans (State.startNext_keepsTables _)

/-! ## What the directory hears (R83 to R87, R91) -/

theorem State.endReport_keepsTables (s : State) (c : Nat) (reason : CloseReason) : s.KeepsTables (s.endReport c reason) := by
  unfold State.endReport
  split
  · exact .refl s
  · next r _ =>
    have closed := (s.modifyRecord_keepsTables c (f := fun r => { r with
        bound := false, contributors := contributorEnds s.self .close r.contributors, lastCloseReason := some reason })).same (State.queueOpenClose_tables _ (.chartClose { key := r.key, reason := reason, lastLine := r.lastOwn }))
    exact ((closed.trans (State.abandon_keepsTables _ c).ite).trans
      (State.KeepsTables.of_tables (State.queueBatch_tables _)).ite).trans (State.closingTest_keepsTables _ _)

theorem State.rekeyBodies_keepsTables (s : State) (c : Nat) (k : Key) : s.KeepsTables (s.rekeyBodies c k) :=
  State.keepsTables_contexts (Sparse.rising_map _ fun p => by dsimp only; split <;> rfl)

theorem State.rekey_keepsTables (s : State) (c : Nat) (r : ChartRecord) (o : ChartOpen) (st : Station) :
    s.KeepsTables (s.rekey c r o st) := by
  unfold State.rekey
  have withdrawn : s.KeepsTables { s with link := s.link.withdrawOpen r.key } := .of_tables rfl
  exact ((withdrawn.trans (State.modifyRecord_keepsTables _ c)).trans
    (State.rekeyBodies_keepsTables _ c o.key)).trans (State.takeUp_keepsTables _ _ _ _)

theorem State.openUnknown_keepsTables (s : State) (st : Station) (o : ChartOpen) : s.KeepsTables (s.openUnknown st o) := by
  unfold State.openUnknown
  split
  · exact s.rekey_keepsTables _ _ _ _
  · exact s.create_keepsTables (by simp [State.newRecord])

theorem ChartRecord.raiseTo_hold (r : ChartRecord) (n : Option Nat) : (r.raiseTo n).hold = r.hold := by
  cases n <;> rfl

theorem State.openHeard_keepsTables (s : State) (st : Station) (o : ChartOpen) : s.KeepsTables (s.openHeard st o) := by
  unfold State.openHeard
  refine Tables.Keep.iteElse (.refl s) ?_
  split
  · exact s.openUnknown_keepsTables _ _
  · dsimp only
    split
    · refine Tables.Keep.iteElse (s.modifyRecord_keepsTables _ (fun r h => ?_)) (Tables.Keep.iteElse
        (s.modifyRecord_keepsTables _ (fun r h => ?_)) (Tables.Keep.ite
          ((s.releaseSlot_keepsTables _).trans (State.openUnknown_keepsTables _ _ _))))
      · simpa [ChartRecord.raiseTo_hold] using h
      · simpa [ChartRecord.raiseTo_hold] using h
    · exact .refl s

theorem State.closeHeard_keepsTables (s : State) (st : Station) (f : ChartClose) : s.KeepsTables (s.closeHeard st f) := by
  unfold State.closeHeard
  split
  · exact .refl s
  · next c _ =>
    split
    · exact .refl s
    · have raised := s.modifyRecord_keepsTables c (f := fun r => r.raiseTo f.lastLine)
        (fun r h => by rwa [ChartRecord.raiseTo_hold] at h)
      exact ((raised.trans (State.modifyRecord_keepsTables _ c)).trans
        (State.closingTest_keepsTables _ c)).iteElse raised

theorem State.tallyHeard_keepsTables (s : State) (st : Station) (x : Tally) : s.KeepsTables (s.tallyHeard st x) := by
  unfold State.tallyHeard
  split
  · exact .refl s
  · exact s.modifyRecord_keepsTables _ (fun r h => by rwa [ChartRecord.restartQuiet_hold] at h)

theorem State.peerLost_keepsTables (s : State) (st : Station) : s.KeepsTables (s.peerLost st) := by
  unfold State.peerLost
  exact Tables.Keep.trans (State.keepsTables_map (s := s) (g := fun p => { p.2 with record := { p.2.record with
    contributors := contributorEnds st .loss p.2.record.contributors } }) fun p => .record id) (State.closingTests_keepsTables _ _)

/-! ## The split (R38, R90, R108, R151) -/

theorem State.settlePendingGrades_keepsTables (s : State) (c : Nat) : s.KeepsTables (s.settlePendingGrades c) :=
  s.modifySlot_keepsTables (fun sl => sl.tame_entries _ _) c

theorem State.clearPeerLines_keepsTables (s : State) (c : Nat) : s.KeepsTables (s.clearPeerLines c) := by
  unfold State.clearPeerLines
  have cancelled : s.KeepsTables { s with
      lineTable := { s.lineTable with queue := s.lineTable.queue.filter (fun w => !s.splitCancels c w) } } :=
    State.keepsTables_sublist List.filter_sublist
  have emptied := cancelled.trans (State.modifySlot_keepsTables
    (f := fun sl => { sl with entries := sl.entries.map (fun (p : Nat × LineEntry) => (p.1, p.2.splitCleared)) })
    (fun sl => ⟨id, Sparse.rising_map _ (fun _ => rfl), id⟩) _ c)
  exact ((emptied.trans (State.settlePendingGrades_keepsTables _ c)).trans (State.unmerge_keepsTables _ _)).trans
    (State.freePools_keepsTables _ _)

theorem State.clearPeerShadows_keepsTables (s : State) (c : Nat) : s.KeepsTables (s.clearPeerShadows c) :=
  (s.freeAndCancel_keepsTables _).trans (State.thawEnd_keepsTables _ _)

theorem State.splitRecord_keepsTables (s : State) (c : Nat) (k : Key) : s.KeepsTables (s.splitRecord c k) := by
  unfold State.splitRecord
  dsimp only
  have rekeyed := s.originKey_keepsTables.trans (State.modifySlot_keepsTables (f := fun sl => { sl with record := { sl.record with
    key := s.originKey.1, state := .opened, offset := some 0, expected := none
    contributors := [{ station := s.originKey.2.self, ended := none }]
    lastOpenHeard := none, lastTally := none, lastCloseReason := none
    highest := sl.highestFilled, ownLinesHanded := true } }) (fun sl => .record id) _ c)
  exact (Tables.Keep.trans (rekeyed.same (State.queueOpenClose_tables _ _)) (State.queueOwnOpen_keepsTables _ _ _)).same
    (State.post_tables _ _ _)

theorem State.carryOutSplit_keepsTables (s : State) (c : Nat) : s.KeepsTables (s.carryOutSplit c) := by
  unfold State.carryOutSplit
  split
  · exact .refl s
  · rename_i r _
    have taken : s.KeepsTables { s with lineTable := { s.lineTable with
        requests := s.lineTable.requests.filter (fun q => q != QuietRequest.splitClear c) } } := .of_tables rfl
    have cleared := (taken.trans (State.clearPeerLines_keepsTables _ c)).same (State.makeDueReads_tables _)
    have emptied := (cleared.trans (State.modifySlot_keepsTables (f := fun sl => { sl with rows := [] })
      (fun sl => ⟨id, id, fun _ => .nil⟩) _ c)).same (State.cancelTimers_tables _ (fun t => t.key == r.key))
    have split := (emptied.trans (State.clearPeerShadows_keepsTables _ c)).trans (State.splitRecord_keepsTables _ c r.key)
    have posted := split.same (State.post_tables _ .alignSplit c)
    exact ((posted.same (State.setAlignment_tables _ _)).same (State.settleMigration_tables _)).trans
      (State.startNext_keepsTables _)

end Sys2Proof.Machine
end

section
/-!
PROOF. The freeze leaves no write into the composite it freezes, and every command keeps the tables ordered and what is FROZEN
untouched (FrozenStaysUntouched, TablesStayOrdered).
-/
namespace Sys2Proof.Machine

variable {s t u : State}

/-! ## The freeze (R39, R143) -/

/-- A SHADOW entry's assignment changes the pool alone (R145). -/
theorem State.assignShadow_eq {c n e : Nat} (h : s.assignShadow c n = some (e, t)) : t = { s with pool := t.pool } := by
  unfold State.assignShadow at h
  split at h
  · cases h; rfl
  · split at h
    · cases h; rfl
    · cases h

/-- Each write of `l` is a POOL write, or has the kind and slot of one of `m`. -/
def Redirected (l m : List Write) : Prop := ∀ w ∈ l, w.kind = .pool ∨ ∃ x ∈ m, w.kind = x.kind ∧ w.slot = x.slot

theorem Redirected.trans {l m n : List Write} (h : Redirected l m) (k : Redirected m n) : Redirected l n := by
  intro w hw
  rcases h w hw with hw | ⟨x, hx, hk, hs⟩
  · exact .inl hw
  · rcases k x hx with hx | ⟨y, hy, hk', hs'⟩
    · exact .inl (hk.trans hx)
    · exact .inr ⟨y, hy, hk.trans hk', hs.trans hs'⟩

theorem Redirected.of_subset {l m : List Write} (h : l ⊆ m) : Redirected l m := fun w hw => .inr ⟨w, h hw, rfl, rfl⟩

theorem Redirected.append {l m n : List Write} (h : Redirected l n) (k : Redirected m n) : Redirected (l ++ m) n :=
  fun w hw => (List.mem_append.1 hw).elim (h w) (k w)

theorem Redirected.freeNamed (s : State) (n : Option Nat) : Redirected (s.freeNamed n).lineTable.queue s.lineTable.queue := by
  cases n with
  | none => exact .of_subset (List.Subset.refl _)
  | some n =>
    intro w hw
    obtain ⟨x, hx, rfl⟩ := List.mem_map.1 hw
    exact .inr ⟨x, hx, by unfold Write.afterFree; split <;> rfl, by unfold Write.afterFree; split <;> rfl⟩

/-- From `s` to `t` a freeze of slot `c` goes through the queued writes `l`: slots, roster entries and contexts stand, the pool keeps
its order, and the queue grows by POOL writes and by those of `l` that do not go into the composite. -/
structure State.Redirects (c : Nat) (l : List Write) (s t : State) : Prop where
  slots : t.slots = s.slots
  peers : t.roster.peers = s.roster.peers
  contexts : t.fetch.contexts = s.fetch.contexts
  pool : Sparse.Rising s.pool → Sparse.Rising t.pool
  queue : Redirected t.lineTable.queue (s.lineTable.queue ++ l.filter (fun w => !w.intoComposite c))

theorem State.Redirects.trans {c : Nat} {l m : List Write} (h : State.Redirects c l s t) (k : State.Redirects c m t u) :
    State.Redirects c (l ++ m) s u where
  slots := k.slots.trans h.slots
  peers := k.peers.trans h.peers
  contexts := k.contexts.trans h.contexts
  pool := k.pool ∘ h.pool
  queue := by
    rw [List.filter_append, ← List.append_assoc]
    exact k.queue.trans (.append (h.queue.trans (.of_subset (List.subset_append_left _ _)))
      (.of_subset (List.subset_append_right _ _)))

/-- A cancelled write leaves the queue's other writes with their kinds and slots. -/
theorem State.Redirects.cancelled {c : Nat} {l : List Write} (hs : t.slots = s.slots) (hp : t.roster.peers = s.roster.peers)
    (hc : t.fetch.contexts = s.fetch.contexts) (hpool : Sparse.Rising s.pool → Sparse.Rising t.pool)
    (hq : Redirected t.lineTable.queue s.lineTable.queue) : State.Redirects c l s t :=
  ⟨hs, hp, hc, hpool, hq.trans (.of_subset (List.subset_append_left _ _))⟩

theorem State.freeNamed_redirects (s : State) (c : Nat) (l : List Write) (n : Option Nat) : State.Redirects c l s (s.freeNamed n) := by
  have queue := Redirected.freeNamed s n
  cases n with
  | none => exact .cancelled rfl rfl rfl id queue
  | some n => exact .cancelled rfl rfl rfl (Sparse.rising_erase n) queue

theorem State.unmerge_redirects (s : State) (c : Nat) (l : List Write) (m : List Nat) : State.Redirects c l s (s.unmerge m) := by
  induction m generalizing s with
  | nil => exact .cancelled rfl rfl rfl id (.of_subset (List.Subset.refl _))
  | cons n m ih =>
    obtain ⟨hs, hp, hc, hpool, hq⟩ := ih (s.modifyPool n (fun e => { e with merging := false }))
    exact ⟨hs, hp, hc, fun h => hpool (Sparse.rising_modify n (fun (e : PoolEntry) => { e with merging := false }) h), hq⟩

/-- A write that becomes a POOL write in its place (R145). -/
theorem State.keepRedirected_redirects {c n m : Nat} (w : Write) (h : s.assignShadow c n = some (m, t)) (f : PoolEntry → PoolEntry) :
    State.Redirects c [w] s ((t.modifyPool m f).keepWrite { w with kind := .pool, target := m }) := by
  have assigned := State.assignShadow_eq h
  have order : Sparse.Rising s.pool → Sparse.Rising t.pool := fun hp => by
    unfold State.assignShadow at h
    split at h
    · cases h; exact hp
    · split at h
      · cases h; exact Sparse.rising_put _ _ hp
      · cases h
  have queued : (t.lineTable.queue ++ [{ w with kind := .pool, target := m }]) =
      s.lineTable.queue ++ [{ w with kind := .pool, target := m }] := by rw [assigned]
  refine ⟨by rw [assigned]; rfl, by rw [assigned]; rfl, by rw [assigned]; rfl, fun hp => Sparse.rising_modify m f (order hp), ?_⟩
  show Redirected (t.lineTable.queue ++ _) _
  rw [queued]
  refine .append (.of_subset (List.subset_append_left _ _)) fun x hx => .inl ?_
  rw [List.mem_singleton.1 hx]

/-- One write gone through (R39). -/
theorem State.redirectWrite_redirects (s : State) (c : Nat) (w : Write) : State.Redirects c [w] s (s.redirectWrite c w) := by
  unfold State.redirectWrite
  split
  · next h =>
    have kept : [w].filter (fun x => !x.intoComposite c) = [w] := by simpa using h
    exact ⟨rfl, rfl, rfl, id, by rw [kept]; exact .of_subset (List.Subset.refl _)⟩
  · split
    · exact s.unmerge_redirects c [w] _
    · dsimp only
      split
      · split
        · next h => exact State.keepRedirected_redirects w h _
        · obtain ⟨hs, hp, hc, hpool, hq⟩ := State.freeNamed_redirects (s.post .shadowFull c) c [w] w.frees
          exact ⟨hs, hp, hc, hpool, hq⟩
      · exact s.freeNamed_redirects c [w] _

theorem State.makeReadsAmong_tables (s : State) (l : List Write) : (s.makeReadsAmong l).tables = s.tables := by
  have read := State.makeDueReads_tables { s with lineTable := { s.lineTable with queue := s.lineTable.queue ++ l } }
  unfold State.makeReadsAmong
  simp only [State.tables, Tables.mk.injEq] at read ⊢
  exact ⟨read.1, trivial, read.2.2⟩

/-- All writes gone through (R39). -/
theorem State.redirectWrites_redirects (s : State) (c : Nat) (l : List Write) : State.Redirects c l s (s.redirectWrites c l) := by
  induction l generalizing s with
  | nil => exact .cancelled rfl rfl rfl id (.of_subset (List.Subset.refl _))
  | cons w l ih =>
    have read := State.makeReadsAmong_tables (s.redirectWrite c w) l
    simp only [State.tables, Tables.mk.injEq] at read
    obtain ⟨hs, hq, hpool, hp, hc⟩ := read
    have among : State.Redirects c [] (s.redirectWrite c w) ((s.redirectWrite c w).makeReadsAmong l) :=
      .cancelled hs hp hc (fun h => hpool ▸ h) (hq ▸ .of_subset (List.Subset.refl _))
    exact ((s.redirectWrite_redirects c w).trans among).trans (ih _)

theorem Write.intoComposite_congr {w x : Write} {c : Nat} (hk : w.kind = x.kind) (hs : w.slot = x.slot) :
    w.intoComposite c = x.intoComposite c := by
  rw [Write.intoComposite, Write.intoComposite, hk, hs]

/-- No write into the composite of a slot is queued. -/
def State.CompositeFree (s : State) (c : Nat) : Prop := ∀ w ∈ s.lineTable.queue, w.intoComposite c = false

/-- A queue gone through holds no write into the composite of the slot (R39, R143). -/
theorem State.Redirects.compositeFree {c : Nat} {l : List Write} (h : State.Redirects c l s t) (hs : s.lineTable.queue = []) :
    t.CompositeFree c := by
  intro w hw
  rcases h.queue w hw with hk | ⟨x, hx, hk, hslot⟩
  · simp [Write.intoComposite, hk]
  · rw [hs, List.nil_append] at hx
    have hx := (List.mem_filter.1 hx).2
    rw [Write.intoComposite_congr hk hslot]
    simpa using hx

/-- The writes `l` of a queue that are gone through are writes of it, or POOL writes (R39, R143). -/
theorem State.Redirects.keepsTables {c : Nat} {l : List Write} (h : State.Redirects c l s t) :
    State.KeepsTables { s with lineTable := { s.lineTable with queue := s.lineTable.queue ++ l } } t where
  untouched hu := by
    rintro d ⟨sl, hsl, hf⟩ w hw
    have stood := hu d ⟨sl, h.slots ▸ hsl, hf⟩
    rcases h.queue w hw with hk | ⟨x, hx, hk, hslot⟩
    · simp [Write.intoComposite, hk]
    · have hx := stood x (by
        rcases List.mem_append.1 hx with hx | hx
        · exact List.mem_append_left _ hx
        · exact List.mem_append_right _ (List.mem_filter.1 hx).1)
      rwa [Write.intoComposite_congr hk hslot]
  ordered ho :=
    { slots := (congrArg Sparse.Rising h.slots).mpr ho.slots
      entries := fun p hp => ho.entries p (h.slots ▸ hp)
      rows := fun p hp => ho.rows p (h.slots ▸ hp)
      pool := h.pool ho.pool
      peers := (congrArg Sparse.Rising h.peers).mpr ho.peers
      contexts := (congrArg Sparse.Rising h.contexts).mpr ho.contexts }

/-- A change of records alone keeps every table ordered. -/
theorem Tables.Ordered.modifyRecord (h : s.tables.Ordered) (c : Nat) (f : ChartRecord → ChartRecord) :
    (s.modifyRecord c f).tables.Ordered :=
  { h with
    slots := Sparse.rising_modify (m := s.slots) c (fun sl => { sl with record := f sl.record }) h.slots
    entries := fun p hp => by
      obtain ⟨q, hq, rfl⟩ := List.mem_map.1 hp
      have := h.entries q hq
      split <;> exact this
    rows := fun p hp => by
      obtain ⟨q, hq, rfl⟩ := List.mem_map.1 hp
      have := h.rows q hq
      split <;> exact this }

/-- A chart is frozen whose composite no write waits for (R143). -/
theorem State.setHold_frozen_keepsTables {c : Nat} (h : s.CompositeFree c) : s.KeepsTables (s.setHold c .frozen) where
  untouched hs := by
    rintro d ⟨sl, hsl, hf⟩ w hw
    by_cases hd : d = c
    · subst hd; exact h w hw
    · exact hs d ⟨sl, (Sparse.find_modify_other s.slots c d (fun sl => { sl with record := { sl.record with hold := .frozen } })
        hd).symm.trans hsl, hf⟩ w hw
  ordered ho := ho.modifyRecord c _

/-- A freeze carried out leaves its composite untouched (R39, R143). -/
theorem State.carryOutFreeze_keepsTables (s : State) (c : Nat) : s.KeepsTables (s.carryOutFreeze c) := by
  unfold State.carryOutFreeze
  have through := State.redirectWrites_redirects (State.modifySlot { s with lineTable := { s.lineTable with
    requests := s.lineTable.requests.filter (fun q => q != QuietRequest.freeze c), queue := [] } } c Slot.dropPending) c
    s.lineTable.queue
  have emptied := s.modifySlot_keepsTables (f := Slot.dropPending) (fun sl => sl.tame_entries _ _) c
  have redirected := Tables.Keep.trans emptied through.keepsTables
  have frozen := Tables.Keep.trans redirected (State.setHold_frozen_keepsTables (through.compositeFree rfl))
  exact (frozen.same (State.respond_tables _ _)).trans (State.startNext_keepsTables _)

end Sys2Proof.Machine
end

section
/-!
PROOF. Every command, and so every step, keeps the tables ordered and what is FROZEN untouched: the statements
FrozenStaysUntouched and TablesStayOrdered.
-/
namespace Sys2Proof.Machine

variable {s t u : State}

/-! ## Requests and reads that are due (R33, R37) -/

theorem State.carryOut_keepsTables (s : State) (q : QuietRequest) : s.KeepsTables (s.carryOut q) := by
  unfold State.carryOut
  refine Tables.Keep.ite ?_
  cases q with
  | splitClear c => exact (s.carryOutSplit_keepsTables c).ite
  | freeze c => exact (s.carryOutFreeze_keepsTables c).ite

theorem State.carryOutAll_keepsTables (s : State) (l : List QuietRequest) : s.KeepsTables (s.carryOutAll l) := by
  induction l generalizing s with
  | nil => exact .refl s
  | cons q l ih => exact ((s.carryOut_keepsTables q).same (State.makeDueReads_tables _)).trans (ih _)

theorem State.takeDueSteps_keepsTables (s : State) : s.KeepsTables s.takeDueSteps :=
  (State.KeepsTables.of_tables s.makeDueReads_tables).trans (State.carryOutAll_keepsTables _ _)

theorem State.takeArrival_keepsTables (s : State) (waited : Bool) : s.KeepsTables (s.takeArrival waited) :=
  (s.takeDueSteps_keepsTables.trans (State.takeNext_keepsTables _)).ite

theorem State.splitAtOnce_keepsTables (s : State) : s.KeepsTables s.splitAtOnce := by
  unfold State.splitAtOnce
  split
  · exact ((State.KeepsTables.of_tables s.makeDueReads_tables).trans (State.carryOutSplit_keepsTables _ _)).ite
  · exact .refl s

/-! ## The RECEPTION UNIT (chapter 1) -/

theorem State.modifyReception_keepsTables (s : State) (f : Reception → Reception) : s.KeepsTables (s.modifyReception f) :=
  .of_tables (s.modifyReception_tables f)

theorem State.endReception_keepsTables (s : State) (reason : CloseReason) : s.KeepsTables (s.endReception reason) := by
  unfold State.endReception
  split
  · exact (s.modifyReception_keepsTables _).trans (State.endReport_keepsTables _ _ _)
  · exact s.modifyReception_keepsTables _

theorem State.startReception_keepsTables (s : State) : s.KeepsTables s.startReception :=
  ((s.modifyReception_keepsTables _).trans (State.requestStarted_keepsTables _)).same (State.modifyReception_tables _ _)

theorem State.lengthTest_keepsTables (s : State) : s.KeepsTables s.lengthTest := (s.endReception_keepsTables _).ite

theorem State.enterImage_keepsTables (s : State) (o : Nat) : s.KeepsTables (s.enterImage o) :=
  ((s.modifyReception_keepsTables _).trans (State.lengthTest_keepsTables _)).iteElse (s.modifyReception_keepsTables _)

theorem State.lateEntry_keepsTables (s : State) : s.KeepsTables s.lateEntry :=
  (((s.modifyReception_keepsTables _).trans (State.requestLate_keepsTables _ _)).same
    (State.modifyReception_tables _ _)).trans (State.enterImage_keepsTables _ 0)

theorem State.offerOwnLine_keepsTables (s : State) (b : BufferedLine) : s.KeepsTables (s.offerOwnLine b) :=
  s.takeDueSteps_keepsTables.trans
    ((State.takeCandidate_keepsTables _ _).iteElse (State.modifyReception_keepsTables _ _))

theorem State.reportOwnLine_keepsTables (s : State) (c : Nat) (n : Option Nat) : s.KeepsTables (s.reportOwnLine c n) :=
  s.modifyRecord_keepsTables c (fun r h => by rwa [ChartRecord.restartQuiet_hold] at h)

theorem State.handOn_keepsTables (s : State) (l : FinishedLine) : s.KeepsTables (s.handOn l) := by
  unfold State.handOn
  split
  · exact .refl s
  · split
    · exact .refl s
    · refine Tables.Keep.iteElse ((s.reportOwnLine_keepsTables _ _).trans (State.alignLine_keepsTables _ _ _ _ _ _)) ?_
      split
      · exact .refl s
      · split
        · exact (s.reportOwnLine_keepsTables _ _).trans (State.offerOwnLine_keepsTables _ _)
        · exact .refl s

theorem State.nextPeriod_keepsTables (s : State) : s.KeepsTables s.nextPeriod := s.modifyReception_keepsTables _

theorem State.searchEnds_keepsTables (s : State) : s.KeepsTables s.searchEnds := by
  have counted := fun f => s.nextPeriod_keepsTables.trans (State.modifyReception_keepsTables _ f)
  exact ((counted _).trans (State.lateEntry_keepsTables _)).iteElse (counted _)

theorem State.phasingEnds_keepsTables (s : State) : s.KeepsTables s.phasingEnds := by
  have recorded := fun f => s.nextPeriod_keepsTables.trans (State.modifyReception_keepsTables _ f)
  exact (((recorded _).trans (State.modifyReception_keepsTables _ _)).trans
    (State.enterImage_keepsTables _ _)).iteElse (recorded _)

theorem State.imageLineEnds_keepsTables (s : State) : s.KeepsTables s.imageLineEnds := by
  have handed := fun f => (s.nextPeriod_keepsTables.trans (State.handOn_keepsTables _ s.finishedLine)).trans
    (State.modifyReception_keepsTables _ f)
  have arrived := fun f => ((handed f).trans (State.splitAtOnce_keepsTables _)).trans
    (State.takeArrival_keepsTables _ s.candidateWaits)
  have next := fun f g => (arrived f).trans (State.modifyReception_keepsTables _ g)
  exact (next _ _).iteElse (((arrived _).trans (State.endReception_keepsTables _ _)).iteElse
    ((next _ _).trans (State.lengthTest_keepsTables _)))

theorem State.startConfirmed_keepsTables (s : State) : s.KeepsTables s.startConfirmed := by
  unfold State.startConfirmed
  have flagged := s.modifyReception_keepsTables (fun r => { r with startRun := ToneRun.confirm r.startRun })
  have again := (flagged.trans (State.endReception_keepsTables _ .newStart)).trans (State.startReception_keepsTables _)
  dsimp only
  split
  · exact flagged.trans (State.startReception_keepsTables _)
  · exact again
  · exact again
  · exact flagged

theorem State.stopConfirmed_keepsTables (s : State) : s.KeepsTables s.stopConfirmed := by
  unfold State.stopConfirmed
  have flagged := s.modifyReception_keepsTables (fun r => { r with stopRun := ToneRun.confirm r.stopRun })
  have ended := flagged.trans (State.endReception_keepsTables _ .stop)
  dsimp only
  split
  · exact ended
  · exact ended
  · exact flagged
  · exact flagged

theorem State.takePeriodEnd_keepsTables (s : State) : s.KeepsTables s.takePeriodEnd := by
  refine Tables.Keep.ite ?_
  split
  · exact s.searchEnds_keepsTables
  · exact s.phasingEnds_keepsTables
  · exact s.imageLineEnds_keepsTables
  · exact .refl s

theorem State.startToneEnds_keepsTables (s : State) : s.KeepsTables s.startToneEnds := s.modifyReception_keepsTables _

theorem State.settleReception_keepsTables (s : State) : s.KeepsTables s.settleReception := by
  have started := s.takePeriodEnd_keepsTables.trans
    ((State.startConfirmed_keepsTables _).ite (c := s.takePeriodEnd.reception.startDue = true))
  have stopped := fun (c : Prop) [Decidable c] => started.trans ((State.stopConfirmed_keepsTables _).ite (c := c))
  exact ((stopped _).trans (State.startToneEnds_keepsTables _).ite).trans (State.modifyReception_keepsTables _ _)

theorem State.takeSample_keepsTables (s : State) (audio : BitVec 16) (quadrature : Int) :
    s.KeepsTables (s.takeSample audio quadrature) := by
  have sampled := s.modifyReception_keepsTables (fun r => r.sample s.width s.samples audio quadrature)
  exact ((sampled.trans (State.lengthTest_keepsTables _)).same (State.settle_tables _)).iteElse sampled

/-! ## Frames from peers (R53) -/

theorem State.setRosterEntry_keepsTables (s : State) (p : Station) (e : RosterEntry) : s.KeepsTables (s.setRosterEntry p e) :=
  State.keepsTables_peers (Sparse.rising_put _ _)

theorem State.peerHeard_keepsTables (s : State) (p : Station) : s.KeepsTables (s.peerHeard p) :=
  (s.setRosterEntry_keepsTables p _).iteElse ((s.setRosterEntry_keepsTables p _).same (State.post_tables _ _ _))

theorem State.whenCan_keepsTables {b : Bool} {f : State → State} (h : b = true → s.KeepsTables (f s)) :
    s.KeepsTables (s.whenCan b f) := by
  unfold State.whenCan
  split
  · next hb => exact h hb
  · exact .refl s

theorem State.whenRunning_keepsTables {f : State → State} (h : s.KeepsTables (f s)) : s.KeepsTables (s.whenRunning f) :=
  State.whenCan_keepsTables fun _ => h

theorem Tables.Keep.settle (h : s.KeepsTables t) : s.KeepsTables t.settle := h.same (State.settle_tables t)

/-- A frame keeps the tables where the blocks of its kind do. -/
theorem State.receive_keepsTables {α : Type} (s : State) (frame : List Byte) (pick : Payload → Option α)
    (act : α → Station → State → State) (h : ∀ a st x, State.KeepsTables x (act a st x)) :
    s.KeepsTables (s.receive frame pick act) := by
  refine State.whenCan_keepsTables fun _ => ?_
  have arrived : s.KeepsTables (s.arrive frame) := .of_tables rfl
  split
  · split
    · exact (State.KeepsTables.refl s).iteElse ((arrived.trans (State.peerHeard_keepsTables _ _)).trans (h _ _ _)).settle
    · exact .refl s
  · exact .refl s

theorem State.reannounce_tables (s : State) : s.reannounce.tables = s.tables := by
  unfold State.reannounce
  split
  · split
    · exact State.queueOpenClose_tables _ _
    · rfl
  · rfl

theorem State.takeHail_keepsTables (h : Hail) (st : Station) (s : State) : s.KeepsTables (s.takeHail h st) := by
  have noted := s.setRosterEntry_keepsTables st { s.rosterEntry st with
    lastHail := some { width := h.width, rate := h.rate, boundKey := h.boundKey } }
  exact (noted.same (State.reannounce_tables _)).iteElse noted

theorem State.tallyHolders_keepsTables (s : State) (st : Station) (x : Tally) : s.KeepsTables (s.tallyHolders st x) := by
  unfold State.tallyHolders
  split
  · exact s.modifySlot_keepsTables (fun sl => sl.tallyRows_tame st _ _) _
  · exact .refl s

theorem State.takeTally_keepsTables (x : Tally) (st : Station) (s : State) : s.KeepsTables (s.takeTally x st) :=
  ((((s.tallyHeard_keepsTables st x).trans (State.tallyHolders_keepsTables _ st x)).trans
    (State.alignTally_keepsTables _ st x)).trans (State.splitAtOnce_keepsTables _)).trans (State.takeArrival_keepsTables _ _)

theorem State.deferAsked_keepsTables (s : State) (a : Ask) : s.KeepsTables (s.deferAsked a) := by
  unfold State.deferAsked
  split
  · exact (s.modifyRow_keepsTables _ _ _).ite
  · exact .refl s

theorem State.takeAsk_keepsTables (a : Ask) (st : Station) (s : State) : s.KeepsTables (s.takeAsk a st) := by
  have deferred := s.deferAsked_keepsTables a
  exact (deferred.same (State.serve_tables _ _ _ _)).iteElse ((deferred.same (State.startFallback_tables _ _ _)).iteElse deferred)

theorem State.declineRow_keepsTables (s : State) (d : Decline) (st : Station) (counted : Bool) :
    s.KeepsTables (s.declineRow d st counted) := by
  unfold State.declineRow
  split
  · exact s.modifyRow_keepsTables _ _ _
  · exact .refl s

theorem State.takeDecline_keepsTables (d : Decline) (st : Station) (s : State) : s.KeepsTables (s.takeDecline d st) := by
  have cancelled := State.KeepsTables.of_tables (s.cancelTimers_tables (fun t => t.isFor d.key d.line && t.primary == st))
  refine Tables.Keep.iteElse ?_ cancelled
  split
  · exact (cancelled.same (State.retire_tables _ _)).trans (State.declineRow_keepsTables _ _ _ _)
  · exact cancelled.trans (State.declineRow_keepsTables _ _ _ _)

theorem State.bodyComplete_keepsTables (s : State) (st : Station) (c : Context) (k : Nat) :
    s.KeepsTables (s.bodyComplete st c k) := by
  have retired : s.KeepsTables ((s.retireWhere (fun e => e.isFor c.key c.line) false).cancelTimers (fun t => t.isFor c.key c.line)) :=
    .of_tables ((State.cancelTimers_tables _ _).trans (State.retireWhere_false_tables _ _))
  have noted := fun f => retired.trans (State.modifyRow_keepsTables _ k c.line f)
  exact ((noted _).trans (State.takeBody_keepsTables _ _ _ _)).iteElse ((noted _).trans (State.setContext_keepsTables _ _ _))

theorem State.takeLaterSegment_keepsTables (s : State) (st : Station) (c : Option Context) (b : Segment) :
    s.KeepsTables (s.takeLaterSegment st c b) := by
  unfold State.takeLaterSegment
  split
  · exact .refl s
  · split
    · exact s.setContext_keepsTables _ _
    · exact s.setContext_keepsTables _ _
    · split
      · exact (State.KeepsTables.of_tables (State.cancelTimers_tables s _)).trans (State.setContext_keepsTables _ _ _)
      · exact s.takeDueSteps_keepsTables.trans (State.bodyComplete_keepsTables _ _ _ _)

theorem State.takeSegment_keepsTables (b : Segment) (st : Station) (s : State) : s.KeepsTables (s.takeSegment b st) := by
  unfold State.takeSegment
  cases b.header with
  | none => exact (State.KeepsTables.refl s).iteElse (State.takeLaterSegment_keepsTables _ _ _ _)
  | some h =>
    have heard := State.KeepsTables.of_tables (s.segmentZeroHeard_tables st b h)
    exact heard.iteElse (heard.trans (State.setContext_keepsTables _ _ _))

/-! ## The link (R54, R62, R63) -/

theorem State.sentNotice_keepsTables (s : State) (f : QueuedFrame) : s.KeepsTables (s.sentNotice f) := by
  have asked : ∀ a, (s.askSent a).tables = s.tables := fun a => by
    unfold State.askSent
    split
    · split <;> rfl
    · rfl
  unfold State.sentNotice
  split
  · exact (State.KeepsTables.refl s).iteElse (s.ownOpenNotice_keepsTables _)
  · exact .refl s
  · exact .refl s
  · exact .refl s
  · exact (State.KeepsTables.refl s).iteElse (.of_tables (asked _))
  · exact (State.KeepsTables.of_tables (s.dropBody_tables 0)).ite
  · exact Tables.Keep.ite (.of_tables rfl)

theorem State.droppedNotice_keepsTables (s : State) (f : QueuedFrame) : s.KeepsTables (s.droppedNotice f) := by
  unfold State.droppedNotice
  split
  · exact (State.KeepsTables.refl s).iteElse (s.ownOpenNotice_keepsTables _)
  · exact .refl s
  · exact .refl s
  · exact .refl s
  · exact .refl s
  · exact .of_tables (s.retireWhere_false_tables _)
  · exact .of_tables (State.dropBody_tables _ 0)

theorem State.completeAttempt_keepsTables (s : State) : s.KeepsTables s.completeAttempt := by
  unfold State.completeAttempt
  split
  · next c f _ _ =>
    have left : s.KeepsTables { s with
        now := s.frameEnd f.payload.frameBytes, link := (s.link.replaceHead c []).endAttempt.frameArrived } := .of_tables rfl
    exact left.trans (State.sentNotice_keepsTables _ f)
  · exact .refl s

theorem State.faultAttempt_keepsTables (s : State) : s.KeepsTables s.faultAttempt := by
  unfold State.faultAttempt
  split
  · next c f _ _ =>
    have left : ∀ new, s.KeepsTables { s with link := (s.link.replaceHead c new).endAttempt } := fun _ => .of_tables rfl
    exact (left _).iteElse ((left _).iteElse (((left _).trans (State.droppedNotice_keepsTables _ f)).same
      (State.post_tables _ _ _)))
  · exact .refl s

theorem State.clearOwnOpens_keepsTables (s : State) : s.KeepsTables s.clearOwnOpens :=
  State.keepsTables_map (g := fun p => { p.2 with record :=
    if p.2.record.ownOpen = .queued then { p.2.record with ownOpen := .done } else p.2.record })
      fun p => .record (fun h => by split at h <;> exact h)

theorem State.conflict_keepsTables (s : State) : s.KeepsTables s.conflict :=
  (State.KeepsTables.refl s).iteElse (s.clearOwnOpens_keepsTables.same rfl)

/-! ## Resets (chapter 9) -/

theorem State.postAll_tables (s : State) (k : EventKind) (l : List Nat) : (s.postAll k l).tables = s.tables := by
  induction l generalizing s with
  | nil => rfl
  | cons n l ih => exact ih _

theorem State.release_tables (s : State) : s.release.tables = s.tables := by
  have faults : ∀ (x : State) (p : Prop) [Decidable p] (k : EventKind) (l : List Nat),
      (if p then x.postAll k l else x).tables = x.tables := fun x p _ k l => by
    split
    · exact x.postAll_tables k l
    · rfl
  exact (State.postAll_tables _ .thawDone _).trans (faults _ _ _ _)

/-- With every table as a cold reset leaves it, all is kept. -/
theorem State.coldValues_keepsTables (s : State) (c : ConfigState) : s.KeepsTables (s.coldValues c) where
  untouched _ := by rintro _ _ w ⟨⟩
  ordered _ := ⟨.nil, by rintro _ ⟨⟩, by rintro _ ⟨⟩, .nil, .nil, .nil⟩

theorem State.cutWrite_tables (s : State) : s.cutWrite.tables = s.tables := by
  unfold State.cutWrite
  split
  · split <;> rfl
  · rfl

theorem State.tearWrite_keepsTables (s : State) : s.KeepsTables s.tearWrite := by
  unfold State.tearWrite
  split
  · exact .refl s
  · next w _ _ =>
    have cut : s.KeepsTables (s.interruptWrite w) := .of_tables rfl
    refine Tables.Keep.ite ?_
    split
    · exact cut.iteElse (cut.trans (State.keepsTables_pool (Sparse.rising_erase _)))
    · exact cut.trans (State.modifyEntry_keepsTables _ _ _ _)
    · exact cut.trans (State.modifyEntry_keepsTables _ _ _ _)

/-- The records of a warm reset are those of the slots, each changed by itself (R96). -/
theorem mem_warmRecords {l : List (Nat × Slot)} {n : Nat} {p : Nat × Slot} (h : p ∈ warmRecords n l) :
    ∃ q ∈ l, p.1 = q.1 ∧ p.2.entries = q.2.entries ∧ p.2.rows = q.2.rows := by
  induction l generalizing n with
  | nil => cases h
  | cons q l ih =>
    rcases List.mem_cons.1 h with rfl | h
    · exact ⟨q, List.mem_cons_self, rfl, rfl, rfl⟩
    · obtain ⟨r, hr, same⟩ := ih h
      exact ⟨r, List.mem_cons_of_mem _ hr, same⟩

theorem rising_warmRecords {l : List (Nat × Slot)} (h : Sparse.Rising l) (n : Nat) : Sparse.Rising (warmRecords n l) := by
  induction h generalizing n with
  | nil => exact .nil
  | cons hq _ ih =>
    refine .cons (fun p hp => ?_) (ih _)
    obtain ⟨r, hr, hk, -⟩ := mem_warmRecords hp
    rw [hk]
    exact hq r hr

/-- A warm reset keeps every table by rising keys, and leaves no write queued. -/
theorem State.warmReset_keepsTables (s : State) : s.KeepsTables s.warmReset where
  untouched _ := by rintro _ _ w ⟨⟩
  ordered h := by
    obtain ⟨slots, entries, rows, pool, -, -⟩ := s.tearWrite_keepsTables.ordered h
    have tame : ∀ sl : Slot, sl.Tame sl.dropPending.dropDeferrals := fun sl =>
      Slot.Tame.trans (sl.tame_entries _ _) (Slot.dropDeferrals_tame _)
    have mem : ∀ p ∈ s.warmReset.tables.slots, ∃ q ∈ s.tearWrite.slots,
        p.2.entries = q.2.dropPending.dropDeferrals.entries ∧ p.2.rows = q.2.dropPending.dropDeferrals.rows := by
      intro p hp
      obtain ⟨a, ha, rfl⟩ := List.mem_map.1 hp
      obtain ⟨b, hb, -, he, hr⟩ := mem_warmRecords ha
      obtain ⟨q, hq, rfl⟩ := List.mem_map.1 hb
      refine ⟨q, hq, ?_⟩
      unfold thawEnded
      split <;> exact ⟨he, hr⟩
    exact {
      slots := Sparse.rising_map _ (fun _ => rfl) (rising_warmRecords (Sparse.rising_map
        (fun p => (p.1, p.2.dropPending.dropDeferrals)) (fun _ => rfl) slots) _)
      entries := fun p hp => by
        obtain ⟨q, hq, he, -⟩ := mem p hp
        exact he ▸ (tame q.2).entries (entries q hq)
      rows := fun p hp => by
        obtain ⟨q, hq, -, hr⟩ := mem p hp
        exact hr ▸ (tame q.2).rows (rows q hq)
      pool := Sparse.rising_filterMap _ (fun p q hq => by
        obtain ⟨e, -, rfl⟩ := Option.map_eq_some_iff.1 hq
        rfl) pool
      peers := .nil
      contexts := .nil }

/-! ## Requests (R177 to R181) -/

theorem State.request_keepsTables (s : State) (n : Nat) {f : State → State} (h : s.KeepsTables (f s)) :
    s.KeepsTables (s.request n f) :=
  State.whenCan_keepsTables fun _ => h.ite.same (State.clockOut_tables _ _)

theorem State.askLines_tables (s : State) (slot : Byte) (first count : Nat) : (s.askLines slot first count).tables = s.tables := by
  unfold State.askLines
  split
  · rfl
  · split
    · rfl
    · split
      · rfl
      · dsimp only
        split
        · exact State.makeRead_tables _
        · rfl

theorem State.askFreeze_keepsTables (s : State) (slot : Byte) : s.KeepsTables (s.askFreeze slot) := by
  have asked : s.KeepsTables { s with lineTable := { s.lineTable with
      requests := s.lineTable.requests ++ [QuietRequest.freeze slot.toNat] } } := .of_tables rfl
  have answered : ∀ r, s.KeepsTables (s.ack 0x03 r) := fun _ => .of_tables rfl
  exact (answered _).iteElse ((answered _).iteElse
    (((asked.same (State.makeDueReads_tables _)).trans (State.carryOutFreeze_keepsTables _ _)).iteElse asked))

theorem State.askThaw_keepsTables (s : State) (slot : Byte) : s.KeepsTables (s.askThaw slot) := by
  have answered : ∀ r, s.KeepsTables (s.ack 0x04 r) := fun _ => .of_tables rfl
  have thawing := s.setHold_keepsTables slot.toNat (h := .thawing) (by decide)
  have thawed := s.setHold_keepsTables slot.toNat (h := .none) (by decide)
  exact (answered _).iteElse ((answered _).iteElse (Tables.Keep.iteElse
    ((Tables.Keep.same thawing (State.respond_tables _ _)).trans (State.takeArrival_keepsTables _ _))
    (Tables.Keep.same thawed rfl)))

theorem State.askDiscard_keepsTables (s : State) (slot : Byte) : s.KeepsTables (s.askDiscard slot) := by
  have answered : ∀ r, s.KeepsTables (s.ack 0x05 r) := fun _ => .of_tables rfl
  exact (answered _).iteElse ((answered _).iteElse ((answered _).iteElse
    ((s.releaseSlot_keepsTables _).same (State.respond_tables _ _))))

theorem State.answerEvent_tables (s : State) (b : Byte) (e : Option Event) (x : EventAnswer) :
    (s.answerEvent b e x).tables = s.tables := by
  cases e <;> rfl

theorem State.askMask_tables (s : State) (mask : Byte) : (s.askMask mask).tables = s.tables := by
  unfold State.askMask; split <;> rfl

theorem State.askPromote_tables (s : State) (a b : Byte) : (s.askPromote a b).tables = s.tables := by
  unfold State.askPromote; split <;> rfl

/-! ## The timers (chapters 4, 5, 7) -/

theorem State.retireWhere_keepsTables (s : State) (p : FetchEntry → Bool) (counted : Bool) :
    s.KeepsTables (s.retireWhere p counted) := s.retireAll_keepsTables counted _

theorem State.losePeer_keepsTables (s : State) (p : Station) (d : Nat) : s.KeepsTables (s.losePeer p d) := by
  unfold State.losePeer
  have reached : s.KeepsTables (s.reach d) := .of_tables rfl
  have lost := ((reached.trans (State.setRosterEntry_keepsTables _ p { (s.reach d).rosterEntry p with
    state := .lost, lossDeadline := none })).same (State.post_tables _ .peerLost p.val)).trans (State.peerLost_keepsTables _ p)
  have retired := lost.trans (State.retireWhere_keepsTables _ (fun e => e.target == p) true)
  dsimp only
  split
  · exact (retired.trans (State.setContext_keepsTables _ _ _)).iteElse retired
  · exact retired

theorem State.queueHail_tables (s : State) (d : Nat) : (s.queueHail d).tables = s.tables := rfl

/-! ## Every command, every step -/

/-- Where an outcome is a next state, that state keeps the tables. -/
def State.KeepsTablesIn (s : State) (o : Host.Outcome State Fault Refusal) : Prop := ∀ t, o = .next t → s.KeepsTables t

theorem Tables.Keep.next (h : s.KeepsTables t) : s.KeepsTablesIn (.next t) := by
  rintro u hu
  cases hu
  exact h

theorem State.strapStreamRead_keepsTables (s : State) (stream : BitVec 64) : s.KeepsTablesIn (execStrapStreamRead stream s) := by
  have latched : ∀ c, s.KeepsTables { s with config := c } := fun _ => .of_tables rfl
  have released : ∀ c, s.KeepsTables (State.release { s with config := c }) := fun c => (latched c).same (State.release_tables _)
  refine (State.whenCan_keepsTables fun _ => ?_).next
  dsimp only
  split
  · exact latched _
  · exact released _

theorem State.resetAsserted_keepsTables (s : State) : s.KeepsTablesIn (execResetAsserted s) :=
  Tables.Keep.next (Tables.Keep.same (s.warmReset_keepsTables.ite (c := s.running = true)) rfl)

theorem State.resetDeasserted_keepsTables (s : State) : s.KeepsTablesIn (execResetDeasserted s) := by
  have lowered : s.KeepsTables { s with config := { s.config with resetPin := false } } := .of_tables rfl
  exact ((lowered.same (State.release_tables _)).iteElse lowered).next

theorem State.audioSample_keepsTables (s : State) (audio : BitVec 16) (quadrature : Int) :
    s.KeepsTablesIn (execAudioSample audio quadrature s) :=
  (State.whenRunning_keepsTables (s.settleReception_keepsTables.settle.ite.trans (State.takeSample_keepsTables _ _ _))).next

theorem State.splitClear_keepsTables (s : State) : s.KeepsTablesIn (execSplitClear s) := by
  refine (State.whenRunning_keepsTables ?_).next
  split
  · exact (((State.KeepsTables.of_tables s.makeDueReads_tables).trans (State.carryOutSplit_keepsTables _ _)).trans
      (State.takeArrival_keepsTables _ _)).settle
  · exact .refl s

theorem State.freezeCarriedOut_keepsTables (s : State) (c : Nat) : s.KeepsTablesIn (execFreezeCarriedOut c s) :=
  (State.whenCan_keepsTables fun _ => ((State.KeepsTables.of_tables s.makeDueReads_tables).trans
    (State.carryOutFreeze_keepsTables _ c)).settle).next

theorem State.compositeWriteComplete_keepsTables (s : State) : s.KeepsTablesIn (execCompositeWriteComplete s) := by
  refine (State.whenRunning_keepsTables ?_).next
  split
  · exact (State.KeepsTables.refl s).iteElse ((State.KeepsTables.of_tables s.makeDueReads_tables).trans
      (State.completeComposite_keepsTables _ _)).settle
  · exact .refl s

theorem State.poolWriteComplete_keepsTables (s : State) : s.KeepsTablesIn (execPoolWriteComplete s) := by
  refine (State.whenRunning_keepsTables ?_).next
  split
  · exact ((State.KeepsTables.of_tables s.makeDueReads_tables).trans (State.completePool_keepsTables _ _)).settle.ite
  · exact .refl s

theorem State.candidateTaken_keepsTables (s : State) : s.KeepsTablesIn (execCandidateTaken s) :=
  (State.whenCan_keepsTables fun _ => (s.takeDueSteps_keepsTables.trans (State.takeNext_keepsTables _)).settle).next

theorem State.makeSnapshot_tables (s : State) (i : Nat) : (s.makeSnapshot i).tables = s.tables := State.formSegments_tables _

theorem State.bodySnapshot_keepsTables (s : State) (i : Nat) : s.KeepsTablesIn (execBodySnapshot i s) := by
  have made := State.KeepsTables.of_tables (s.makeSnapshot_tables i)
  exact (State.whenCan_keepsTables fun _ => made.settle).next

theorem State.lossTimerExpiry_keepsTables (s : State) (p : Station) : s.KeepsTablesIn (execLossTimerExpiry p s) := by
  refine (State.whenRunning_keepsTables ?_).next
  split
  · exact (s.losePeer_keepsTables _ _).settle
  · exact .refl s

theorem State.listenTimerExpiry_keepsTables (s : State) : s.KeepsTablesIn (execListenTimerExpiry s) := by
  refine (State.whenRunning_keepsTables ?_).next
  split
  · have ended : ∀ d, s.KeepsTables (s.endListen d) := fun _ => .of_tables rfl
    exact (ended _).settle
  · exact .refl s

theorem State.hailTimerExpiry_keepsTables (s : State) : s.KeepsTablesIn (execHailTimerExpiry s) := by
  refine (State.whenRunning_keepsTables ?_).next
  split
  · have queued : ∀ d, s.KeepsTables ((s.reach d).queueHail d) := fun _ => .of_tables rfl
    exact (queued _).settle
  · exact .refl s

theorem State.quietTimerExpiry_keepsTables (s : State) (c : Nat) : s.KeepsTablesIn (execQuietTimerExpiry c s) := by
  refine (State.whenRunning_keepsTables ?_).next
  split
  · next d _ =>
    have reached : s.KeepsTables (s.reach d) := .of_tables rfl
    exact ((reached.trans (State.modifyRecord_keepsTables _ c)).trans (State.closingTest_keepsTables _ c)).settle
  · exact .refl s

theorem State.batchTimerExpiry_keepsTables (s : State) : s.KeepsTablesIn (execBatchTimerExpiry s) := by
  refine (State.whenRunning_keepsTables ?_).next
  split
  · next d _ => exact Tables.Keep.settle (t := (s.reach d).queueBatch) (.of_tables (State.queueBatch_tables _))
  · exact .refl s

theorem State.fetchFirstDeadline_keepsTables (s : State) (p : Station) : s.KeepsTablesIn (execFetchFirstDeadline p s) := by
  have passes : ∀ d e, s.KeepsTables ((s.reach d).firstDeadlinePasses e) := fun d e => by
    have reached : s.KeepsTables (s.reach d) := .of_tables rfl
    exact (reached.same (State.updateFetch_tables _ _ _)).iteElse (reached.trans (State.retireAll_keepsTables _ _ _))
  refine (State.whenRunning_keepsTables ?_).next
  split
  · split
    · exact (passes _ _).settle
    · exact .refl s
  · exact .refl s

theorem State.fetchTimeout_keepsTables (s : State) (p : Station) : s.KeepsTablesIn (execFetchTimeout p s) := by
  have timedOut : ∀ d e, s.KeepsTables ((s.reach d).timeOut e) := fun d e => by
    have reached : s.KeepsTables (s.reach d) := .of_tables rfl
    exact reached.trans (State.retireAll_keepsTables _ _ _)
  refine (State.whenRunning_keepsTables ?_).next
  split
  · split
    · exact (timedOut _ _).settle
    · exact (timedOut _ _).settle
    · exact .refl s
  · exact .refl s

theorem State.deferralExpiry_keepsTables (s : State) (c n : Nat) : s.KeepsTablesIn (execDeferralExpiry c n s) := by
  refine (State.whenRunning_keepsTables ?_).next
  split
  · next d _ =>
    have reached : s.KeepsTables (s.reach d) := .of_tables rfl
    exact (reached.trans (State.modifyRow_keepsTables _ _ _ _)).settle
  · exact .refl s

theorem State.fallbackTimerExpiry_keepsTables (s : State) (k : Key) (n : Nat) : s.KeepsTablesIn (execFallbackTimerExpiry k n s) := by
  refine (State.whenRunning_keepsTables ?_).next
  split
  · next x _ => exact Tables.Keep.settle (t := s.fallbackExpires x) (.of_tables (State.serve_tables _ _ _ _))
  · exact .refl s

theorem State.badRequest_keepsTables (s : State) (message : List Byte) : s.KeepsTablesIn (execBadRequest message s) := by
  cases message with
  | nil => exact (State.whenCan_keepsTables fun _ => .of_tables rfl).next
  | cons kind l => exact (State.whenCan_keepsTables fun _ =>
      s.request_keepsTables (f := fun s => s.refuseForm kind) _ (.of_tables rfl)).next

theorem State.readTransfer_keepsTables (s : State) (clocking : Clocking) : s.KeepsTablesIn (execReadTransfer clocking s) := by
  have taken : s.KeepsTables { s with port := { s.port with queue := s.port.queue.drop 1 } } := .of_tables rfl
  refine (State.whenCan_keepsTables fun _ => ?_).next
  split
  · exact taken.ite.same (State.clockOut_tables _ _)
  · exact .of_tables rfl
  · exact .refl s
  · exact .refl s

theorem State.arbitrationLost_keepsTables (s : State) (bit : Fin 8) : s.KeepsTablesIn (execArbitrationLost bit s) := by
  have lost : ∀ d, s.KeepsTables { s.reach d with link := s.link.lose } := fun _ => .of_tables rfl
  exact (State.whenCan_keepsTables fun _ => (lost _).settle).next

theorem State.ownNumberFrame_keepsTables (s : State) (frame : List Byte) : s.KeepsTablesIn (execOwnNumberFrame frame s) := by
  have arrived : s.KeepsTables (s.arrive frame) := .of_tables rfl
  exact (State.whenCan_keepsTables fun _ => arrived.trans (State.conflict_keepsTables _)).next

/-- Every command keeps the tables. -/
theorem exec_keepsTables (c : Instr) (s : State) : s.KeepsTablesIn (exec c s) :=
  match c with
  | .powerGoodRising => (State.whenCan_keepsTables fun _ => s.coldValues_keepsTables _).next
  | .powerGoodFalling => (State.KeepsTables.of_tables s.cutWrite_tables |>.trans (State.coldValues_keepsTables _ .off)).next
  | .strapStreamRead stream => s.strapStreamRead_keepsTables stream
  | .resetAsserted => s.resetAsserted_keepsTables
  | .resetDeasserted => s.resetDeasserted_keepsTables
  | .audioSample audio quadrature => s.audioSample_keepsTables audio quadrature
  | .startToneConfirmed => (State.whenCan_keepsTables fun _ => s.startConfirmed_keepsTables.settle).next
  | .stopToneConfirmed => (State.whenCan_keepsTables fun _ => s.stopConfirmed_keepsTables.settle).next
  | .endOfStartTone => (State.whenCan_keepsTables fun _ => s.startToneEnds_keepsTables).next
  | .searchPeriodEnd => (State.whenCan_keepsTables fun _ => s.searchEnds_keepsTables.settle).next
  | .phasingPeriodEnd => (State.whenCan_keepsTables fun _ => s.phasingEnds_keepsTables.settle).next
  | .imageLineEnd => (State.whenCan_keepsTables fun _ => s.imageLineEnds_keepsTables.settle).next
  | .splitClear => s.splitClear_keepsTables
  | .freezeCarriedOut slot => s.freezeCarriedOut_keepsTables slot
  | .compositeWriteComplete => s.compositeWriteComplete_keepsTables
  | .poolWriteComplete => s.poolWriteComplete_keepsTables
  | .candidateTaken => s.candidateTaken_keepsTables
  | .readLinesRead => (State.whenCan_keepsTables fun _ => .of_tables s.makeRead_tables).next
  | .bodySnapshot place => s.bodySnapshot_keepsTables place
  | .tallyRequeue => (State.whenCan_keepsTables fun _ => (State.KeepsTables.of_tables s.queueBatch_tables).settle).next
  | .transmitStart => (State.whenCan_keepsTables fun _ => .of_tables rfl).next
  | .arbitrationLost bit => s.arbitrationLost_keepsTables bit
  | .collisionFault => (State.whenCan_keepsTables fun _ => s.faultAttempt_keepsTables.settle).next
  | .frameSent => (State.whenCan_keepsTables fun _ => s.completeAttempt_keepsTables.settle).next
  | .receiveFrameDiscarded _ _ => (State.whenCan_keepsTables fun _ => .of_tables rfl).next
  | .ownNumberFrame frame => s.ownNumberFrame_keepsTables frame
  | .hailReceived frame => (s.receive_keepsTables frame _ _ State.takeHail_keepsTables).next
  | .openReceived frame => (s.receive_keepsTables frame _ _ fun o st x => x.openHeard_keepsTables st o).next
  | .closeReceived frame => (s.receive_keepsTables frame _ _ fun f st x => x.closeHeard_keepsTables st f).next
  | .tallyReceived frame => (s.receive_keepsTables frame _ _ State.takeTally_keepsTables).next
  | .askReceived frame => (s.receive_keepsTables frame _ _ State.takeAsk_keepsTables).next
  | .declineReceived frame => (s.receive_keepsTables frame _ _ State.takeDecline_keepsTables).next
  | .bodySegmentReceived frame => (s.receive_keepsTables frame _ _ State.takeSegment_keepsTables).next
  | .lossTimerExpiry peer => s.lossTimerExpiry_keepsTables peer
  | .listenTimerExpiry => s.listenTimerExpiry_keepsTables
  | .hailTimerExpiry => s.hailTimerExpiry_keepsTables
  | .quietTimerExpiry slot => s.quietTimerExpiry_keepsTables slot
  | .batchTimerExpiry => s.batchTimerExpiry_keepsTables
  | .fetchFirstDeadline target => s.fetchFirstDeadline_keepsTables target
  | .fetchTimeout target => s.fetchTimeout_keepsTables target
  | .deferralExpiry slot line => s.deferralExpiry_keepsTables slot line
  | .fallbackTimerExpiry key line => s.fallbackTimerExpiry_keepsTables key line
  | .readLines slot first count => (s.request_keepsTables _ (.of_tables (s.askLines_tables slot first.toNat count.toNat))).next
  | .readDirectory => (s.request_keepsTables _ (.of_tables rfl)).next
  | .freeze slot => (s.request_keepsTables _ (s.askFreeze_keepsTables slot).settle).next
  | .thaw slot => (s.request_keepsTables _ (s.askThaw_keepsTables slot).settle).next
  | .discard slot => (s.request_keepsTables _ (s.askDiscard_keepsTables slot).settle).next
  | .take _ => (s.request_keepsTables _ (.of_tables (s.answerEvent_tables _ _ _))).next
  | .poll => (s.request_keepsTables _ (.of_tables (s.answerEvent_tables _ _ _))).next
  | .setMask mask => (s.request_keepsTables _ (.of_tables (s.askMask_tables mask))).next
  | .promote first second => (s.request_keepsTables _ (.of_tables (s.askPromote_tables first second))).next
  | .status => (s.request_keepsTables _ (.of_tables rfl)).next
  | .readStraps => (s.request_keepsTables _ (.of_tables rfl)).next
  | .restart => (s.request_keepsTables _ (s.warmReset_keepsTables.same (State.release_tables _))).next
  | .badRequest message => s.badRequest_keepsTables message
  | .readTransfer clocking => s.readTransfer_keepsTables clocking
  | .lineIdle => (State.whenCan_keepsTables fun _ => .of_tables rfl).next

/-- Every step keeps the tables: a command's, and the passing of a microsecond. -/
theorem step_keepsTables (s : State) : s.KeepsTablesIn (step s) := by
  unfold step
  split
  · exact (State.KeepsTables.of_tables rfl).next
  · next c rest _ =>
    intro t h
    have left : s.KeepsTables (s.withPending rest) := .of_tables rfl
    exact left.trans (exec_keepsTables c _ t h)

/-- Settles O7: no step queues a write into a FROZEN composite, and none freezes a chart whose composite has a write queued. -/
theorem frozenStaysUntouched : Obligations.FrozenStaysUntouched := fun s t hs h =>
  t.frozenUntouched_iff.2 ((step_keepsTables s t h).untouched (s.frozenUntouched_iff.1 hs))

/-- Settles O8, by one lemma for each operation on a table: each keeps its keys rising. -/
theorem tablesStayOrdered : Obligations.TablesStayOrdered := fun s t hs h =>
  t.tablesOrdered_iff.2 ((step_keepsTables s t h).ordered (s.tablesOrdered_iff.1 hs))

end Sys2Proof.Machine
end

section
/-!
PROOF. The port's requests and the reads: what a request that is taken comes to, and the statements ReportsChangeNothing,
ReadLinesAnswersLines and BodySnapshotIsMade.
-/
namespace Sys2Proof.Machine

variable {s t : State}

/-! ## When a command is taken -/

theorem State.whenRunning_run (h : s.config.state = .run) (f : State → State) : s.whenRunning f = f s :=
  if_pos (by simp [State.running, h])

theorem State.whenCan_true {b : Bool} (h : b = true) (f : State → State) : s.whenCan b f = f s := if_pos h

theorem State.running_eq_true_iff (s : State) : s.running = true ↔ s.config.state = .run := by simp [State.running]

theorem State.run_of_portReady (h : s.portReady = true) : s.config.state = .run := by
  simp only [State.portReady, Bool.and_eq_true] at h
  exact s.running_eq_true_iff.1 h.1

/-- A request is taken while the port reads READY (R177). -/
theorem State.request_ready (h : s.portReady = true) (n : Nat) (f : State → State) :
    s.request n f = (f s).clockOut (0x01 :: List.replicate n 0) := by
  have on : (s.config.state != .off) = true := by simp [State.run_of_portReady h]
  rw [State.request, State.whenCan_true on, if_pos h, State.portStatus, if_pos h]

/-! ## The reports (R97, R166, R179) -/

theorem State.rosterPlaces_get (s : State) (i : Station) :
    s.rosterPlaces[i.val]? = some (if i = s.self then .self else .peer (s.rosterEntry i)) := by
  simp [State.rosterPlaces, i.isLt]

theorem State.directoryReport_get (s : State) {c : Nat} (h : c < s.slotCount) : s.directoryReport[c]? = some (s.slotReport c) := by
  simp [State.directoryReport, h]

/-- Settles O58: each of the three joins one report to the queue. -/
theorem reportsChangeNothing : Obligations.ReportsChangeNothing := by
  intro s ready
  have answered (r : Response) : s.request 1 (fun s => s.respond r) =
      { s with port := { s.port with queue := s.port.queue ++ [r], clockedOut := [0x01, 0] } } := s.request_ready ready 1 _
  refine ⟨⟨s.directoryReport, congrArg _ (answered _), by simp [State.directoryReport], fun c hc => s.directoryReport_get hc⟩,
    ⟨s.statusReport, congrArg _ (answered _), ?_, rfl, rfl, rfl, rfl, rfl, rfl, rfl, rfl, rfl, rfl, ?_, s.rosterPlaces_get⟩,
    congrArg _ (answered _)⟩
  · show s.reportedState = _
    unfold State.reportedState
    cases s.roster.state <;> rfl
  · simp [State.statusReport, State.rosterPlaces]

/-! ## READ_LINES (R33, R34, R180) -/

theorem State.shadow?_isSome (s : State) (c n : Nat) :
    (s.shadow? c n).isSome = s.pool.any (fun p => p.2.kind = .shadow && p.2.slot = c && p.2.line = n) := by
  rw [Bool.eq_iff_iff]
  simp [State.shadow?]

theorem State.badSlot_iff (s : State) (slot : Byte) :
    s.badSlot slot = true ↔ s.slotCount ≤ slot.toNat ∨ s.slot? slot.toNat = none := by
  simp [State.badSlot]

theorem servedCount_eq {first : Nat} (h : first ≤ 2047) (count : Nat) :
    servedCount first count = min (max 1 (min count 16)) (2048 - first) := by
  simp only [servedCount, Config.lastLine]
  split <;> omega

/-- A read of a slot waits for no write (R33). -/
theorem State.readDue_iff (s : State) (c asked : Nat) :
    s.readDue c asked = true ↔ ∀ w ∈ s.lineTable.queue, w.slot = c → asked ≤ w.order := by
  simp only [State.readDue, List.all_eq_true, Bool.or_eq_true, bne_iff_ne, decide_eq_true_eq]
  exact forall₂_congr fun w _ => by by_cases h : w.slot = c <;> simp [h]

/-- A write of the slot is queued before the read that is asked now, or the read is due (R33). -/
theorem State.readDue_now (s : State) (c asked : Nat) :
    s.readDue c asked = !(s.lineTable.queue.any (fun w => w.slot = c && w.order < asked)) := by
  rw [Bool.eq_iff_iff, State.readDue_iff]
  simp

theorem State.lineItem_eq (s : State) (c n : Nat) : s.lineItem c n =
    { line := n, grade := (s.entry c n).committed
      held := s.pool.any (fun p => p.2.kind = .shadow && p.2.slot = c && p.2.line = n)
      source := (s.entry c n).source, origin := (s.entry c n).origin, pixels := s.readLine c n } := by
  simp only [State.lineItem, State.shadow?_isSome]

/-- The pending read is answered by its lines (R34, R180). -/
theorem State.makeRead_pending {r : PendingRead} (h : s.port.read = some r) :
    s.makeRead = { s with port := { s.port with
      read := none
      queue := s.port.queue ++ [.lines .ok (BitVec.ofNat 8 r.slot) r.first ((List.range r.count).map (fun i =>
        s.lineItem r.slot (r.first + i)))] } } := by
  unfold State.makeRead
  rw [h]
  rfl

/-- Settles O34: the refusals in their order, the read that waits, and the lines of the one that does not. -/
theorem readLinesAnswersLines : Obligations.ReadLinesAnswersLines := by
  intro s slot first count c n item answered
  have items : (List.range n).map (fun i => s.lineItem c (first.toNat + i)) = (List.range n).map item :=
    List.map_congr_left fun i _ => s.lineItem_eq c _
  have made (x : State) (asked : Nat) (h : x = { s with port := { s.port with
      read := some { slot := c, first := first.toNat, count := n, asked := asked } } }) : x.makeRead =
      { s with port := { s.port with
        read := none, queue := s.port.queue ++ [.lines .ok slot first.toNat ((List.range n).map item)] } } := by
    subst h
    rw [State.makeRead_pending rfl, ← items, BitVec.ofNat_toNat, BitVec.setWidth_eq]
    rfl
  refine ⟨fun ready => ?_, fun asked run pending due => ?_⟩
  · refine congrArg Host.Outcome.next ((s.request_ready ready 5 _).trans ?_)
    unfold State.askLines
    by_cases high : 2047 < first.toNat
    · rw [if_pos high, if_pos high]
      rfl
    rw [if_neg high, if_neg high]
    by_cases busy : s.port.read.isSome = true
    · rw [if_pos busy, if_pos busy]
      rfl
    rw [if_neg busy, if_neg busy]
    have free : s.port.read = none := by simpa using busy
    by_cases bad : s.badSlot slot = true
    · rw [if_pos bad, if_pos (s.badSlot_iff slot |>.1 bad), ← free]
      rfl
    rw [if_neg bad, if_neg (fun h => bad (s.badSlot_iff slot |>.2 h))]
    have served : servedCount first.toNat count.toNat = n := servedCount_eq (by omega) _
    rw [served]
    have waits : State.linesDue { s with port := { s.port with
        read := some { slot := c, first := first.toNat, count := n, asked := s.lineTable.nextOrder } } } =
        !(s.lineTable.queue.any (fun w => w.slot = c && w.order < s.lineTable.nextOrder)) := s.readDue_now c _
    dsimp only
    cases older : s.lineTable.queue.any (fun w => w.slot = c && w.order < s.lineTable.nextOrder) with
    | true =>
      rw [older] at waits
      rw [if_neg (by rw [waits]; decide), if_pos rfl]
      simp only [State.clockOut, answered, List.append_nil]
      rfl
    | false =>
      rw [older] at waits
      rw [if_pos (waits.trans (by decide)), if_neg (by decide), made _ _ rfl]
      rfl
  · have linesDue : s.linesDue = true := by
      rw [State.linesDue, pending]
      exact (s.readDue_iff c asked).2 due
    have can : (s.running && s.linesDue) = true := by simp [linesDue, State.running, run]
    refine congrArg Host.Outcome.next ((State.whenCan_true can _).trans (made s asked ?_))
    rw [← pending]

end Sys2Proof.Machine
end

section
/-!
PROOF. The grays in their bytes, the segments of a body, and the statement BodySnapshotIsMade.
-/
namespace Sys2Proof.Machine

variable {s t : State}

/-! ## Grays, two to a byte (R163, R183) -/

theorem length_packGrays : ∀ {l : Pixels} {n : Nat}, l.length = 2 * n → (packGrays l).length = n
  | [], n, h => by simp at h; simp [packGrays, ← h]
  | [_], n, h => by simp at h; omega
  | a :: b :: t, n, h => by
    simp only [List.length_cons] at h
    simp only [packGrays, List.length_cons]
    rw [length_packGrays (n := n - 1) (by omega)]
    omega

theorem grays_of_byte (a b : Gray) : (a ++ b).extractLsb' 4 4 = a ∧ (a ++ b).extractLsb' 0 4 = b :=
  ⟨by revert a b; decide, by revert a b; decide⟩

/-- Grays that fill whole bytes read back from them. -/
theorem unpackGrays_packGrays : ∀ {l : Pixels} {n : Nat}, l.length = 2 * n → unpackGrays (packGrays l) = l
  | [], _, _ => rfl
  | [_], n, h => by simp at h; omega
  | a :: b :: t, n, h => by
    simp only [List.length_cons] at h
    obtain ⟨ha, hb⟩ := grays_of_byte a b
    rw [packGrays, unpackGrays, ha, hb, unpackGrays_packGrays (n := n - 1) (by omega)]

theorem unpackGrays_append : ∀ a b : List Byte, unpackGrays (a ++ b) = unpackGrays a ++ unpackGrays b
  | [], _ => rfl
  | x :: a, b => by simp [unpackGrays, unpackGrays_append a b]

theorem unpackGrays_flatten : ∀ l : List (List Byte), unpackGrays l.flatten = l.flatMap unpackGrays
  | [] => rfl
  | a :: l => by rw [List.flatten_cons, unpackGrays_append, unpackGrays_flatten l, List.flatMap_cons]

/-! ## The segments of a body (R51, R59) -/

@[simp] theorem length_chunks64 : ∀ (n : Nat) (l : List Byte), (chunks64 n l).length = n
  | 0, _ => rfl
  | n + 1, l => by simp [chunks64, length_chunks64 n]

theorem flatten_chunks64 : ∀ {n : Nat} {l : List Byte}, l.length = 64 * n → (chunks64 n l).flatten = l
  | 0, l, h => by simp at h; simp [chunks64, h]
  | n + 1, l, h => by
    rw [chunks64, List.flatten_cons, flatten_chunks64 (by simp; omega), List.take_append_drop]

theorem length_of_mem_chunks64 : ∀ {n : Nat} {l : List Byte}, l.length = 64 * n → ∀ c ∈ chunks64 n l, c.length = 64
  | 0, _, _, c, hc => by cases hc
  | n + 1, l, h, c, hc => by
    rcases List.mem_cons.1 hc with rfl | hc
    · simp; omega
    · exact length_of_mem_chunks64 (n := n) (by simp; omega) c hc

theorem widthOfCode_eq (c : Code) : widthOfCode c = 128 * segmentCountOf c := by
  unfold segmentCountOf widthOfCode
  split
  · rfl
  · split <;> rfl

@[simp] theorem length_bodySegments (b : SendBody) (snap : Snapshot) (w : Code) :
    (bodySegments b snap w).length = segmentCountOf w := by simp [bodySegments]

theorem bodySegments_get (b : SendBody) (snap : Snapshot) (w : Code) (i : Nat) (h : i < (bodySegments b snap w).length) :
    (bodySegments b snap w)[i] =
      { key := b.key, line := b.line, number := i, count := segmentCountOf w, endMark := i + 1 = segmentCountOf w
        header := if i = 0 then
            some { grade := BitVec.ofNat 8 snap.grade, source := snap.source.getD (Config.absentSource b.line), width := w
                   requester := b.requester }
          else none
        pixels := (chunks64 (segmentCountOf w) (packGrays snap.pixels))[i]'(by simpa using h) } := by
  simp [bodySegments]

/-- The bytes of a body's snapshot. -/
theorem length_snapshotBytes {snap : Snapshot} {w : Code} (h : snap.pixels.length = widthOfCode w) :
    (packGrays snap.pixels).length = 64 * segmentCountOf w :=
  length_packGrays (by rw [h, widthOfCode_eq]; omega)

/-- Together the segments carry the snapshot (R51). -/
theorem bodySegments_carry (b : SendBody) {snap : Snapshot} {w : Code} (h : snap.pixels.length = widthOfCode w) :
    (bodySegments b snap w).flatMap (fun g => unpackGrays g.pixels) = snap.pixels := by
  have bytes : (bodySegments b snap w).map Segment.pixels = chunks64 (segmentCountOf w) (packGrays snap.pixels) := by
    rw [bodySegments, List.map_map]
    exact List.zipIdx_map_fst 0 _
  calc (bodySegments b snap w).flatMap (fun g => unpackGrays g.pixels)
    _ = ((bodySegments b snap w).map Segment.pixels).flatMap unpackGrays := by rw [List.flatMap_map]
    _ = unpackGrays (packGrays snap.pixels) := by
      rw [bytes, ← unpackGrays_flatten, flatten_chunks64 (length_snapshotBytes h)]
    _ = snap.pixels := unpackGrays_packGrays (n := 64 * segmentCountOf w) (by rw [h, widthOfCode_eq]; omega)

/-! ## The snapshot (R33, R127, R153) -/

theorem State.snapshotDue_iff (s : State) (b : SendBody) :
    s.snapshotDue b = true ↔ b.snapshot = none ∧ ∀ w ∈ s.lineTable.queue, w.slot = b.slot → b.asked ≤ w.order := by
  rw [State.snapshotDue, Bool.and_eq_true, State.readDue_iff, Option.isNone_iff_eq_none]

/-- The segments of the head body are formed once its snapshot is made (R59). -/
theorem State.formSegments_head {b : SendBody} {l : List SendBody} {snap : Snapshot} (h : s.fetch.bodies = b :: l)
    (hs : b.snapshot = some snap) (hf : b.formed = false) :
    s.formSegments = { s with
      fetch := { s.fetch with bodies := { b with formed := true } :: l }
      link := { s.link with segments := s.link.segments ++
        (bodySegments b snap s.config.settings.width).map (fun g => QueuedFrame.fresh (.body g)) } } := by
  unfold State.formSegments
  simp only [h, hs, hf]

/-- Nothing is formed while the head body's snapshot is not made, or once its segments are formed. -/
theorem State.formSegments_of_head {b : SendBody} {l : List SendBody} (h : s.fetch.bodies = b :: l)
    (hb : b.snapshot = none ∨ b.formed = true) : s.formSegments = s := by
  unfold State.formSegments
  rw [h]
  split
  · next x l' hx =>
    cases hx
    split
    · next hs hf => rcases hb with hb | hb <;> simp_all
    · rfl
  · rfl

theorem State.exec_bodySnapshot {i : Nat} {b : SendBody} (run : s.config.state = .run) (hb : s.fetch.bodies[i]? = some b)
    (due : s.snapshotDue b = true) : exec (.bodySnapshot i) s = .next (s.makeSnapshot i).settle := by
  refine congrArg Host.Outcome.next (State.whenCan_true ?_ _)
  rw [hb, Bool.and_eq_true]
  exact ⟨s.running_eq_true_iff.2 run, due⟩

/-- The snapshot is the composite's where no SHADOW entry of a held chart is written (R127). -/
theorem State.snapshotOf_composite {c n : Nat} (h : s.hold c = .none ∨ s.shadow? c n = none) : s.snapshotOf c n =
    { grade := (s.entry c n).committed, source := (s.entry c n).source, pixels := s.readLine c n } := by
  unfold State.snapshotOf
  rcases h with h | h
  · rw [if_pos h]
  · rw [h]
    split <;> rfl

/-- The snapshot of a held line with a SHADOW entry is the entry's once it is written (R153). -/
theorem State.snapshotOf_shadow {c n m : Nat} {e : PoolEntry} (h : s.hold c ≠ .none) (he : s.shadow? c n = some (m, e)) :
    s.snapshotOf c n = match e.written with
      | some g => { grade := g, source := e.source, pixels := s.readPool m }
      | none => { grade := (s.entry c n).committed, source := (s.entry c n).source, pixels := s.readLine c n } := by
  unfold State.snapshotOf
  rw [if_neg h, he] <;> rfl

/-- Settles O35: the snapshot is `snapshotOf`, and the segments are its bytes in runs of 64. -/
theorem bodySnapshotIsMade : Obligations.BodySnapshotIsMade := by
  constructor
  · intro s b run unmade unformed due composite
    have exec (i : Nat) (h : s.fetch.bodies[i]? = some b) : exec (.bodySnapshot i) s = .next (s.makeSnapshot i).settle :=
      State.exec_bodySnapshot run h (s.snapshotDue_iff b |>.2 ⟨unmade, due⟩)
    refine ⟨s.snapshotOf b.slot b.line, State.snapshotOf_composite, fun n e => State.snapshotOf_shadow, ?_, ?_⟩
    · intro rest bodies
      rw [exec 0 (by rw [bodies]; rfl), State.makeSnapshot, bodies]
      exact congrArg (fun x => Host.Outcome.next (State.settle x)) (State.formSegments_head
        (b := { b with snapshot := some (s.snapshotOf b.slot b.line) }) rfl rfl unformed)
    · intro head rest bodies formed
      rw [exec 1 (by rw [bodies]; rfl), State.makeSnapshot, bodies]
      exact congrArg (fun x => Host.Outcome.next (State.settle x)) (State.formSegments_of_head rfl formed)
  · intro b snap width hw
    refine ⟨length_bodySegments b snap width, bodySegments_carry b hw, fun i h => ?_⟩
    rw [bodySegments_get b snap width i h]
    refine ⟨rfl, rfl, rfl, (length_bodySegments b snap width).symm, ?_, ?_, rfl⟩
    · exact length_of_mem_chunks64 (length_snapshotBytes hw) _ (List.getElem_mem _)
    · simp

end Sys2Proof.Machine
end

section
/-!
PROOF. The completion of a write: what reads back from chart memory, the pool entry it frees, and the statements
PoolWriteCompletes and CompositeWriteCompletes.
-/
namespace Sys2Proof.Machine

variable {s t : State}

/-! ## Chart memory (R163) -/

theorem Memory.read_write (m : List Host.Cell) (a : Nat) (l : List Byte) : Memory.read (Memory.write m a l) a l.length = l :=
  List.ext_getElem (by simp [Memory.read]) fun i _ hi => by
    simpa [Memory.read] using Memory.readByte_write_inside m a l i hi

theorem State.width_eq (s : State) : s.width = 2 * s.lineBytes := by
  unfold State.lineBytes
  rcases s.width_cases with h | h | h <;> rw [h]

/-- A write's content of W grays is written whole. -/
theorem State.writeBytes_content {w : Write} {p : Pixels} (h : w.content = some p) (hp : p.length = s.width) :
    s.writeBytes w = packGrays p := by
  rw [State.writeBytes, h]
  exact List.take_of_length_le (length_packGrays (hp.trans s.width_eq)).le

/-- A line's content of W grays reads back as it was written (R163). -/
theorem unpackGrays_read_write {w : Write} {p : Pixels} (h : w.content = some p) (hp : p.length = s.width) (a : Nat) :
    unpackGrays (Memory.read (Memory.write s.memory a (s.writeBytes w)) a s.lineBytes) = p := by
  have whole := hp.trans s.width_eq
  rw [State.writeBytes_content h hp, ← length_packGrays whole, Memory.read_write, unpackGrays_packGrays whole]

/-! ## Entries freed (R139, R140) -/

theorem State.freeNamed_eq (s : State) (n : Option Nat) : s.freeNamed n = { s with
    pool := match n with
      | some n => Sparse.erase s.pool n
      | none => s.pool
    lineTable := { s.lineTable with
      queue := s.lineTable.queue.map (fun w => if n.any w.intoPool then { w with stale := true } else w)
      store := s.lineTable.store.filter (fun st => n != some st.entry) } } := by
  cases n with
  | some n =>
    have store : s.lineTable.store.filter (fun st => some n != some st.entry) =
        s.lineTable.store.filter (fun st => st.entry != n) :=
      congrArg (fun p => s.lineTable.store.filter p) (funext fun st => by simp [bne, BEq.comm])
    rw [store]
    exact s.freePool_eq n
  | none =>
    have queue : s.lineTable.queue.map (fun w => if (none : Option Nat).any w.intoPool then { w with stale := true } else w) =
        s.lineTable.queue := by simp
    have store : s.lineTable.store.filter (fun st => none != some st.entry) = s.lineTable.store := by
      cases s.lineTable.store <;> rfl
    rw [queue, store]
    rfl

/-! ## The completions (R29, R30) -/

theorem State.writeInProgress_eq {w : Write} {l : List Write} (hs : s.lineTable.started = true)
    (hq : s.lineTable.queue = w :: l) : s.writeInProgress = some w := by
  rw [State.writeInProgress, if_pos hs, hq]
  rfl

/-- POOL_WRITE_COMPLETE with nothing to read is the write's completion. -/
theorem State.exec_poolWriteComplete {w : Write} (run : s.config.state = .run) (hw : s.writeInProgress = some w)
    (reads : s.NoReads) (hk : w.kind = .pool) : exec .poolWriteComplete s = .next (s.completePool w).settle := by
  refine congrArg Host.Outcome.next ((State.whenRunning_run run _).trans ?_)
  simp only [hw, hk, if_pos, s.makeDueReads_of_noReads reads]

/-- COMPOSITE_WRITE_COMPLETE with nothing to read is the write's completion. -/
theorem State.exec_compositeWriteComplete {w : Write} (run : s.config.state = .run) (hw : s.writeInProgress = some w)
    (reads : s.NoReads) (hk : w.kind ≠ .pool) : exec .compositeWriteComplete s = .next (s.completeComposite w).settle := by
  refine congrArg Host.Outcome.next ((State.whenRunning_run run _).trans ?_)
  simp only [hw, if_neg hk, s.makeDueReads_of_noReads reads]

/-- The write in progress reaches chart memory and leaves the queue. -/
theorem State.popWrite_storeWrite {w : Write} {l : List Write} (hq : s.lineTable.queue = w :: l) :
    s.popWrite.storeWrite w = { s with
      memory := Memory.write s.memory (s.writeAddress w) (s.writeBytes w)
      lineTable := { s.lineTable with queue := l, started := false } } := by
  rw [State.popWrite, hq]
  rfl

/-- Settles O29: the entry takes the write's fields where the write is not stale, and memory changes in it alone. -/
theorem poolWriteCompletes : Obligations.PoolWriteCompletes := by
  intro s w rest run started queue reads kind pool
  have address : s.writeAddress w = s.poolAddress w.target := by rw [State.writeAddress, kind]
  refine ⟨Memory.write s.memory (s.poolAddress w.target) (s.writeBytes w), fun a => Memory.readByte_write_outside _ _ _ _,
    fun p hc hp => unpackGrays_read_write hc hp _, ?_⟩
  rw [State.exec_poolWriteComplete run (State.writeInProgress_eq started queue) reads kind]
  refine congrArg (fun x => Host.Outcome.next (State.settle (State.startNext x))) ?_
  rw [State.popWrite_storeWrite queue, address, State.freeNamed_eq]
  cases hs : w.stale <;> simp only [pool, hs] <;> rfl

theorem State.hasShadow_eq_false_iff (s : State) (c : Nat) :
    s.hasShadow c = false ↔ ∀ p ∈ s.pool, ¬(p.2.kind = .shadow ∧ p.2.slot = c) := by
  simp [State.hasShadow]

theorem State.thawEnd_ends {c : Nat} (h : s.hold c = .thawing) (hs : s.hasShadow c = false) :
    s.thawEnd c = (s.setHold c .none).post .thawDone c := by
  rw [State.thawEnd, if_pos (by simp [h, hs])]

theorem State.thawEnd_of_stays {c : Nat} (h : ¬(s.hold c = .thawing ∧ s.hasShadow c = false)) : s.thawEnd c = s := by
  rw [State.thawEnd, if_neg (by simpa using h)]

/-- Settles O28: the write's fields and the highest line go in together, and the thaw ends where no SHADOW entry is left. -/
theorem compositeWriteCompletes : Obligations.CompositeWriteCompletes := by
  intro s w rest run started queue reads kind lineTable written pool thawed slots improved
  have address : s.writeAddress w = s.lineAddress w.slot w.target := by
    rw [State.writeAddress]
    cases h : w.kind <;> simp_all
  refine ⟨Memory.write s.memory (s.lineAddress w.slot w.target) (s.writeBytes w),
    fun a => Memory.readByte_write_outside _ _ _ _, fun p hc hp => unpackGrays_read_write hc hp _, ?_⟩
  rw [State.exec_compositeWriteComplete run (State.writeInProgress_eq started queue) reads kind]
  have before : s.completeComposite w = ((State.thawEnd { s with
      memory := Memory.write s.memory (s.lineAddress w.slot w.target) (s.writeBytes w)
      slots := slots ChartRecord.hold, pool := pool, lineTable := lineTable
      attention := { s.attention with events := improved } } w.slot).startNext) := by
    have entered : Sparse.modify (Sparse.modify s.slots w.slot (fun sl => sl.setEntry w.target (written (sl.entry w.target))))
        w.slot (fun sl => { sl with record := sl.record.raise w.target }) = slots ChartRecord.hold :=
      Sparse.modify_modify s.slots w.slot _ _
    unfold State.completeComposite
    dsimp only
    rw [State.popWrite_storeWrite queue, address, State.freeNamed_eq, ← entered]
    rfl
  have held : ∀ b, State.hold { s with
      memory := Memory.write s.memory (s.lineAddress w.slot w.target) (s.writeBytes w)
      slots := slots ChartRecord.hold, pool := pool, lineTable := lineTable
      attention := { s.attention with events := improved } } b = s.hold b := 
    State.hold_modify s.slots w.slot (fun sl => { sl.setEntry w.target (written (sl.entry w.target)) with
      record := sl.record.raise w.target }) (fun _ => rfl) rfl rfl
  rw [before]
  constructor
  · intro stays
    rw [State.thawEnd_of_stays fun ⟨h, hs⟩ => stays ⟨(held _).symm.trans h, (State.hasShadow_eq_false_iff _ _).1 hs⟩]
  · intro ends
    rw [State.thawEnd_ends ((held _).trans ends.1) ((State.hasShadow_eq_false_iff _ _).2 ends.2)]
    have thawn : Sparse.modify (slots ChartRecord.hold) w.slot (fun sl => { sl with record := { sl.record with hold := .none } }) =
        slots (fun _ => .none) := Sparse.modify_modify s.slots w.slot _ _
    rw [← thawn]
    rfl

end Sys2Proof.Machine
end

section
/-!
PROOF. What taking a candidate comes to, and in which order candidates are taken: the statements CandidatesAreJudged and
CandidatesAreTakenInOrder.
-/
namespace Sys2Proof.Machine

variable {s t : State}

/-! ## The replacement rule (R25, R144) -/

theorem replaces_some_iff (margin g r : Nat) : replaces margin g (some r) = true ↔ r < g ∧ r + margin ≤ g := by
  simp only [replaces, Bool.and_eq_true, decide_eq_true_eq]
  omega

/-- A filled candidate replaces an empty entry, and one that it beats (R25). -/
theorem replaces_referenceGrade_iff {g : Nat} (hg : 1 ≤ g) (margin : Nat) (e : LineEntry) :
    replaces margin g (referenceGrade e none) = true ↔ (e.committed = 0 ∧ e.pending = none) ∨
      (e.pending.getD e.committed < g ∧ e.pending.getD e.committed + margin ≤ g) := by
  unfold referenceGrade
  dsimp only
  split
  · next h =>
    have empty : e.committed = 0 ∧ e.pending = none := by simpa using h
    simp only [replaces, decide_eq_true_eq, empty, and_self, true_or, iff_true]
    omega
  · next h =>
    have filled : ¬(e.committed = 0 ∧ e.pending = none) := by simpa using h
    rw [replaces_some_iff, or_iff_right filled]

/-! ## Whom a candidate goes to (R27) -/

/-- Nothing holds the line: its chart is not held, or it is THAWING and the line's SHADOW entry merged or absent. -/
theorem State.heldReference_none {c n : Nat} (h : s.hold c = .none ∨
    s.hold c = .thawing ∧ ∀ m e, s.shadow? c n = some (m, e) → e.merging = true) : s.heldReference c n = none := by
  unfold State.heldReference
  rcases h with h | ⟨h, merged⟩
  · rw [h]
  · rw [h]
    cases hs : s.shadow? c n with
    | none => rfl
    | some p => exact if_pos (merged p.1 p.2 hs)

/-- The line's SHADOW entry holds it. -/
theorem State.heldReference_shadow {c n m : Nat} {e : PoolEntry} (he : s.shadow? c n = some (m, e))
    (h : s.hold c = .frozen ∨ s.hold c = .thawing ∧ e.merging = false) : s.heldReference c n = some (some e.reference) := by
  unfold State.heldReference
  rw [he]
  rcases h with h | ⟨h, unmerged⟩
  · rw [h]
  · rw [h]
    exact if_neg (by simp [unmerged])

/-- The chart is FROZEN and the line has no SHADOW entry. -/
theorem State.heldReference_frozen {c n : Nat} (he : s.shadow? c n = none) (h : s.hold c = .frozen) :
    s.heldReference c n = some none := by
  unfold State.heldReference
  rw [he, h]

theorem PoolEntry.reference_eq (e : PoolEntry) : e.reference = e.pending.getD (e.written.getD 0) := by
  unfold PoolEntry.reference
  cases e.pending <;> rfl

/-! ## The next write (R28, R35, R37) -/

theorem State.startNext_none (h : s.lineTable.queue = []) :
    s.startNext = { s with lineTable := { s.lineTable with started := false } } := by
  unfold State.startNext
  rw [h]

theorem State.startNext_waits {w : Write} {l : List Write} (hq : s.lineTable.queue = w :: l)
    (h : s.lineTable.started = true ∨ s.lineTable.requests ≠ []) : s.startNext = s := by
  unfold State.startNext
  rw [hq]
  exact if_pos (by simpa using h)

theorem State.startNext_starts {w : Write} {l : List Write} (hq : s.lineTable.queue = w :: l)
    (hs : s.lineTable.started = false) (hr : s.lineTable.requests = []) :
    s.startNext = { s with lineTable := { s.lineTable with
      queue := { w with content := w.content.orElse fun _ => w.frees.map s.readPool } :: l, started := true } } := by
  unfold State.startNext
  rw [hq]
  exact if_neg (by simp [hs, hr])

/-! ## A candidate taken (R24 to R27, R144, R145) -/

/-- A candidate below grade 3 is rejected (R24). -/
theorem State.takeCandidate_low {c : Candidate} (h : c.grade < 3) : s.takeCandidate c = s.freeNamed c.frees := if_pos h

/-- A candidate for the composite (R25, R26). -/
theorem State.takeCandidate_composite {c : Candidate} (hg : 3 ≤ c.grade) (hh : s.heldReference c.slot c.line = none) :
    s.takeCandidate c =
      if replaces s.config.settings.margin c.grade (referenceGrade (s.entry c.slot c.line) none) then s.acceptCandidate c
      else s.freeNamed c.frees := by
  unfold State.takeCandidate
  rw [if_neg (by omega), hh]
  rfl

/-- A candidate for a held line (R144, R145). -/
theorem State.takeCandidate_held {c : Candidate} {g : Option Nat} (hg : 3 ≤ c.grade)
    (hh : s.heldReference c.slot c.line = some g) : s.takeCandidate c = s.holdCandidate c g := by
  unfold State.takeCandidate
  rw [if_neg (by omega), hh]

/-- A candidate for a held line that does not win is rejected (R144). -/
theorem State.holdCandidate_loses {c : Candidate} {g : Option Nat}
    (h : ¬replaces s.config.settings.margin c.grade (referenceGrade (s.entry c.slot c.line) g) = true) :
    s.holdCandidate c g = s.freeNamed c.frees := if_neg h

/-- A candidate for a held line that wins goes to the pool entry assigned (R145). -/
theorem State.holdCandidate_wins {c : Candidate} {g : Option Nat} {n : Nat}
    (h : replaces s.config.settings.margin c.grade (referenceGrade (s.entry c.slot c.line) g) = true)
    (ha : s.assignShadow c.slot c.line = some (n, t)) : s.holdCandidate c g =
      ((t.modifyPool n (fun e => { e with pending := some c.grade })).queueWrite (t.writeOf c .pool n)).tallyCandidate c := by
  unfold State.holdCandidate
  rw [if_pos h, ha]

/-- A candidate for a held line that wins with the pool full is dropped (R145). -/
theorem State.holdCandidate_full {c : Candidate} {g : Option Nat}
    (h : replaces s.config.settings.margin c.grade (referenceGrade (s.entry c.slot c.line) g) = true)
    (ha : s.assignShadow c.slot c.line = none) : s.holdCandidate c g = (s.post .shadowFull c.slot).freeNamed c.frees := by
  unfold State.holdCandidate
  rw [if_pos h, ha]
  rfl

theorem State.assignShadow_own {c n m : Nat} {e : PoolEntry} (h : s.shadow? c n = some (m, e)) :
    s.assignShadow c n = some (m, s) := by
  unfold State.assignShadow
  rw [h]

/-- The lowest free entry is assigned (R139, R145). -/
theorem State.assignShadow_new {c n m : Nat} (h : s.shadow? c n = none) (ho : Sparse.Rising s.pool) (hm : m < 512)
    (hfree : Sparse.find s.pool m = none) (hlow : ∀ k < m, Sparse.find s.pool k ≠ none) :
    s.assignShadow c n = some (m, s.putPool m (PoolEntry.newShadow c n)) := by
  unfold State.assignShadow
  rw [h, State.freePoolEntry_eq ho hm hfree hlow]

theorem State.assignShadow_full {c n : Nat} (h : s.shadow? c n = none) (ho : Sparse.Rising s.pool)
    (hfull : ∀ k < 512, Sparse.find s.pool k ≠ none) : s.assignShadow c n = none := by
  unfold State.assignShadow
  rw [h, State.freePoolEntry_none ho hfull]

/-- Settles O30: the candidate's destination is its hold's, and its judgement the replacement rule's. -/
theorem candidatesAreJudged : Obligations.CandidatesAreJudged := by
  constructor
  · intro s c ho e reference empty beats write tallied dropped
    have drops (x : State) : x.freeNamed c.frees = dropped x := by
      simp only [dropped]
      cases c.frees with
      | none => rfl
      | some n => exact x.freePool_eq n
    have tallies (x : State) : x.tallyCandidate c = tallied x := rfl
    have wins (hg : 3 ≤ c.grade) : replaces s.config.settings.margin c.grade (referenceGrade (s.entry c.slot c.line) none) = true ↔
        empty ∨ beats reference := replaces_referenceGrade_iff (by omega) _ _
    refine ⟨fun low => (State.takeCandidate_low low).trans (drops s), fun hg free => ?_, fun n x hg shadow held => ?_,
      fun hg frozen unshadowed => ?_⟩
    · have judged := State.takeCandidate_composite hg (State.heldReference_none free)
      constructor
      · intro accepted
        rw [judged, if_pos ((wins hg).2 accepted)]
        exact tallies _
      · intro filled loses
        rw [judged, if_neg fun h => ((wins hg).1 h).elim filled loses]
        exact drops s
    · intro higher
      have judged := State.takeCandidate_held hg (State.heldReference_shadow shadow held)
      have beaten : replaces s.config.settings.margin c.grade (referenceGrade (s.entry c.slot c.line) (some x.reference)) = true ↔
          beats higher := by
        rw [x.reference_eq]
        exact replaces_some_iff _ _ _
      constructor
      · intro accepted
        rw [judged, State.holdCandidate_wins (beaten.2 accepted) (State.assignShadow_own shadow)]
        exact tallies _
      · intro loses
        rw [judged, State.holdCandidate_loses (fun h => loses (beaten.1 h))]
        exact drops s
    · have judged := State.takeCandidate_held hg (State.heldReference_frozen unshadowed frozen)
      refine ⟨fun filled loses => ?_, fun accepted => ⟨fun n hn hfree hlow => ?_, fun full => ?_⟩⟩
      · rw [judged, State.holdCandidate_loses fun h => ((wins hg).1 h).elim filled loses]
        exact drops s
      · rw [judged, State.holdCandidate_wins ((wins hg).2 accepted) (State.assignShadow_new unshadowed ho hn hfree hlow),
          tallies]
        refine congrArg (fun p => tallied (State.startNext { s with pool := p, lineTable := write .pool n })) ?_
        exact Sparse.modify_put s.pool n (PoolEntry.newShadow c.slot c.line) (fun e => { e with pending := some c.grade }) ho
      · rw [judged, State.holdCandidate_full ((wins hg).2 accepted) (State.assignShadow_full unshadowed ho full)]
        exact drops _
  · intro s
    refine ⟨State.startNext_none, fun w rest queue => ⟨State.startNext_waits queue, fun idle free => ?_⟩⟩
    rw [State.startNext_starts queue idle free]
    cases w.content <;> cases w.frees <;> rfl

/-! ## The order of the candidates (R31) -/

/-- A sender's context holds a body that waits. -/
theorem State.nextBody_first {i : Nat} {c : Context} {slot : Nat} (hi : i < 8)
    (before : ∀ j < i, ∀ x, Sparse.find s.fetch.contexts ((s.lineTable.lastServed.val + 1 + j) % 8) = some x → x.waitingSlot = none)
    (hc : Sparse.find s.fetch.contexts ((s.lineTable.lastServed.val + 1 + i) % 8) = some c) (hw : c.waitingSlot = some slot) :
    s.nextBody = some ((s.lineTable.lastServed.val + 1 + i) % 8, c, slot) := by
  have parts : List.range 8 = List.range i ++ i :: (List.range 8).drop (i + 1) := by
    conv_lhs => rw [← List.take_append_drop i (List.range 8), List.take_range, Nat.min_eq_left hi.le,
      List.drop_eq_getElem_cons (by simpa using hi), List.getElem_range]
  unfold State.nextBody rotation
  rw [parts, List.map_append, List.findSome?_append, List.map_cons, List.findSome?_cons, hc]
  simp only [hw, Option.map_some, Option.or_eq_some_iff]
  refine .inr ⟨List.findSome?_eq_none_iff.2 fun n hn => ?_, trivial⟩
  obtain ⟨j, hj, rfl⟩ := List.mem_map.1 hn
  cases hx : Sparse.find s.fetch.contexts ((s.lineTable.lastServed.val + 1 + j) % 8) with
  | none => rfl
  | some x => simp [before j (List.mem_range.1 hj) x hx]

theorem State.nextBody_none (h : ∀ n < 8, ∀ x, Sparse.find s.fetch.contexts n = some x → x.waitingSlot = none) :
    s.nextBody = none := by
  refine List.findSome?_eq_none_iff.2 fun n hn => ?_
  obtain ⟨j, -, rfl⟩ := List.mem_map.1 hn
  cases hx : Sparse.find s.fetch.contexts ((s.lineTable.lastServed.val + 1 + j) % 8) with
  | none => rfl
  | some x => simp [h _ (Nat.mod_lt _ (by decide)) x hx]

/-- The UNMERGED SHADOW entry of a THAWING slot with the lowest slot and line is the next merge line (R147). -/
theorem State.nextMerge_first {n : Nat} {e : PoolEntry} (hmem : (n, e) ∈ s.pool)
    (he : e.kind = .shadow ∧ e.merging = false ∧ s.hold e.slot = .thawing)
    (least : ∀ p ∈ s.pool, (p.2.kind = .shadow ∧ p.2.merging = false ∧ s.hold p.2.slot = .thawing) → p ≠ (n, e) →
      e.slot * 2048 + e.line < p.2.slot * 2048 + p.2.line) : s.nextMerge = some (n, e) := by
  refine firstLeast_eq_some (List.mem_filter.2 ⟨hmem, by simp [he]⟩) fun p hp hne => ?_
  obtain ⟨hp, hm⟩ := List.mem_filter.1 hp
  exact least p hp (by simpa [and_assoc] using hm) hne

/-- CANDIDATE_TAKEN, with a write place free and nothing owed, takes the next candidate. -/
theorem State.exec_candidateTaken (run : s.config.state = .run) (room : s.lineTable.queue.length < 4) (reads : s.NoReads)
    (idle : s.lineTable.requests = []) (waits : s.candidateWaits = true) :
    exec .candidateTaken s = .next s.takeNext.settle := by
  refine congrArg Host.Outcome.next ((State.whenCan_true ?_ _).trans ?_)
  · simp [State.running, State.writePlaceFree, Config.writeQueuePlaces, run, room, waits]
  · rw [State.takeDueSteps_of_idle s reads idle]

theorem State.takeNext_store {st : ProvisionalStore} (h : s.lineTable.store = some st) :
    s.takeNext = State.queueStore { s with lineTable := { s.lineTable with store := none } } st := by
  unfold State.takeNext
  rw [h]

theorem State.takeNext_line {b : BufferedLine} {l : List BufferedLine} (h : s.lineTable.store = none)
    (hb : s.reception.buffers = b :: l) :
    s.takeNext = State.takeCandidate { s with reception := { s.reception with buffers := l } } (s.ownCandidate b) := by
  unfold State.takeNext
  rw [h, hb]

theorem State.takeNext_body {n slot : Nat} {c : Context} (h : s.lineTable.store = none) (hb : s.reception.buffers = [])
    (hn : s.nextBody = some (n, c, slot)) : s.takeNext = s.takeBody n c slot := by
  unfold State.takeNext
  rw [h, hb, hn]

theorem State.takeNext_migration {h : HeldLine} {target slot : Nat} {l : List (HeldLine × Nat)} (hs : s.lineTable.store = none)
    (hb : s.reception.buffers = []) (hn : s.nextBody = none) (hm : s.alignment.state = .migrating)
    (hl : s.alignment.migration = (h, target) :: l) (hslot : s.alignment.slot = some slot) :
    s.takeNext = s.takeMigration slot h target := by
  unfold State.takeNext
  rw [hs, hb, hn, hm, hl, hslot]

theorem State.takeNext_merge {n : Nat} {e : PoolEntry} (h : s.lineTable.store = none) (hb : s.reception.buffers = [])
    (hn : s.nextBody = none) (hm : s.alignment.state ≠ .migrating ∨ s.alignment.migration = [])
    (hp : s.nextMerge = some (n, e)) : s.takeNext = s.takeMerge n e := by
  unfold State.takeNext
  rw [h, hb, hn, hp]
  dsimp only
  split
  · next hst hl _ => exact hm.elim (fun h => absurd hst h) (fun h => by simp [hl] at h)
  · rfl

theorem State.takeMigration_eq {h : HeldLine} {target : Nat} {l : List (HeldLine × Nat)}
    (hl : s.alignment.migration = (h, target) :: l) (slot : Nat) : s.takeMigration slot h target =
      (State.takeCandidate { s with alignment := { s.alignment with migration := l } }
        (s.migrationCandidate slot h target)).settleMigration := by
  have left : s.alignment.migration.drop 1 = l := by rw [hl]; rfl
  rw [State.takeMigration, left]
  rfl

/-- The MERGE write of a merge line names its newest write's source, or else the entry's (R147). -/
theorem State.takeMerge_eq (s : State) (n : Nat) (e : PoolEntry) : s.takeMerge n e =
    State.modifyEntry (State.queueWrite (s.modifyPool n (fun e => { e with merging := true }))
      { order := 0, kind := .merge, slot := e.slot, target := e.line, grade := e.reference
        source := ((s.newestWrite (fun w => w.intoPool n)).map Write.source).getD (e.source.getD (Config.absentSource e.line))
        origin := some .merged, content := none, frees := some n }) e.slot e.line (fun x => { x with pending := some e.reference }) := by
  unfold State.takeMerge
  cases s.newestWrite (fun w => w.intoPool n) <;> rfl

/-- A body is taken where its record still holds its key (R133). -/
theorem State.takeBody_eq (s : State) (n : Nat) (c : Context) (slot : Nat) : s.takeBody n c slot =
    if (s.record? slot).map ChartRecord.key = some c.key then
      State.takeCandidate { s with
        fetch := { s.fetch with contexts := Sparse.erase s.fetch.contexts n }
        lineTable := { s.lineTable with lastServed := Fin.ofNat 8 n } } (bodyCandidate slot c)
    else { s with
        fetch := { s.fetch with contexts := Sparse.erase s.fetch.contexts n }
        lineTable := { s.lineTable with lastServed := Fin.ofNat 8 n } } := by
  have same : State.record? { s with
      fetch := { s.fetch with contexts := Sparse.erase s.fetch.contexts n }
      lineTable := { s.lineTable with lastServed := Fin.ofNat 8 n } } slot = s.record? slot := rfl
  unfold State.takeBody
  dsimp only
  rw [same]
  cases s.record? slot with
  | none => rfl
  | some r => simp only [Option.map_some, Option.some.injEq]

/-- Settles O31: the sources in their order, each taken where those before it have nothing. -/
theorem candidatesAreTakenInOrder : Obligations.CandidatesAreTakenInOrder := by
  intro s run room reads idle lt bodyWaits merges
  have taken (x : State) (waits : s.candidateWaits = true) (h : s.takeNext = x) : exec .candidateTaken s = .next x.settle :=
    h ▸ State.exec_candidateTaken run room reads idle waits
  have noBody (none : ∀ n < 8, ¬bodyWaits n) : s.nextBody = Option.none :=
    State.nextBody_none fun n hn x hx => Option.eq_none_iff_forall_ne_some.2 fun k hk => none n hn ⟨x, k, hx, hk⟩
  refine ⟨fun st store => ?_, fun noStore b rest lines => ?_, fun noStore noLines => ⟨?_, fun noBodies => ⟨?_, ?_⟩⟩⟩
  · exact taken _ (by simp [State.candidateWaits, show s.lineTable.store = some st from store]) (State.takeNext_store store)
  · exact taken _ (by simp [State.candidateWaits, lines]) (State.takeNext_line noStore lines)
  · intro i c slot hi before hc hw base
    have next : s.nextBody = some ((s.lineTable.lastServed.val + 1 + i) % 8, c, slot) :=
      State.nextBody_first hi (fun j hj x hx => Option.eq_none_iff_forall_ne_some.2 fun k hk => before j hj ⟨x, k, hx, hk⟩) hc hw
    exact taken _ (by simp [State.candidateWaits, next])
      ((State.takeNext_body noStore noLines next).trans (s.takeBody_eq _ c slot))
  · intro h target rest slot migrating list unit
    exact taken _ (by simp [State.candidateWaits, migrating, list])
      ((State.takeNext_migration noStore noLines (noBody noBodies) migrating list unit).trans (State.takeMigration_eq list slot))
  · intro still n e mem merging least
    have next : s.nextMerge = some (n, e) := State.nextMerge_first mem merging least
    exact taken _ (by simp [State.candidateWaits, next])
      ((State.takeNext_merge noStore noLines (noBody noBodies) (.inl still) next).trans (s.takeMerge_eq n e))

end Sys2Proof.Machine
end

section
/-!
PROOF. A waiting freeze is carried out: the statement FreezeIsCarriedOut.
-/
namespace Sys2Proof.Machine

variable {s t : State}

/-! ## The freeze (R39, R143) -/

theorem Write.intoComposite_eq_false_iff (w : Write) (c : Nat) : w.intoComposite c = false ↔ w.kind = .pool ∨ w.slot ≠ c := by
  simp only [Write.intoComposite, Bool.and_eq_false_iff, bne_eq_false_iff_eq, decide_eq_false_iff_not]

/-- A write that does not go into the slot's composite keeps its place (R39). -/
theorem State.redirectWrite_other {c : Nat} {w : Write} (h : w.intoComposite c = false) : s.redirectWrite c w = s.keepWrite w :=
  if_pos (by simp [h])

/-- A MERGE write is cancelled, its entry UNMERGED again (R39). -/
theorem State.redirectWrite_merge {c : Nat} {w : Write} (hk : w.kind = .merge) (hs : w.slot = c) :
    s.redirectWrite c w = s.unmerge w.frees.toList := by
  unfold State.redirectWrite
  rw [if_neg (by simp [Write.intoComposite, hk, hs]), if_pos hk]

/-- A COMPOSITE write is judged against the committed grade and the SHADOW entry (R143, R144). -/
theorem State.redirectWrite_composite {c : Nat} {w : Write} (hk : w.kind = .composite) (hs : w.slot = c) :
    s.redirectWrite c w =
      if replaces s.config.settings.margin w.grade
          (referenceGrade (s.entry c w.target) ((s.shadow? c w.target).map (fun p => p.2.reference))) then
        match s.assignShadow c w.target with
        | some (n, s) =>
          (s.modifyPool n (fun e => { e with pending := some w.grade })).keepWrite { w with kind := .pool, target := n }
        | none => (s.post .shadowFull c).freeNamed w.frees
      else s.freeNamed w.frees := by
  unfold State.redirectWrite
  exact (if_neg (by simp [Write.intoComposite, hk, hs])).trans (if_neg (by simp [hk]))

/-- Writes that do not go into the slot's composite all keep their places. -/
theorem State.redirectWrites_others {c : Nat} (l : List Write) (h : ∀ w ∈ l, w.intoComposite c = false) (x : State) :
    l.foldl (fun x w => x.redirectWrite c w) x = { x with lineTable := { x.lineTable with queue := x.lineTable.queue ++ l } } := by
  induction l generalizing x with
  | nil => rw [List.append_nil]; rfl
  | cons w l ih =>
    rw [List.foldl_cons, State.redirectWrite_other (h w List.mem_cons_self), ih (fun y hy => h y (List.mem_cons_of_mem _ hy)),
      State.keepWrite, List.append_assoc]
    rfl

/-- A freeze carried out alone, with nothing to read: the queue is gone through write by write (R39). -/
theorem State.carryOutFreeze_alone {c : Nat} (alone : s.lineTable.requests = [QuietRequest.freeze c]) (reads : s.NoReads) :
    s.carryOutFreeze c =
      let x := s.lineTable.queue.foldl (fun x w => x.redirectWrite c w) { s with
        slots := Sparse.modify s.slots c Slot.dropPending
        lineTable := { s.lineTable with requests := [], queue := [] } }
      State.startNext { x with
        slots := Sparse.modify x.slots c (fun sl => { sl with record := { sl.record with hold := .frozen } })
        port := { x.port with queue := x.port.queue ++ [.ack 0x03 .ok 0x00] } } := by
  have gone : s.lineTable.requests.filter (fun q => q != QuietRequest.freeze c) = [] := by simp [alone]
  unfold State.carryOutFreeze
  dsimp only
  rw [gone, State.redirectWrites_of_noReads]
  · rfl
  · exact ⟨reads.lines, reads.bodies⟩

/-- With no write into the composite queued, the queue stands. -/
theorem State.carryOutFreeze_others {c : Nat} (alone : s.lineTable.requests = [QuietRequest.freeze c]) (reads : s.NoReads)
    (others : ∀ w ∈ s.lineTable.queue, w.kind = .pool ∨ w.slot ≠ c) :
    s.carryOutFreeze c = State.startNext { s with
      slots := Sparse.modify (Sparse.modify s.slots c Slot.dropPending) c
        (fun sl => { sl with record := { sl.record with hold := .frozen } })
      lineTable := { s.lineTable with requests := [] }
      port := { s.port with queue := s.port.queue ++ [.ack 0x03 .ok 0x00] } } := by
  rw [State.carryOutFreeze_alone alone reads,
    State.redirectWrites_others _ fun w hw => (w.intoComposite_eq_false_iff c).2 (others w hw)]
  rfl

/-- Settles O33: the freeze goes through the queue write by write, and each write's fate is its kind's and its grade's. -/
theorem freezeIsCarriedOut : Obligations.FreezeIsCarriedOut := by
  constructor
  · intro s c run waits quiet reads entries frozen start
    have due : (s.running && s.freezeDue c) = true := by
      simp [State.running, run, State.freezeDue, quiet, State.firstRequest, waits]
    have through : exec (.freezeCarriedOut c) s = .next (s.carryOutFreeze c).settle := by
      refine congrArg Host.Outcome.next ((State.whenCan_true due _).trans ?_)
      rw [s.makeDueReads_of_noReads reads]
    refine ⟨?_, fun others => ?_⟩
    · rw [through, State.carryOutFreeze_alone waits reads]
      rfl
    · rw [through, State.carryOutFreeze_others waits reads others]
      rfl
  · intro x c w ho e empty reference beats kept cancelled
    have cancels (y : State) : y.freeNamed w.frees = cancelled y := by
      simp only [cancelled]
      cases w.frees with
      | none => rfl
      | some n => exact y.freePool_eq n
    refine ⟨fun other => State.redirectWrite_other ((w.intoComposite_eq_false_iff c).2 other), fun merge own => ?_,
      fun composite own hg => ⟨?_, fun unshadowed => ?_⟩⟩
    · rw [State.redirectWrite_merge merge own]
      cases w.frees <;> rfl
    · intro n p shadow higher
      have judged := State.redirectWrite_composite (s := x) composite own
      rw [shadow, State.assignShadow_own shadow] at judged
      have beaten : replaces x.config.settings.margin w.grade (referenceGrade (x.entry c w.target) (some p.reference)) = true ↔
          beats higher := by
        rw [p.reference_eq]
        exact replaces_some_iff _ _ _
      exact ⟨fun wins => judged.trans (if_pos (beaten.2 wins)),
        fun loses => (judged.trans (if_neg fun h => loses (beaten.1 h))).trans (cancels x)⟩
    · have judged := State.redirectWrite_composite (s := x) composite own
      rw [unshadowed] at judged
      have wins : replaces x.config.settings.margin w.grade (referenceGrade (x.entry c w.target) none) = true ↔
          empty ∨ beats reference := replaces_referenceGrade_iff hg _ _
      refine ⟨fun filled loses => (judged.trans (if_neg fun h => ((wins.1 h).elim filled loses))).trans (cancels x),
        fun accepted => ⟨fun n hn hfree hlow => ?_, fun full => ?_⟩⟩
      · rw [State.assignShadow_new unshadowed ho hn hfree hlow] at judged
        refine (judged.trans (if_pos (wins.2 accepted))).trans ?_
        refine congrArg (fun p => ({ x with pool := p, lineTable := kept { w with kind := .pool, target := n } } : State)) ?_
        exact Sparse.modify_put x.pool n (PoolEntry.newShadow c w.target) (fun e => { e with pending := some w.grade }) ho
      · rw [State.assignShadow_full unshadowed ho full] at judged
        exact (judged.trans (if_pos (wins.2 accepted))).trans (cancels _)

end Sys2Proof.Machine
end

section
/-!
PROOF. An ASK is heard: what a change of rows alone leaves as it was, how an ASK is served, and the statement AskIsServed.
-/
namespace Sys2Proof.Machine

variable {s t : State}

/-! ## Slots that differ in rows alone -/

/-- The slots `l` differ from `s`'s in their rows alone. -/
def State.RowsOnly (s : State) (l : List (Nat × Slot)) : Prop :=
  ∃ g : Nat × Slot → Slot, l = s.slots.map (fun p => (p.1, g p)) ∧ ∀ p, (g p).record = p.2.record ∧ (g p).entries = p.2.entries

namespace State.RowsOnly

variable {l : List (Nat × Slot)}

theorem refl (s : State) : s.RowsOnly s.slots := ⟨Prod.snd, by simp, fun _ => ⟨rfl, rfl⟩⟩

theorem modify (s : State) (c : Nat) {f : Slot → Slot} (h : ∀ sl : Slot, (f sl).record = sl.record ∧ (f sl).entries = sl.entries) :
    s.RowsOnly (Sparse.modify s.slots c f) :=
  ⟨fun p => if p.1 = c then f p.2 else p.2, List.map_congr_left fun p _ => by dsimp only; split <;> rfl, fun p => by
    dsimp only
    split
    · exact h p.2
    · exact ⟨rfl, rfl⟩⟩

theorem slotOfKey (h : s.RowsOnly l) (hl : t.slots = l) (k : Key) : t.slotOfKey k = s.slotOfKey k := by
  obtain ⟨g, rfl, hg⟩ := h
  unfold State.slotOfKey
  rw [hl, List.find?_map, Option.map_map]
  have same : ((fun p : Nat × Slot => p.2.record.key == k) ∘ fun p => (p.1, g p)) = fun p => p.2.record.key == k :=
    funext fun p => by simp [(hg p).1]
  rw [same]
  rfl

theorem slot (h : s.RowsOnly l) (hl : t.slots = l) (c : Nat) : ∃ g : Slot → Slot, t.slot? c = (s.slot? c).map g ∧
    ∀ sl, (g sl).record = sl.record ∧ (g sl).entries = sl.entries := by
  obtain ⟨g, rfl, hg⟩ := h
  exact ⟨fun sl => g (c, sl), by rw [State.slot?, hl, Sparse.find_map]; rfl, fun sl => hg (c, sl)⟩

theorem record (h : s.RowsOnly l) (hl : t.slots = l) (c : Nat) : t.record? c = s.record? c := by
  obtain ⟨g, hc, hg⟩ := h.slot hl c
  rw [State.record?, State.record?, hc]
  cases s.slot? c <;> simp [hg]

theorem hold (h : s.RowsOnly l) (hl : t.slots = l) (c : Nat) : t.hold c = s.hold c := by
  unfold State.hold
  rw [h.record hl]

theorem entry (h : s.RowsOnly l) (hl : t.slots = l) (c n : Nat) : t.entry c n = s.entry c n := by
  obtain ⟨g, hc, hg⟩ := h.slot hl c
  unfold State.entry
  rw [hc]
  cases s.slot? c with
  | none => rfl
  | some sl => simp [Slot.entry, hg]

end State.RowsOnly

/-! ## A line deferred (R125) -/

/-- The slots once the line of an ASK is deferred in a slot, unless this station fetches it. -/
def State.deferredIn (s : State) (c : Nat) (a : Ask) : List (Nat × Slot) :=
  if (s.fetchFor a.key a.line).isNone then
    Sparse.modify s.slots c (fun sl => sl.setRow a.line { sl.row a.line with
      deferral := some (max ((sl.row a.line).deferral.getD 0) (s.now + 550000)) })
  else s.slots

/-- The slots once a heard ASK has deferred its line. -/
def State.askDeferred (s : State) (a : Ask) : List (Nat × Slot) :=
  match s.slotOfKey a.key with
  | some c => s.deferredIn c a
  | none => s.slots

theorem State.deferAsked_eq (s : State) (a : Ask) : s.deferAsked a = { s with slots := s.askDeferred a } := by
  unfold State.deferAsked State.askDeferred State.deferredIn
  cases s.slotOfKey a.key with
  | none => rfl
  | some c =>
    dsimp only
    split <;> rfl

theorem State.rowsOnly_deferredIn (s : State) (c : Nat) (a : Ask) : s.RowsOnly (s.deferredIn c a) := by
  unfold State.deferredIn
  split
  · exact .modify s c fun _ => ⟨rfl, rfl⟩
  · exact .refl s

theorem State.rowsOnly_askDeferred (s : State) (a : Ask) : s.RowsOnly (s.askDeferred a) := by
  unfold State.askDeferred
  split
  · exact s.rowsOnly_deferredIn _ a
  · exact .refl s

/-! ## The checks of an ASK to the primary (R126) -/

theorem State.serve_mute (h : s.link.mute = true) (k : Key) (n : Nat) (r : Station) : s.serve k n r = s := if_pos h

theorem State.serve_unknown {k : Key} (h : s.link.mute = false) (hk : s.slotOfKey k = none) (n : Nat) (r : Station) :
    s.serve k n r = s.declineTo k n r .unknownChart := by
  unfold State.serve
  rw [if_neg (by simp [h]), hk]

/-- The checks that follow, for a known key. -/
theorem State.serve_known {k : Key} {c n : Nat} (h : s.link.mute = false) (hk : s.slotOfKey k = some c) (r : Station) :
    s.serve k n r =
      if (s.record? c).any (fun r => r.state = .aligning) then s.declineTo k n r .noLine
      else if s.fetch.bodies.any (fun b => b.key == k && b.line == n) then s
      else if decide ((s.entry c n).committed ≤ 1) && (s.shadow? c n).isNone then s.declineTo k n r .noLine
      else if 2 ≤ s.fetch.bodies.length then s.declineTo k n r .busy
      else s.queueBody c k n r := by
  unfold State.serve
  rw [if_neg (by simp [h]), hk]

theorem State.declineTo_eq (h : s.link.mute = false) (k : Key) (n : Nat) (r : Station) (x : DeclineReason) :
    s.declineTo k n r x = { s with link := if s.link.askDecline.length < 8 then
        { s.link with askDecline := s.link.askDecline ++ [QueuedFrame.fresh (.decline
          { key := k, line := n, requester := r, reason := x })] }
      else s.link } := by
  unfold State.declineTo Link.queueDecline
  rw [if_neg (by simp [h])]

/-- A body that is queued alone, no write to its slot being queued, takes its snapshot and forms its segments at once (R33, R59). -/
theorem State.queueBody_alone {c n : Nat} {k : Key} {r : Station} (hb : s.fetch.bodies = [])
    (due : s.readDue c s.lineTable.nextOrder = true) :
    s.queueBody c k n r =
      let body : SendBody :=
        { slot := c, key := k, line := n, requester := r, snapshot := some (s.snapshotOf c n)
          asked := s.lineTable.nextOrder, formed := true }
      { s with
        fetch := { s.fetch with bodies := [body] }
        link := { s.link with segments := s.link.segments ++
          (bodySegments body (s.snapshotOf c n) s.config.settings.width).map (fun g => QueuedFrame.fresh (.body g)) } } := by
  unfold State.queueBody
  dsimp only
  rw [if_pos due, hb]
  exact State.formSegments_head
    (b := { slot := c, key := k, line := n, requester := r, snapshot := some (s.snapshotOf c n)
            asked := s.lineTable.nextOrder, formed := false }) rfl rfl rfl

/-! ## The ASK taken (R126, R128) -/

/-- An ASK to this station as primary is served once its line is deferred. -/
theorem State.takeAsk_primary {a : Ask} (h : a.primary = s.self) (st : Station) :
    s.takeAsk a st = State.serve { s with slots := s.askDeferred a } a.key a.line st := by
  unfold State.takeAsk
  rw [State.deferAsked_eq]
  exact if_pos h

/-- An ASK that names this station as neither, or under MUTE, only defers. -/
theorem State.takeAsk_other {a : Ask} (h : a.primary ≠ s.self) (hf : a.fallback ≠ some s.self) (st : Station) :
    s.takeAsk a st = { s with slots := s.askDeferred a } := by
  unfold State.takeAsk
  rw [State.deferAsked_eq]
  exact (if_neg h).trans (if_neg hf)

/-- An ASK to this station as fallback starts or restarts a timer. -/
theorem State.takeAsk_fallback {a : Ask} (h : a.primary ≠ s.self) (hf : a.fallback = some s.self) (st : Station) :
    s.takeAsk a st = State.startFallback { s with slots := s.askDeferred a } a st := by
  unfold State.takeAsk
  rw [State.deferAsked_eq]
  exact (if_neg h).trans (if_pos hf)

theorem State.startFallback_mute (h : s.link.mute = true) (a : Ask) (st : Station) : s.startFallback a st = s := if_pos h

theorem State.takeAsk_mute (h : s.link.mute = true) (a : Ask) (st : Station) :
    s.takeAsk a st = { s with slots := s.askDeferred a } := by
  by_cases hp : a.primary = s.self
  · exact (State.takeAsk_primary hp st).trans (State.serve_mute (by exact h) _ _ _)
  · by_cases hf : a.fallback = some s.self
    · exact (State.takeAsk_fallback hp hf st).trans (State.startFallback_mute (by exact h) _ _)
    · exact State.takeAsk_other hp hf st

/-- The fallback timers after an ASK that names this station as fallback (R128). -/
theorem State.startFallback_eq (h : s.link.mute = false) (a : Ask) (st : Station) :
    let new : FallbackTimer :=
      { key := a.key, line := a.line, primary := a.primary, requester := st, expiry := s.now + 150000 }
    ((∃ t ∈ s.fetch.timers, t.key = a.key ∧ t.line = a.line) → s.startFallback a st = { s with fetch := { s.fetch with
      timers := s.fetch.timers.map (fun t => if t.key = a.key ∧ t.line = a.line then new else t) } }) ∧
    ((∀ t ∈ s.fetch.timers, ¬(t.key = a.key ∧ t.line = a.line)) → s.startFallback a st = { s with fetch := { s.fetch with
      timers := if s.fetch.timers.length < 4 then s.fetch.timers ++ [new] else s.fetch.timers } }) := by
  have running : s.fetch.timers.any (fun t => t.isFor a.key a.line) = true ↔
      ∃ t ∈ s.fetch.timers, t.key = a.key ∧ t.line = a.line := by simp [FallbackTimer.isFor]
  have unmuted : ¬s.link.mute = true := by simp [h]
  constructor
  · intro runs
    refine ((if_neg unmuted).trans (if_pos (running.2 runs))).trans ?_
    simp only [FallbackTimer.isFor, Bool.and_eq_true, beq_iff_eq]
    rfl
  · intro none
    refine ((if_neg unmuted).trans (if_neg fun h => ?_)).trans ?_
    · obtain ⟨t, ht, hr⟩ := running.1 h
      exact none t ht hr
    · split <;> rfl

/-- What a frame's arrival leaves as an ASK finds it. -/
structure State.SameTables (s t : State) : Prop where
  slots : t.slots = s.slots
  fetch : t.fetch = s.fetch
  lineTable : t.lineTable = s.lineTable
  config : t.config = s.config
  pool : t.pool = s.pool
  memory : t.memory = s.memory
  link : t.link = s.link.frameArrived
  reception : t.reception = s.reception
  port : t.port = s.port

namespace State.SameTables

theorem slotOfKey (h : s.SameTables t) (k : Key) : t.slotOfKey k = s.slotOfKey k := by rw [State.slotOfKey, h.slots]; rfl

theorem record (h : s.SameTables t) (c : Nat) : t.record? c = s.record? c := by
  rw [State.record?, State.slot?, h.slots]; rfl

theorem entry (h : s.SameTables t) (c n : Nat) : t.entry c n = s.entry c n := by
  unfold State.entry State.slot?; rw [h.slots]

theorem shadow (h : s.SameTables t) (c n : Nat) : t.shadow? c n = s.shadow? c n := by rw [State.shadow?, h.pool]; rfl

theorem readLine (h : s.SameTables t) (c n : Nat) : t.readLine c n = s.readLine c n := by
  unfold State.readLine State.lineAddress State.lineBytes State.width
  rw [h.memory, h.config]

theorem fetchFor (h : s.SameTables t) (k : Key) (n : Nat) : t.fetchFor k n = s.fetchFor k n := by
  rw [State.fetchFor, h.fetch]; rfl

theorem self (h : s.SameTables t) : t.self = s.self := by rw [State.self, h.config]; rfl

theorem mute (h : s.SameTables t) : t.link.mute = s.link.mute := by rw [h.link]; rfl

end State.SameTables

theorem State.sameTables_arrived (s : State) (frame : List Byte) (st : Station) : s.SameTables ((s.arrive frame).peerHeard st) := by
  constructor <;> simp

/-- Settles O46: the line is deferred in rows alone, and then each check of R126 finds what it found before. -/
theorem askIsServed : Obligations.AskIsServed := by
  intro s frame f a run takes decoded payload peer b deferred declined entry slots
  have taken : exec (.askReceived frame) s = .next (b.takeAsk a f.sender).settle :=
    congrArg Host.Outcome.next (s.receive_eq frame f Payload.ask? State.takeAsk a run takes decoded (by rw [payload]; rfl) peer)
  have same : s.SameTables b := s.sameTables_arrived frame f.sender
  clear_value b
  have deferredIs (c : Nat) : b.deferredIn c a = deferred c := by
    rw [State.deferredIn, same.fetchFor, same.slots]
  have slotsIs : b.askDeferred a = slots := by
    unfold State.askDeferred
    rw [same.slotOfKey, same.slots]
    simp only [deferredIs]
    rfl
  have knownSlots (c : Nat) (h : s.slotOfKey a.key = some c) : slots = deferred c := by simp only [slots, h]
  have other : b.RowsOnly slots := slotsIs ▸ b.rowsOnly_askDeferred a
  obtain ⟨y, hy⟩ : ∃ y : State, y = { b with slots := slots } := ⟨_, rfl⟩
  have ySlots : y.slots = slots := by rw [hy]
  have yMute : y.link.mute = s.link.mute := by rw [hy]; exact same.mute
  have yFetch : y.fetch = s.fetch := by rw [hy]; exact same.fetch
  have yKey : y.slotOfKey a.key = s.slotOfKey a.key := (other.slotOfKey ySlots _).trans (same.slotOfKey _)
  have declines (unmuted : s.link.mute = false) (x : DeclineReason) :
      (y.declineTo a.key a.line f.sender x).settle = declined slots x := by
    rw [State.declineTo_eq (yMute.trans unmuted), hy]
    dsimp only
    rw [show b.link.askDecline = s.link.askDecline by rw [same.link]; rfl]
  refine ⟨fun mute => ?_, fun unmuted primary unknown => ?_, fun unmuted primary c r key record => ?_, fun unmuted notPrimary => ?_⟩
  · rw [taken, State.takeAsk_mute (same.mute.trans mute), slotsIs]
  · rw [taken, State.takeAsk_primary (primary.trans same.self.symm), slotsIs, ← hy,
      State.serve_unknown (yMute.trans unmuted) (yKey.trans unknown), declines unmuted]
    simp only [slots, unknown]
  · have served := State.serve_known (n := a.line) (yMute.trans unmuted) (yKey.trans key) f.sender
    rw [(other.record ySlots c).trans (same.record c), record, yFetch, (other.entry ySlots c a.line).trans (same.entry c a.line),
      show y.shadow? c a.line = s.shadow? c a.line by rw [hy]; exact same.shadow c a.line] at served
    rw [taken, State.takeAsk_primary (primary.trans same.self.symm), slotsIs, ← hy, ← knownSlots c key]
    have queued : s.fetch.bodies.any (fun b => b.key == a.key && b.line == a.line) = true ↔
        ∃ x ∈ s.fetch.bodies, x.key = a.key ∧ x.line = a.line := by simp
    refine ⟨fun aligning => ?_, fun opened already => ?_, fun opened absent => ⟨fun low none => ?_, fun line full => ?_,
      fun filled empty hold writes => ?_⟩⟩
    · rw [served, if_pos (by simp [aligning]), declines unmuted]
    · rw [served, if_neg (by simp [opened]), if_pos (queued.2 already), hy]
    · rw [served, if_neg (by simp [opened]), if_neg (fun h => by obtain ⟨x, hx, h⟩ := queued.1 h; exact absent x hx h),
        if_pos (by simpa [none] using low), declines unmuted]
    · rw [served, if_neg (by simp [opened]), if_neg (fun h => by obtain ⟨x, hx, h⟩ := queued.1 h; exact absent x hx h),
        if_neg (fun h => by
          simp only [Bool.and_eq_true, decide_eq_true_eq, Option.isNone_iff_eq_none] at h
          exact line.elim (Nat.not_lt.2 h.1) (fun present => present h.2)), if_pos full, declines unmuted]
    · have yHold : y.hold c = .none := by
        rw [other.hold ySlots c, State.hold, same.record c, record]
        exact hold
      have snap : y.snapshotOf c a.line =
          { grade := (entry c).committed, source := (entry c).source, pixels := s.readLine c a.line } := by
        rw [State.snapshotOf_composite (.inl yHold), (other.entry ySlots c a.line).trans (same.entry c a.line),
          show y.readLine c a.line = s.readLine c a.line by rw [hy]; exact same.readLine c a.line]
      have due : y.readDue c y.lineTable.nextOrder = true := by
        rw [State.readDue_iff, show y.lineTable = s.lineTable by rw [hy]; exact same.lineTable]
        exact writes
      rw [served, if_neg (by simp [opened]), if_neg (by simp [empty]), if_neg (by simpa using fun h => absurd filled (Nat.not_lt.2 h)),
        if_neg (by simp [empty]), State.queueBody_alone (yFetch ▸ empty) due, snap]
      rw [hy]
      dsimp only
      rw [same.lineTable, same.fetch, same.config, show b.link.segments = s.link.segments by rw [same.link]; rfl]
  · refine ⟨fun neither => ?_, fun fallback => ⟨fun runs => ?_, fun idle => ?_⟩⟩
    · rw [taken, State.takeAsk_other (same.self ▸ notPrimary) (same.self ▸ neither), slotsIs]
    · rw [taken, State.takeAsk_fallback (same.self ▸ notPrimary) (same.self ▸ fallback), slotsIs, ← hy,
        (State.startFallback_eq (yMute.trans unmuted) a f.sender).1 (yFetch ▸ runs), yFetch, hy]
    · rw [taken, State.takeAsk_fallback (same.self ▸ notPrimary) (same.self ▸ fallback), slotsIs, ← hy,
        (State.startFallback_eq (yMute.trans unmuted) a f.sender).2 (yFetch ▸ idle), yFetch, hy]

end Sys2Proof.Machine
end

section
/-!
PROOF. The host freezes and thaws: the statement HoldRequestsAreAnswered.
-/
namespace Sys2Proof.Machine

variable {s t : State}

theorem State.hold_of_record {c : Nat} {r : ChartRecord} (h : s.record? c = some r) : s.hold c = r.hold := by
  rw [State.hold, h]

theorem State.goodSlot {slot : Byte} {r : ChartRecord} (h : slot.toNat < s.slotCount) (hr : s.record? slot.toNat = some r) :
    ¬s.badSlot slot = true := by
  obtain ⟨sl, hsl, -⟩ := State.slot_of_record hr
  rw [State.badSlot_iff]
  rintro (high | none)
  · omega
  · rw [State.slot?, hsl] at none
    cases none

/-! ## FREEZE (R142, R181) -/

theorem State.askFreeze_bad {slot : Byte} (h : s.badSlot slot = true) : s.askFreeze slot = s.ack 0x03 .badSlot := if_pos h

theorem State.askFreeze_held {slot : Byte} (hb : ¬s.badSlot slot = true)
    (h : s.hold slot.toNat = .frozen ∨ QuietRequest.freeze slot.toNat ∈ s.lineTable.requests) :
    s.askFreeze slot = s.ack 0x03 .held :=
  (if_neg hb).trans (if_pos (by simpa [State.mem_waitingFreezes] using h))

/-- A freeze that is taken is carried out at once where it can be. -/
theorem State.askFreeze_taken {slot : Byte} (hb : ¬s.badSlot slot = true) (hh : s.hold slot.toNat ≠ .frozen)
    (hw : QuietRequest.freeze slot.toNat ∉ s.lineTable.requests) {x : State}
    (hx : x = { s with lineTable := { s.lineTable with
      requests := s.lineTable.requests ++ [QuietRequest.freeze slot.toNat] } }) :
    s.askFreeze slot =
      if x.quiet slot.toNat && x.firstRequest slot.toNat == some (QuietRequest.freeze slot.toNat) then
        x.makeDueReads.carryOutFreeze slot.toNat
      else x := by
  subst hx
  exact (if_neg hb).trans (if_neg (by simp [hh, State.mem_waitingFreezes, hw]))

/-- Entries that are filled, with no grade pending, stay as they are where every pending grade becomes absent. -/
theorem Slot.dropPending_of_settled {sl : Slot} (h : ∀ q ∈ sl.entries, q.2.pending = none ∧ q.2 ≠ LineEntry.empty) :
    sl.dropPending = sl := by
  have same : sl.entries.map (fun (p : Nat × LineEntry) => (p.1, { p.2 with pending := none })) = sl.entries := by
    refine (List.map_congr_left fun p hp => ?_).trans (List.map_id _)
    obtain ⟨none, -⟩ := h p hp
    rw [id, ← none]
  have kept : sl.entries.filter (fun p => p.2 != LineEntry.empty) = sl.entries :=
    List.filter_eq_self.2 fun p hp => by simpa using (h p hp).2
  unfold Slot.dropPending
  rw [same, kept]

/-! ## THAW (R146) -/

theorem State.askThaw_bad {slot : Byte} (h : s.badSlot slot = true) : s.askThaw slot = s.ack 0x04 .badSlot := if_pos h

theorem State.askThaw_notHeld {slot : Byte} (hb : ¬s.badSlot slot = true) (h : s.hold slot.toNat ≠ .frozen) :
    s.askThaw slot = s.ack 0x04 .notHeld := (if_neg hb).trans (if_pos (by simpa using h))

theorem State.askThaw_thawing {slot : Byte} (hb : ¬s.badSlot slot = true) (h : s.hold slot.toNat = .frozen)
    (hs : s.hasShadow slot.toNat = true) :
    s.askThaw slot = ((s.setHold slot.toNat .thawing).ack 0x04 .ok).takeArrival s.candidateWaits :=
  (if_neg hb).trans ((if_neg (by simp [h])).trans (if_pos hs))

theorem State.askThaw_thawed {slot : Byte} (hb : ¬s.badSlot slot = true) (h : s.hold slot.toNat = .frozen)
    (hs : s.hasShadow slot.toNat = false) :
    s.askThaw slot = ((s.setHold slot.toNat .none).post .thawDone slot.toNat).ack 0x04 .ok :=
  (if_neg hb).trans ((if_neg (by simp [h])).trans (if_neg (by simp [hs])))

theorem State.hasShadow_iff (s : State) (c : Nat) : s.hasShadow c = true ↔ ∃ p ∈ s.pool, p.2.kind = .shadow ∧ p.2.slot = c := by
  simp [State.hasShadow]

theorem firstLeast_eq_none {α : Type} {f : α → Nat} {l : List α} (h : firstLeast f l = none) : l = [] := by
  cases l with
  | nil => rfl
  | cons x l =>
    simp only [firstLeast] at h
    split at h
    · cases h
    · split at h <;> cases h

/-- Where no candidate waits, nothing of any source does (R31). -/
theorem State.candidateWaits_eq_false_iff (s : State) : s.candidateWaits = false ↔
    s.lineTable.store = none ∧ s.reception.buffers = [] ∧ s.nextBody = none ∧
      (s.alignment.state ≠ .migrating ∨ s.alignment.migration = []) ∧ s.nextMerge = none := by
  simp only [State.candidateWaits, Bool.or_eq_false_iff, Bool.and_eq_false_iff, Option.isSome_eq_false_iff,
    Option.isNone_iff_eq_none, Bool.not_eq_false', List.isEmpty_iff, decide_eq_false_iff_not, and_assoc, ne_eq]

theorem State.hold_setHold (s : State) (c b : Nat) (h : Hold) (hb : b ≠ c) : (s.setHold c h).hold b = s.hold b := by
  unfold State.hold State.record? State.slot?
  rw [show (s.setHold c h).slots = Sparse.modify s.slots c (fun sl => { sl with record := { sl.record with hold := h } }) from rfl,
    Sparse.find_modify_other _ _ _ _ hb]

theorem State.hold_setHold_same {c : Nat} {r : ChartRecord} (hr : s.record? c = some r) (h : Hold) :
    (s.setHold c h).hold c = h := by
  obtain ⟨sl, hsl, -⟩ := State.slot_of_record hr
  refine State.hold_of_record (r := { sl.record with hold := h }) ?_
  rw [State.record?, State.slot?,
    show (s.setHold c h).slots = Sparse.modify s.slots c (fun sl => { sl with record := { sl.record with hold := h } }) from rfl,
    Sparse.find_modify_same, hsl]
  rfl

/-- The first merge line of a slot that becomes THAWING while no merge line waits (R147). -/
theorem State.nextMerge_thawing {c n : Nat} {e : PoolEntry} {r : ChartRecord} (hr : s.record? c = some r)
    (hn : s.nextMerge = none) (ho : Sparse.Rising s.pool) (he : Sparse.find s.pool n = some e) (hk : e.kind = .shadow)
    (hs : e.slot = c) (hm : e.merging = false)
    (least : ∀ p ∈ s.pool, p.1 ≠ n → p.2.kind = .shadow → p.2.slot = c → p.2.merging = false → e.line < p.2.line) :
    (s.setHold c .thawing).nextMerge = some (n, e) := by
  refine State.nextMerge_first (Sparse.mem_of_find he) ⟨hk, hm, hs ▸ State.hold_setHold_same hr _⟩ ?_
  rintro p hp ⟨hpk, hpm, hph⟩ hne
  have own : p.2.slot = c := by
    by_contra other
    rw [State.hold_setHold _ _ _ _ other] at hph
    have waits : p ∈ s.pool.filter (fun p => p.2.kind = .shadow && !p.2.merging && s.hold p.2.slot = .thawing) :=
      List.mem_filter.2 ⟨hp, by simp [hpk, hpm, hph]⟩
    rw [firstLeast_eq_none hn] at waits
    cases waits
  have distinct : p.1 ≠ n := fun hpn => hne (by
    have found := Sparse.find_of_mem ho (show (n, p.2) ∈ s.pool from hpn ▸ hp)
    rw [he] at found
    exact Prod.ext hpn (Option.some.inj found).symm)
  have line := least p hp distinct hpk own hpm
  omega

/-- Settles O54: FREEZE by its refusals and its quiet slot, THAW by its refusals and its SHADOW entries. -/
theorem holdRequestsAreAnswered : Obligations.HoldRequestsAreAnswered := by
  constructor
  · intro s slot ready c answered refused
    have taken (x : State) (h : s.askFreeze slot = x) : exec (.freeze slot) s = .next (answered x) :=
      congrArg Host.Outcome.next ((s.request_ready ready 2 _).trans (h ▸ rfl))
    refine ⟨fun bad => taken _ (State.askFreeze_bad ((s.badSlot_iff slot).2 bad)), fun r inUse record => ?_⟩
    have good := State.goodSlot inUse record
    have hold := State.hold_of_record record
    refine ⟨fun held => taken _ (State.askFreeze_held good (by rwa [hold])), fun unfrozen unasked => ⟨fun busy => taken _ ?_,
      fun quiet idle reads others settled => taken _ ?_⟩⟩
    · obtain ⟨x, hx⟩ : ∃ x : State, x = { s with lineTable := { s.lineTable with
          requests := s.lineTable.requests ++ [QuietRequest.freeze c] } } := ⟨_, rfl⟩
      have waits : x.quiet c = false := by rw [hx]; exact busy
      rw [State.askFreeze_taken good (by rwa [hold]) unasked hx, if_neg (by simp [c, waits]), hx]
    · obtain ⟨x, hx⟩ : ∃ x : State, x = { s with lineTable := { s.lineTable with
          requests := s.lineTable.requests ++ [QuietRequest.freeze c] } } := ⟨_, rfl⟩
      have xQuiet : x.quiet c = true := by rw [hx]; exact quiet
      have alone : x.lineTable.requests = [QuietRequest.freeze c] := by rw [hx]; simp [idle]
      have first : x.firstRequest c = some (QuietRequest.freeze c) := by simp [State.firstRequest, alone]
      have xReads : x.NoReads := by rw [hx]; exact ⟨reads.lines, reads.bodies⟩
      have unchanged : Sparse.modify s.slots c Slot.dropPending = s.slots :=
        Sparse.modify_id _ _ _ fun p hp hc => Slot.dropPending_of_settled (settled p hp hc)
      have noRequests : ({ s.lineTable with requests := [] } : LineTable) = s.lineTable :=
        congrArg (fun l => { s.lineTable with requests := l }) idle.symm
      rw [State.askFreeze_taken good (by rwa [hold]) unasked hx, if_pos (by simp [c, xQuiet, first]),
        State.makeDueReads_of_noReads x xReads, State.carryOutFreeze_others alone xReads (by rw [hx]; exact others), hx]
      dsimp only
      rw [unchanged, noRequests]
  · intro s slot ready c answered held
    have taken {x : State} (h : s.askThaw slot = x) : exec (.thaw slot) s = .next (x.settle.clockOut [0x01, 0, 0]) :=
      congrArg Host.Outcome.next ((s.request_ready ready 2 _).trans (h ▸ rfl))
    refine ⟨fun bad => taken (State.askThaw_bad ((s.badSlot_iff slot).2 bad)), fun r inUse record => ?_⟩
    have good := State.goodSlot inUse record
    have hold := State.hold_of_record record
    refine ⟨fun unfrozen => taken (State.askThaw_notHeld good (by rwa [hold])), fun frozen shadow waits => ?_,
      fun n e frozen find kind own unmerged least rising none room reads idle => ?_, fun frozen none => ?_⟩
    · refine taken ((State.askThaw_thawing good (hold.trans frozen) ((s.hasShadow_iff c).2 shadow)).trans ?_)
      rcases waits with waits | full
      · rw [waits, State.takeArrival_of_waited]
        rfl
      · rw [State.takeArrival_of_full _ (by exact full)]
        rfl
    · obtain ⟨x, hx⟩ : ∃ x : State, x = (s.setHold c .thawing).ack 0x04 .ok := ⟨_, rfl⟩
      obtain ⟨noStore, noLines, noBody, noMigration, noMerge⟩ := s.candidateWaits_eq_false_iff.1 none
      have next : x.nextMerge = some (n, e) := by
        rw [hx]
        exact State.nextMerge_thawing record noMerge rising find kind own unmerged least
      have arrives : x.candidateWaits = true := by simp [State.candidateWaits, next]
      have xReads : x.NoReads := by rw [hx]; exact ⟨reads.lines, reads.bodies⟩
      have merged : x.takeNext = x.takeMerge n e := State.takeNext_merge (by rw [hx]; exact noStore) (by rw [hx]; exact noLines)
        (by rw [hx]; exact noBody) (by rw [hx]; exact noMigration) next
      refine taken ((State.askThaw_thawing good (hold.trans frozen)
        ((s.hasShadow_iff c).2 ⟨(n, e), Sparse.mem_of_find find, kind, own⟩)).trans ?_)
      rw [none, ← hx, State.takeArrival_of_idle x xReads (by rw [hx]; exact idle) (by rw [hx]; exact room) arrives, merged,
        State.takeMerge_eq, e.reference_eq, own, hx]
      rfl
    · exact taken (State.askThaw_thawed good (hold.trans frozen) ((State.hasShadow_eq_false_iff s c).2 none))

end Sys2Proof.Machine
end

section
/-!
PROOF. A slot is released: what each block lets go of, and the statement DiscardReleasesSlot.
-/
namespace Sys2Proof.Machine

variable {s t : State}

/-- A value that a number singles out goes, any other stays. -/
theorem filter_ne_eq_ite {α : Type} (o : Option α) (f : α → Nat) (c : Nat) :
    o.filter (fun x => f x != c) = if o.any (fun x => f x = c) then none else o := by
  cases o with
  | none => rfl
  | some x => by_cases h : f x = c <;> simp [Option.filter, h]

/-! ## The blocks' parts of a release (R40, R95, R106, R135, R152) -/

/-- The answer to a READ_LINES that waits for a slot (R34, R40). -/
def State.readAnswer (s : State) (c : Nat) : List Response :=
  match s.port.read with
  | some x => if x.slot = c then
      [.lines .ok (BitVec.ofNat 8 c) x.first ((List.range x.count).map (fun i => s.lineItem c (x.first + i)))]
    else []
  | none => []

theorem State.makeRead_ofSlot (s : State) (c : Nat) : (if s.port.read.any (fun r => r.slot = c) then s.makeRead else s) =
    { s with port := { s.port with
      read := s.port.read.filter (fun x => x.slot != c), queue := s.port.queue ++ s.readAnswer c } } := by
  unfold State.makeRead State.readAnswer
  rw [filter_ne_eq_ite]
  cases h : s.port.read with
  | none =>
    simp only [Option.any_none, Bool.false_eq_true, if_false, List.append_nil]
    rw [← h]
  | some x =>
    by_cases hx : x.slot = c
    · subst hx
      simp [State.respond]
    · simp only [Option.any_some, hx, decide_false, Bool.false_eq_true, if_false, List.append_nil]
      rw [← h]

/-- The LINE TABLE's part of a release; memory changes in the place of the write in progress alone (R40). -/
theorem State.releaseLines_parts (s : State) (c : Nat) : ∃ m i, s.releaseLines c = { s with
      memory := m, interruptedWrites := i
      lineTable := { s.lineTable with
        requests := s.lineTable.requests.filter (fun q => q != QuietRequest.splitClear c && q != QuietRequest.freeze c)
        queue := s.lineTable.queue.filter (fun w => w.slot != c)
        started := s.lineTable.started && s.lineTable.queue.head?.any (fun w => w.slot != c) }
      reception := { s.reception with buffers := s.reception.buffers.filter (fun b => b.slot != c) }
      port := { s.port with read := s.port.read.filter (fun x => x.slot != c), queue := s.port.queue ++ s.readAnswer c } } ∧
    (∀ a, (∀ w, s.lineTable.started = true → s.lineTable.queue.head? = some w → w.slot = c →
        a < s.writeAddress w ∨ s.writeAddress w + (s.writeBytes w).length ≤ a) →
      Memory.readByte m a = Memory.readByte s.memory a) := by
  obtain ⟨m, i, cancelled, outside⟩ := State.cancelWrites_eq
    ((if s.port.read.any (fun r => r.slot = c) then s.makeRead else s).dropLines c) (fun w => w.slot = c)
  rw [State.makeRead_ofSlot] at cancelled outside
  refine ⟨m, i, ?_, fun a h => outside a fun w hs hq hw => h w hs hq (by simpa using hw)⟩
  have other : (fun w : Write => !decide (w.slot = c)) = fun w => w.slot != c := funext fun w => by simp [bne, BEq.beq]
  rw [State.releaseLines_eq, State.makeRead_ofSlot, cancelled, other]
  rfl

/-- The head body's segments are formed where it has its snapshot and they are not formed; nothing else changes (R59). -/
theorem State.formSegments_parts (s : State) : ∃ bodies segments, s.formSegments = { s with
      fetch := { s.fetch with bodies := bodies }, link := { s.link with segments := segments } } ∧
    ((∀ b, s.fetch.bodies.head? = some b → b.snapshot = none ∨ b.formed = true) →
      bodies = s.fetch.bodies ∧ segments = s.link.segments) ∧
    ∀ b rest snap, s.fetch.bodies = b :: rest → b.snapshot = some snap → b.formed = false →
      bodies = { b with formed := true } :: rest ∧ segments = s.link.segments ++
        (bodySegments b snap s.config.settings.width).map (fun g => QueuedFrame.fresh (.body g)) := by
  by_cases h : ∃ b rest snap, s.fetch.bodies = b :: rest ∧ b.snapshot = some snap ∧ b.formed = false
  · obtain ⟨b, rest, snap, bodies, made, unformed⟩ := h
    refine ⟨_, _, State.formSegments_head bodies made unformed, fun stays => ?_, ?_⟩
    · rcases stays b (by rw [bodies]; rfl) with h | h <;> simp_all
    · rintro b' rest' snap' bodies' made' -
      obtain ⟨rfl, rfl⟩ := List.cons.inj (bodies.symm.trans bodies')
      cases made.symm.trans made'
      exact ⟨rfl, rfl⟩
  · have same : s.formSegments = s := by
      cases bodies : s.fetch.bodies with
      | nil => unfold State.formSegments; rw [bodies]
      | cons b rest =>
        refine State.formSegments_of_head bodies ?_
        cases made : b.snapshot with
        | none => exact .inl rfl
        | some snap => exact .inr (by simpa using fun hf => h ⟨b, rest, snap, bodies, made, hf⟩)
    exact ⟨s.fetch.bodies, s.link.segments, same, fun _ => ⟨rfl, rfl⟩,
      fun b rest snap bodies made unformed => absurd ⟨b, rest, snap, bodies, made, unformed⟩ h⟩

/-- The segments that a release leaves: the head body's are withdrawn with it, one in flight when its attempt ends (R60). -/
def State.segmentsLeft (s : State) (c : Nat) : List QueuedFrame :=
  if s.fetch.bodies.head?.any (fun b => b.slot = c && b.formed) then
    if s.link.attempt = some .body then (s.link.segments.take 1).map (fun f => { f with withdrawn := true }) else []
  else s.link.segments

theorem withdrawFrom_all (b : Bool) (q : List QueuedFrame) :
    withdrawFrom (fun _ => true) b q = if b then (q.take 1).map (fun f => { f with withdrawn := true }) else [] := by
  cases b with
  | false => simp [withdrawFrom]
  | true => cases q <;> simp [withdrawFrom]

theorem State.withdrawBodies_eq (s : State) (c : Nat) : s.withdrawBodies c =
    State.formSegments { s with
      fetch := { s.fetch with bodies := s.fetch.bodies.filter (fun b => b.slot != c) }
      link := { s.link with segments := s.segmentsLeft c } } := by
  unfold State.withdrawBodies State.segmentsLeft
  dsimp only
  split
  · rw [Link.withdrawSegments, withdrawFrom_all]
    simp only [Link.inFlight, decide_eq_true_eq]
  · rfl

theorem State.releaseAlignment_eq (s : State) (c : Nat) : s.releaseAlignment c = { s with
    alignment := if s.alignment.slot = some c then Alignment.reset else s.alignment } := by
  unfold State.releaseAlignment
  split <;> rfl

theorem State.releasePool_eq (s : State) (c : Nat) : s.releasePool c = { s with
    pool := s.pool.filter (fun p => p.2.slot != c)
    lineTable := { s.lineTable with store := s.lineTable.store.filter (fun st => st.slot != c) } } := by
  rw [filter_ne_eq_ite]
  unfold State.releasePool
  dsimp only
  split <;> rfl

theorem State.dropBatch_eq (s : State) (c : Nat) : (if s.fetch.batch.any (fun b => b.slot = c) then s.setBatch none else s) =
    { s with fetch := { s.fetch with batch := s.fetch.batch.filter (fun b => b.slot != c) } } := by
  rw [filter_ne_eq_ite]
  split <;> rfl

/-- The FETCH UNIT's part of a release (R135): the bodies and the segments are those that withdrawing the slot's bodies leaves. -/
theorem State.releaseFetch_parts (s : State) (c : Nat) (k : Key) : ∃ bodies segments, s.releaseFetch c k = { s with
      fetch :=
        { batch := s.fetch.batch.filter (fun b => b.slot != c)
          fetches := s.fetch.fetches.filter (fun e => e.slot != c)
          timers := s.fetch.timers.filter (fun t => t.key != k)
          bodies := bodies
          contexts := s.fetch.contexts.filter (fun p => p.2.waitingSlot != some c) }
      link := { s.link with
        segments := segments
        askDecline := withdrawFrom (fun q => (s.fetch.fetches.filter (fun e => e.slot = c ∧ e.phase = .askQueued)).any
          (fun e => q.isAsk e.key e.line)) (s.link.attempt = some .askDecline) s.link.askDecline } } ∧
    ((∀ b, (s.fetch.bodies.filter (fun b => b.slot != c)).head? = some b → b.snapshot = none ∨ b.formed = true) →
      bodies = s.fetch.bodies.filter (fun b => b.slot != c) ∧ segments = s.segmentsLeft c) ∧
    ∀ b rest snap, s.fetch.bodies.filter (fun b => b.slot != c) = b :: rest → b.snapshot = some snap → b.formed = false →
      bodies = { b with formed := true } :: rest ∧ segments = s.segmentsLeft c ++
        (bodySegments b snap s.config.settings.width).map (fun g => QueuedFrame.fresh (.body g)) := by
  obtain ⟨x, hx⟩ : ∃ x : State, x = (s.retireWhere (fun e => e.slot = c) false).cancelTimers (fun t => t.key == k) := ⟨_, rfl⟩
  have fetches : (fun e : FetchEntry => !decide (e.slot = c)) = fun e => e.slot != c := funext fun e => by simp [bne, BEq.beq]
  have queued : (fun e : FetchEntry => decide (e.slot = c) && decide (e.phase = .askQueued)) =
      fun e => decide (e.slot = c ∧ e.phase = .askQueued) := funext fun e => by simp
  have xEq : x = { s with
      fetch := { s.fetch with
        fetches := s.fetch.fetches.filter (fun e => e.slot != c), timers := s.fetch.timers.filter (fun t => t.key != k) }
      link := { s.link with
        askDecline := withdrawFrom (fun q => (s.fetch.fetches.filter (fun e => e.slot = c ∧ e.phase = .askQueued)).any
          (fun e => q.isAsk e.key e.line)) (s.link.attempt = some .askDecline) s.link.askDecline } } := by
    rw [hx, State.retireWhere_eq, fetches, queued]
    rfl
  have xBodies : x.fetch.bodies = s.fetch.bodies := by rw [xEq]
  have xSegments : x.segmentsLeft c = s.segmentsLeft c := by rw [xEq]; rfl
  obtain ⟨bodies, segments, formed, stays, forms⟩ := State.formSegments_parts { x with
    fetch := { x.fetch with bodies := x.fetch.bodies.filter (fun b => b.slot != c) }
    link := { x.link with segments := x.segmentsLeft c } }
  dsimp only at stays forms
  rw [xBodies, xSegments] at stays
  rw [xBodies, xSegments, show x.config = s.config by rw [xEq]] at forms
  refine ⟨bodies, segments, ?_, stays, forms⟩
  unfold State.releaseFetch
  dsimp only
  rw [← hx, State.withdrawBodies_eq, formed, State.dropBatch_eq, xEq]

/-- A state after a release of a slot, before the next write starts: memory, the bodies to send and the segments are given. -/
def State.released (s : State) (c : Nat) (r : ChartRecord) (m : List Host.Cell) (i : Nat) (segments : List QueuedFrame)
    (bodies : List SendBody) : State :=
  { s with
    memory := m, interruptedWrites := i
    slots := (Sparse.erase s.slots c).map (fun (p : Nat × Slot) => (p.1, { p.2 with record := { p.2.record with
      closeOrder := p.2.record.closeOrder.map (fun o => if r.closeOrder.getD 0 < o then o - 1 else o) } }))
    pool := s.pool.filter (fun p => p.2.slot != c)
    lineTable := { s.lineTable with
      requests := s.lineTable.requests.filter (fun q => q != QuietRequest.splitClear c && q != QuietRequest.freeze c)
      store := s.lineTable.store.filter (fun st => st.slot != c)
      queue := s.lineTable.queue.filter (fun w => w.slot != c)
      started := s.lineTable.started && s.lineTable.queue.head?.any (fun w => w.slot != c) }
    reception := { s.reception with buffers := s.reception.buffers.filter (fun b => b.slot != c) }
    link := { s.link with
      segments := segments
      askDecline := withdrawFrom (fun q => (s.fetch.fetches.filter (fun e => e.slot = c ∧ e.phase = .askQueued)).any
        (fun e => q.isAsk e.key e.line)) (s.link.attempt = some .askDecline) s.link.askDecline }
    fetch :=
      { batch := s.fetch.batch.filter (fun b => b.slot != c)
        fetches := s.fetch.fetches.filter (fun e => e.slot != c)
        timers := s.fetch.timers.filter (fun t => t.key != r.key)
        bodies := bodies
        contexts := s.fetch.contexts.filter (fun p => p.2.waitingSlot != some c) }
    alignment := if s.alignment.slot = some c then Alignment.reset else s.alignment
    attention := { s.attention with events := s.attention.events.filter (fun e => !(e.kind.slotKind && e.argument = c)) }
    port := { s.port with
      read := s.port.read.filter (fun x => x.slot != c)
      queue := s.port.queue ++ s.readAnswer c ++
        (if QuietRequest.freeze c ∈ s.lineTable.requests then [.ack 0x03 .badSlot 0] else []) } }

/-- The release of a slot in use (R95). -/
theorem State.releaseSlot_parts {c : Nat} {r : ChartRecord} (hr : s.record? c = some r) : ∃ m i segments bodies,
    s.releaseSlot c = (s.released c r m i segments bodies).startNext ∧
    (∀ a, (∀ w, s.lineTable.started = true → s.lineTable.queue.head? = some w → w.slot = c →
        a < s.writeAddress w ∨ s.writeAddress w + (s.writeBytes w).length ≤ a) →
      Memory.readByte m a = Memory.readByte s.memory a) ∧
    ((∀ b, (s.fetch.bodies.filter (fun b => b.slot != c)).head? = some b → b.snapshot = none ∨ b.formed = true) →
      bodies = s.fetch.bodies.filter (fun b => b.slot != c) ∧ segments = s.segmentsLeft c) ∧
    ∀ b rest snap, s.fetch.bodies.filter (fun b => b.slot != c) = b :: rest → b.snapshot = some snap → b.formed = false →
      bodies = { b with formed := true } :: rest ∧ segments = s.segmentsLeft c ++
        (bodySegments b snap s.config.settings.width).map (fun g => QueuedFrame.fresh (.body g)) := by
  obtain ⟨m, i, lines, outside⟩ := s.releaseLines_parts c
  obtain ⟨x, hx⟩ : ∃ x : State, x = s.releaseLines c := ⟨_, rfl⟩
  rw [← hx] at lines
  obtain ⟨bodies, segments, fetch, stays, forms⟩ := x.releaseFetch_parts c r.key
  have xBodies : x.fetch = s.fetch := by rw [lines]
  have xSegments : x.segmentsLeft c = s.segmentsLeft c := by rw [lines]; rfl
  rw [xBodies, xSegments] at stays
  rw [xBodies, xSegments, show x.config = s.config by rw [lines]] at forms
  refine ⟨m, i, segments, bodies, ?_, outside, stays, forms⟩
  unfold State.releaseSlot
  rw [hr]
  dsimp only
  rw [← hx, fetch, State.releaseAlignment_eq, State.releasePool_eq, lines]
  by_cases freeze : QuietRequest.freeze c ∈ s.lineTable.requests
  · rw [if_pos (by simpa [State.mem_waitingFreezes] using freeze), State.released, if_pos freeze]
    rfl
  · rw [if_neg (by simpa [State.mem_waitingFreezes] using freeze), State.released, if_neg freeze, List.append_nil]
    rfl

/-! ## DISCARD (R94, R95) -/

theorem State.askDiscard_bad {slot : Byte} (h : s.badSlot slot = true) : s.askDiscard slot = s.ack 0x05 .badSlot := if_pos h

theorem State.askDiscard_known {slot : Byte} {r : ChartRecord} (hb : ¬s.badSlot slot = true) (hr : s.record? slot.toNat = some r) :
    s.askDiscard slot =
      if r.state ≠ .closed then s.ack 0x05 .active
      else if r.hold ≠ .none then s.ack 0x05 .held
      else (s.releaseSlot slot.toNat).ack 0x05 .ok := by
  unfold State.askDiscard
  dsimp only
  rw [if_neg hb, hr, State.hold_of_record hr]
  simp only [Option.any_some, bne_iff_ne]

/-- Settles O55: the refusals in their order, and the release as the sum of the blocks' parts. -/
theorem discardReleasesSlot : Obligations.DiscardReleasesSlot := by
  constructor
  · intro s slot ready c answered
    have taken (x : State) (h : s.askDiscard slot = x) : exec (.discard slot) s = .next (x.settle.clockOut [0x01, 0, 0]) :=
      congrArg Host.Outcome.next ((s.request_ready ready 2 _).trans (h ▸ rfl))
    refine ⟨fun bad => taken _ (State.askDiscard_bad ((s.badSlot_iff slot).2 bad)), fun r inUse record => ?_⟩
    have known := State.askDiscard_known (State.goodSlot inUse record) record
    refine ⟨fun active => taken _ (known.trans (if_pos active)), fun closed held => taken _ ?_, fun closed free => taken _ ?_⟩
    · rw [known, if_neg (by simp [closed]), if_pos held]
      rfl
    · rw [known, if_neg (by simp [closed]), if_neg (by simp [free])]
      rfl
  · intro s c r record t asked remaining headGoes segments
    obtain ⟨m, i, left, bodies, released, outside, stays, forms⟩ := State.releaseSlot_parts record
    have memory : t.memory = m := by simp only [t, released, State.startNext_memory]; rfl
    have cuts : t.interruptedWrites = i := by simp only [t, released, State.startNext_interruptedWrites]; rfl
    have queued : t.link.segments = left := by simp only [t, released, State.startNext_link]; rfl
    have toSend : t.fetch.bodies = bodies := by simp only [t, released, State.startNext_fetch]; rfl
    have segmentsIs : s.segmentsLeft c = segments := by
      have head : s.fetch.bodies.head?.any (fun b => b.slot = c && b.formed) = true ↔ headGoes := by
        simp [headGoes, Option.any_eq_true]
      unfold State.segmentsLeft
      by_cases goes : headGoes
      · simp only [segments, if_pos goes, if_pos (head.2 goes)]
      · simp only [segments, if_neg goes, if_neg (fun h => goes (head.1 h))]
    rw [segmentsIs] at stays forms
    rw [memory, cuts, queued, toSend]
    exact ⟨released, outside, stays, forms⟩

end Sys2Proof.Machine
end

section
/-!
PROOF. A BODY segment is heard: the statement BodySegmentsAssemble.
-/
namespace Sys2Proof.Machine

variable {s t : State}

/-! ## A row regraded (R116) -/

/-- A holder after a grade is given to a station. -/
def Holder.given (st : Station) (g : Nat) (h : Option Holder) : Option Holder :=
  h.map (fun x => if x.station = st then { x with grade := g } else x)

theorem HolderRow.lists_iff (r : HolderRow) (st : Station) :
    r.lists st = true ↔ ∃ x, (r.best = some x ∨ r.second = some x) ∧ x.station = st := by
  simp only [HolderRow.lists, Bool.or_eq_true, Option.any_eq_true, beq_iff_eq]
  constructor
  · rintro (⟨x, hx, hs⟩ | ⟨x, hx, hs⟩)
    · exact ⟨x, .inl hx, hs⟩
    · exact ⟨x, .inr hx, hs⟩
  · rintro ⟨x, hx | hx, hs⟩
    · exact .inl ⟨x, hx, hs⟩
    · exact .inr ⟨x, hx, hs⟩

theorem HolderRow.regrade_eq (r : HolderRow) (st : Station) (g : Nat) :
    r.regrade st g = HolderRow.ordered { r with best := Holder.given st g r.best, second := Holder.given st g r.second } := rfl

theorem HolderRow.regrade_two {r : HolderRow} {st : Station} {g : Nat} {b x : Holder} (hb : Holder.given st g r.best = some b)
    (hx : Holder.given st g r.second = some x) : r.regrade st g =
      if b.grade < x.grade then { r with best := some x, second := some b } else { r with best := some b, second := some x } := by
  rw [HolderRow.regrade_eq, hb, hx]
  rfl

theorem HolderRow.regrade_few {r : HolderRow} (h : r.best = none ∨ r.second = none) (st : Station) (g : Nat) :
    r.regrade st g = { r with best := Holder.given st g r.best, second := Holder.given st g r.second } := by
  rw [HolderRow.regrade_eq]
  unfold HolderRow.ordered
  rcases h with h | h
  · rw [h]
    rfl
  · rw [h]
    cases Holder.given st g r.best <;> rfl

/-! ## Segment 0 (R121, R128, R130) -/

/-- The fetch that a segment 0 of a body answers (R121). -/
def FetchEntry.answeredBy (e : FetchEntry) (s : State) (st : Station) (h : BodyHeader) : Prop :=
  (e.phase = .awaitingFirst ∨ e.phase = .awaitingFallback) ∧ (st = e.target ∨ e.fallback = some st ∨ h.requester = s.self)

/-- A segment 0 cancels its line's timer whose primary sent it, and where no fetch is answered it does no more. -/
theorem State.segmentZeroHeard_idle (st : Station) (g : Segment) (h : BodyHeader)
    (idle : ∀ e, s.fetchFor g.key g.line = some e → ¬e.answeredBy s st h) :
    s.segmentZeroHeard st g h = s.cancelTimers (fun t => t.isFor g.key g.line && t.primary == st) := by
  have same : (s.cancelTimers (fun t => t.isFor g.key g.line && t.primary == st)).self = s.self := rfl
  unfold State.segmentZeroHeard
  dsimp only
  rw [show (s.cancelTimers (fun t => t.isFor g.key g.line && t.primary == st)).fetchFor g.key g.line = s.fetchFor g.key g.line
    from rfl]
  cases hf : s.fetchFor g.key g.line with
  | none => rfl
  | some e => exact if_neg fun ha => idle e hf (by simpa [FetchEntry.answeredBy, or_assoc, same] using ha)

/-- The fetch that it answers is moved to RECEIVING. -/
theorem State.segmentZeroHeard_answers {st : Station} {g : Segment} {h : BodyHeader} {e : FetchEntry}
    (hf : s.fetchFor g.key g.line = some e) (ha : e.answeredBy s st h) : s.segmentZeroHeard st g h =
      (s.cancelTimers (fun t => t.isFor g.key g.line && t.primary == st)).updateFetch e
        { e with phase := .receiving, deadline := some (s.now + Config.bodyTime) } := by
  have same : (s.cancelTimers (fun t => t.isFor g.key g.line && t.primary == st)).self = s.self := rfl
  unfold State.segmentZeroHeard
  dsimp only
  rw [show (s.cancelTimers (fun t => t.isFor g.key g.line && t.primary == st)).fetchFor g.key g.line = some e from hf]
  exact if_pos (by simpa [FetchEntry.answeredBy, or_assoc, same] using ha)

/-- The context in its sender's place once segment 0 is heard (R130). -/
theorem State.takeSegment_zero {g : Segment} {h : BodyHeader} (hg : g.header = some h) {st : Station} {y : State}
    (hy : s.segmentZeroHeard st g h = y) : s.takeSegment g st =
      if (Sparse.find y.fetch.contexts st.val).any (fun c => c.waitingSlot.isSome) then y
      else y.setContext st.val (openContext g h) := by
  unfold State.takeSegment
  rw [hg]
  dsimp only
  rw [hy]

/-- Later segments find the context that segment 0 opened. -/
theorem State.takeSegment_later {g : Segment} (hg : g.header = none) (st : Station) : s.takeSegment g st =
      if (Sparse.find s.fetch.contexts st.val).any (fun c => c.waitingSlot.isSome) then s
      else s.takeLaterSegment st (Sparse.find s.fetch.contexts st.val) g := by
  unfold State.takeSegment
  rw [hg]

/-! ## Later segments (R131) -/

/-- The segment is the next of the body in the context. -/
def Context.fits (c : Context) (g : Segment) : Prop := c.key = g.key ∧ c.line = g.line ∧ c.count = g.count ∧ c.next = g.number

/-- The context with the segment's pixels. -/
def Context.grown (c : Context) (g : Segment) : Context :=
  { c with pixels := c.pixels ++ unpackGrays g.pixels, next := c.next + 1 }

theorem addSegment_goesOn {c : Context} {g : Segment} (h : c.fits g) (hn : g.number + 1 ≠ g.count) (he : g.endMark = false) :
    addSegment c g = .goesOn (c.grown g) := by
  obtain ⟨h1, h2, h3, h4⟩ := h
  unfold addSegment
  rw [if_pos (by simp [h1, h2, h3, h4]), if_neg hn, if_neg (by simp [he])]
  rfl

theorem addSegment_complete {c : Context} {g : Segment} (h : c.fits g) (hn : g.number + 1 = g.count) (he : g.endMark = true) :
    addSegment c g = .complete (c.grown g) := by
  obtain ⟨h1, h2, h3, h4⟩ := h
  unfold addSegment
  rw [if_pos (by simp [h1, h2, h3, h4]), if_pos hn, if_pos he]
  rfl

/-- A segment that is not the next, or whose end mark does not stand on the last, abandons the body. -/
theorem addSegment_abandoned {c : Context} {g : Segment} (h : ¬c.fits g ∨ (g.endMark = true ↔ g.number + 1 ≠ g.count)) :
    addSegment c g = .abandoned := by
  unfold addSegment
  by_cases hf : c.fits g
  · have marks := h.resolve_left (fun k => k hf)
    obtain ⟨h1, h2, h3, h4⟩ := hf
    rw [if_pos (by simp [h1, h2, h3, h4])]
    by_cases hn : g.number + 1 = g.count
    · rw [if_pos hn, if_neg fun he => marks.1 he hn]
    · rw [if_neg hn, if_pos (marks.2 hn)]
  · rw [if_neg fun k => hf (by simpa [Context.fits, and_assoc] using k)]

theorem State.takeLaterSegment_goesOn {c : Context} {g : Segment} (h : c.fits g) (hn : g.number + 1 ≠ g.count)
    (he : g.endMark = false) (st : Station) :
    s.takeLaterSegment st (some c) g = s.setContext st.val (some (c.grown g)) := by
  unfold State.takeLaterSegment
  dsimp only
  rw [addSegment_goesOn h hn he]

theorem State.takeLaterSegment_abandoned {c : Context} {g : Segment}
    (h : ¬c.fits g ∨ (g.endMark = true ↔ g.number + 1 ≠ g.count)) (st : Station) :
    s.takeLaterSegment st (some c) g = s.setContext st.val none := by
  unfold State.takeLaterSegment
  dsimp only
  rw [addSegment_abandoned h]

theorem State.takeLaterSegment_complete {c : Context} {g : Segment} (h : c.fits g) (hn : g.number + 1 = g.count)
    (he : g.endMark = true) (st : Station) : s.takeLaterSegment st (some c) g =
      match s.slotOfKey g.key with
      | none => (s.cancelTimers (fun t => t.isFor g.key g.line)).setContext st.val none
      | some slot => s.takeDueSteps.bodyComplete st (c.grown g) slot := by
  unfold State.takeLaterSegment
  dsimp only
  rw [addSegment_complete h hn he] <;> rfl

/-! ## A complete body (R132) -/

theorem State.nextBody_eq_none_iff (s : State) :
    s.nextBody = none ↔ ∀ n < 8, ∀ x, Sparse.find s.fetch.contexts n = some x → x.waitingSlot = none := by
  refine ⟨fun h n hn x hx => ?_, State.nextBody_none⟩
  have last := s.lineTable.lastServed.isLt
  have turn : n ∈ rotation s.lineTable.lastServed :=
    List.mem_map.2 ⟨(n + 7 + 8 - s.lineTable.lastServed.val) % 8, List.mem_range.2 (by omega), by omega⟩
  have served := List.findSome?_eq_none_iff.1 h n turn
  rw [hx] at served
  simpa using served

/-- The ASKs for a line that are withdrawn with its fetches are one withdrawal, where one waits (R119). -/
theorem Link.withdrawAsk_eq (l : Link) (fetches : List FetchEntry) (k : Key) (n : Nat) :
    { l with askDecline := withdrawFrom (fun q => (fetches.filter (fun e => e.isFor k n && decide (e.phase = .askQueued))).any
        (fun e => q.isAsk e.key e.line)) (l.attempt = some .askDecline) l.askDecline } =
      if ∃ e ∈ fetches, e.key = k ∧ e.line = n ∧ e.phase = .askQueued then l.withdrawAsk k n else l := by
  have isFor (e : FetchEntry) : (e.isFor k n && decide (e.phase = .askQueued)) = true ↔
      e.key = k ∧ e.line = n ∧ e.phase = .askQueued := by simp [FetchEntry.isFor, and_assoc]
  by_cases h : ∃ e ∈ fetches, e.key = k ∧ e.line = n ∧ e.phase = .askQueued
  · have asks : (fun q : QueuedFrame => (fetches.filter (fun e => e.isFor k n && decide (e.phase = .askQueued))).any
        (fun e => q.isAsk e.key e.line)) = QueuedFrame.isAsk k n := by
      funext q
      rw [Bool.eq_iff_iff, List.any_eq_true]
      constructor
      · rintro ⟨e, he, hq⟩
        obtain ⟨rfl, rfl, -⟩ := (isFor e).1 (List.mem_filter.1 he).2
        exact hq
      · intro hq
        obtain ⟨e, he, hk, hn, hp⟩ := h
        exact ⟨e, List.mem_filter.2 ⟨he, (isFor e).2 ⟨hk, hn, hp⟩⟩, by rw [hk, hn]; exact hq⟩
    rw [if_pos h, asks]
    rfl
  · have none : fetches.filter (fun e => e.isFor k n && decide (e.phase = .askQueued)) = [] :=
      List.filter_eq_nil_iff.2 fun e he hp => h ⟨e, he, (isFor e).1 hp⟩
    rw [if_neg h, none]
    simp only [List.any_nil, withdrawFrom_none]

/-- The state once the fetches and timers of a complete body's line have gone and its row is noted (R132, steps 2 and 3). -/
def State.bodyNoted (s : State) (st : Station) (c : Context) (slot : Nat) : State :=
  { s with
    slots := Sparse.modify s.slots slot (fun sl => sl.setRow c.line
      (if (sl.row c.line).lists st then { sl.row c.line with deferral := none }.regrade st c.grade
       else { sl.row c.line with deferral := none }))
    fetch := { s.fetch with
      timers := s.fetch.timers.filter (fun t => !decide (t.key = c.key ∧ t.line = c.line))
      fetches := s.fetch.fetches.filter (fun e => !decide (e.key = c.key ∧ e.line = c.line)) }
    link := if ∃ e ∈ s.fetch.fetches, e.key = c.key ∧ e.line = c.line ∧ e.phase = .askQueued then
        s.link.withdrawAsk c.key c.line
      else s.link }

theorem State.bodyComplete_eq (s : State) (st : Station) (c : Context) (slot : Nat) : s.bodyComplete st c slot =
    if (s.bodyNoted st c slot).writePlaceFree && (s.bodyNoted st c slot).nothingWaits then
      (s.bodyNoted st c slot).takeBody st.val c slot
    else (s.bodyNoted st c slot).setContext st.val (some { c with waitingSlot := some slot }) := by
  have fetches : (fun e : FetchEntry => !e.isFor c.key c.line) = fun e => !decide (e.key = c.key ∧ e.line = c.line) :=
    funext fun e => by simp [FetchEntry.isFor, beq_eq_decide]
  have timers : (fun t : FallbackTimer => !t.isFor c.key c.line) = fun t => !decide (t.key = c.key ∧ t.line = c.line) :=
    funext fun t => by simp [FallbackTimer.isFor, beq_eq_decide]
  have noted : ((s.retireWhere (fun e => e.isFor c.key c.line) false).cancelTimers (fun t => t.isFor c.key c.line)).modifyRow slot
      c.line (fun r => if ({ r with deferral := none } : HolderRow).lists st then { r with deferral := none }.regrade st c.grade
        else { r with deferral := none }) = s.bodyNoted st c slot := by
    rw [State.retireWhere_eq, Link.withdrawAsk_eq, State.cancelTimers, timers, fetches]
    rfl
  unfold State.bodyComplete
  dsimp only
  rw [noted]

/-- The body in a context goes to the LINE TABLE where its record holds its key still. -/
theorem State.takeBody_known {st : Station} {c : Context} {slot : Nat} {r : ChartRecord} (hr : s.record? slot = some r)
    (hk : r.key = c.key) : s.takeBody st.val c slot = State.takeCandidate { s with
      fetch := { s.fetch with contexts := Sparse.erase s.fetch.contexts st.val }
      lineTable := { s.lineTable with lastServed := st } } (bodyCandidate slot c) := by
  rw [State.takeBody_eq, hr, if_pos (by rw [Option.map_some, hk]), show Fin.ofNat 8 st.val = st from Fin.ext (Nat.mod_eq_of_lt st.isLt)]

theorem State.nothingWaits_iff (s : State) : s.nothingWaits = true ↔ ¬(s.lineTable.store ≠ none ∨ s.reception.buffers ≠ [] ∨
    ∃ m < 8, ∃ x, Sparse.find s.fetch.contexts m = some x ∧ x.waitingSlot ≠ none) := by
  simp only [State.nothingWaits, Bool.and_eq_true, Option.isNone_iff_eq_none, List.isEmpty_iff, State.nextBody_eq_none_iff,
    not_or, not_not, not_exists, not_and, and_assoc]

/-- What the two judgements after the row is noted look at is as it was (R31, R133). -/
theorem State.bodyNoted_waits (s : State) (st : Station) (c : Context) (slot : Nat) :
    ((s.bodyNoted st c slot).writePlaceFree && (s.bodyNoted st c slot).nothingWaits) = (s.writePlaceFree && s.nothingWaits) := rfl

theorem State.record_bodyNoted (s : State) (st : Station) (c : Context) (slot d : Nat) :
    (s.bodyNoted st c slot).record? d = s.record? d :=
  State.RowsOnly.record (l := (s.bodyNoted st c slot).slots) (State.RowsOnly.modify s slot (f := fun sl => sl.setRow c.line
    (if (sl.row c.line).lists st then { sl.row c.line with deferral := none }.regrade st c.grade
     else { sl.row c.line with deferral := none })) fun _ => ⟨rfl, rfl⟩) rfl d

/-- Settles O48: segment 0 by what it answers and opens, a later one by what it makes of its sender's context. -/
theorem bodySegmentsAssemble : Obligations.BodySegmentsAssemble := by
  constructor
  · intro r st g given
    exact ⟨r.lists_iff st, fun b x => HolderRow.regrade_two, fun few => HolderRow.regrade_few few st g⟩
  intro s frame f g run takes decoded payload peer b n context ended
  have taken : exec (.bodySegmentReceived frame) s = .next (b.takeSegment g f.sender).settle :=
    congrArg Host.Outcome.next (s.receive_eq frame f Payload.body? State.takeSegment g run takes decoded (by rw [payload]; rfl) peer)
  have same : s.SameTables b := s.sameTables_arrived frame f.sender
  clear_value b
  have found : Sparse.find b.fetch.contexts f.sender.val = context := by rw [same.fetch]
  have timerGone : (fun t : FallbackTimer => !(t.isFor g.key g.line && t.primary == f.sender)) =
      fun t => !decide (ended t ∧ t.primary = f.sender) :=
    funext fun t => by simp [FallbackTimer.isFor, ended, beq_eq_decide]
  refine ⟨?_, fun later => ⟨fun absent => ?_, ?_⟩⟩
  · intro h header opened answers consulted contexts place
    have placed (y : State) (fetches : List FetchEntry) (hy : b.segmentZeroHeard f.sender g h = y)
        (hz : y = { b with fetch := { s.fetch with
          timers := s.fetch.timers.filter (fun t => !decide (ended t ∧ t.primary = f.sender)), fetches := fetches } }) :
        exec (.bodySegmentReceived frame) s = .next (consulted fetches contexts) := by
      rw [taken, State.takeSegment_zero header hy, show Sparse.find y.fetch.contexts f.sender.val = context by rw [hz]]
      rcases place with ⟨⟨c, hc, waits⟩, rfl⟩ | ⟨free, rfl⟩
      · rw [if_pos (by simpa [hc, Option.isSome_iff_ne_none] using waits), hz]
      · rw [if_neg (by cases hc : context <;> simp [hc, free]), hz,
          show openContext g h = if g.endMark then none else some opened from rfl]
        cases g.endMark <;> rfl
    have answeredBy (e : FetchEntry) : e.answeredBy b f.sender h = answers e := by simp only [FetchEntry.answeredBy, same.self, answers]
    refine ⟨fun unanswered => placed _ _ (State.segmentZeroHeard_idle _ _ _ fun e he => ?_) ?_, fun e he ha =>
      placed _ _ (State.segmentZeroHeard_answers (by rw [same.fetchFor]; exact he) (by rw [answeredBy]; exact ha)) ?_⟩
    · rw [answeredBy]
      exact unanswered e (by rw [← same.fetchFor]; exact he)
    · rw [State.cancelTimers, timerGone, same.fetch]
    · rw [State.updateFetch, State.cancelTimers, timerGone, same.fetch]
      rfl
  · rw [taken, State.takeSegment_later later, found]
    rcases absent with absent | ⟨c, hc, waits⟩
    · rw [absent]
      rfl
    · rw [if_pos (by simpa [hc, Option.isSome_iff_ne_none] using waits)]
  · intro c present receiving fits grown idle timers
    have continued : exec (.bodySegmentReceived frame) s = .next (b.takeLaterSegment f.sender (some c) g).settle := by
      rw [taken, State.takeSegment_later later, found, present, if_neg (by simp [receiving])]
    have allGone : (fun t : FallbackTimer => !t.isFor g.key g.line) = fun t => !decide (ended t) :=
      funext fun t => by simp [FallbackTimer.isFor, ended, beq_eq_decide]
    rw [continued]
    refine ⟨fun next more open_ => ?_, fun broken => ?_, fun next last closed => ⟨fun unknown => ?_, ?_⟩⟩
    · rw [State.takeLaterSegment_goesOn next more open_, State.setContext, same.fetch]
      rfl
    · rw [State.takeLaterSegment_abandoned broken, State.setContext, same.fetch]
    · rw [State.takeLaterSegment_complete next last closed, same.slotOfKey, unknown]
      dsimp only
      rw [State.setContext, State.cancelTimers, allGone, same.fetch]
    · intro slot r known record keyed reads quiet complete otherWaits
      obtain ⟨hk, hl, -, -⟩ := id next
      have bReads : b.NoReads := ⟨by rw [same.port]; exact reads.lines, by rw [same.fetch]; exact reads.bodies⟩
      have bQuiet : b.lineTable.requests = [] := by rw [same.lineTable]; exact quiet
      have completed : b.takeLaterSegment f.sender (some c) g = b.bodyComplete f.sender grown slot := by
        rw [State.takeLaterSegment_complete next last closed, same.slotOfKey, known]
        dsimp only
        rw [b.takeDueSteps_of_idle bReads bQuiet]
        rfl
      have noted : b.bodyNoted f.sender grown slot = complete s.fetch.contexts s.lineTable.lastServed := by
        have keyIs : grown.key = g.key := hk
        have lineIs : grown.line = g.line := hl
        rw [State.bodyNoted, keyIs, lineIs, same.fetch, same.slots]
        simp only [complete, ← same.lineTable]
        rfl
      have waits : b.nothingWaits = true ↔ ¬otherWaits := by
        simp only [State.nothingWaits_iff, same.lineTable, same.reception, same.fetch, otherWaits]
      have free : b.writePlaceFree = decide (s.lineTable.queue.length < 4) := by
        rw [State.writePlaceFree, same.lineTable, Config.writeQueuePlaces]
      have judged : (b.writePlaceFree && b.nothingWaits) = true ↔ s.lineTable.queue.length < 4 ∧ ¬otherWaits := by
        rw [Bool.and_eq_true, waits, free, decide_eq_true_iff]
      rw [completed, State.bodyComplete_eq, State.bodyNoted_waits]
      refine ⟨fun room alone => ?_, fun must => ?_⟩
      · have stands : (b.bodyNoted f.sender grown slot).record? slot = some r := by rw [State.record_bodyNoted, same.record, record]
        rw [if_pos (judged.2 ⟨room, alone⟩), State.takeBody_known (c := grown) stands (keyed.trans hk.symm), noted]
        simp only [bodyCandidate, show grown.line = g.line from hl]
        rfl
      · rw [if_neg fun both => must.elim (fun full => absurd (judged.1 both).1 (by omega)) (judged.1 both).2, noted]
        rfl

end Sys2Proof.Machine
end

section
/-!
PROOF. What follows every command at once: the statement SettleIssuesAsks.
-/
namespace Sys2Proof.Machine

variable {s t : State}

/-! ## The first of the rising keys -/

/-- In a list by rising keys the first hit is the hit of the lowest key. -/
theorem Sparse.findSome_lowest {α β : Type} {l : List (Nat × α)} {f : Nat × α → Option β} {y : β} (ordered : Sparse.Rising l)
    (h : l.findSome? f = some y) : ∃ p ∈ l, f p = some y ∧ ∀ q ∈ l, (f q).isSome → p.1 ≤ q.1 := by
  induction l with
  | nil => cases h
  | cons a rest ih =>
    obtain ⟨before, ordered'⟩ := List.pairwise_cons.1 ordered
    rw [List.findSome?_cons] at h
    cases hf : f a with
    | some z =>
      rw [hf] at h
      exact ⟨a, by simp, hf.trans h, fun q hq _ => (List.mem_cons.1 hq).elim (fun e => e ▸ le_rfl) fun m => (before q m).le⟩
    | none =>
      rw [hf] at h
      obtain ⟨p, hp, hy, low⟩ := ih ordered' h
      exact ⟨p, by simp [hp], hy, fun q hq some => (List.mem_cons.1 hq).elim (fun e => by simp [e, hf] at some) fun m => low q m some⟩

/-! ## What an ASK is for (R117, R118) -/

/-- The line is held by its SHADOW entry, whose reference grade is `g` (R27, R144). -/
def State.heldBy (s : State) (c n g : Nat) : Prop :=
  ∃ m x, s.shadow? c n = some (m, x) ∧ (s.hold c = .frozen ∨ s.hold c = .thawing ∧ x.merging = false) ∧
    g = x.pending.getD (x.written.getD 0)

/-- A grade is accepted for a line, from 3 up (R25, R117). -/
def State.accepts (s : State) (c n g : Nat) : Prop :=
  3 ≤ g ∧
    (∀ x, s.heldBy c n x → max ((s.entry c n).pending.getD (s.entry c n).committed) x < g ∧
      max ((s.entry c n).pending.getD (s.entry c n).committed) x + s.config.settings.margin ≤ g) ∧
    ((∀ x, ¬s.heldBy c n x) → ((s.entry c n).committed = 0 ∧ (s.entry c n).pending = none) ∨
      ((s.entry c n).pending.getD (s.entry c n).committed < g ∧
        (s.entry c n).pending.getD (s.entry c n).committed + s.config.settings.margin ≤ g))

/-- A line that no SHADOW entry holds is judged by its own entry alone. -/
theorem State.lineReference_free {c n : Nat} (h : ∀ g, ¬s.heldBy c n g) :
    s.lineReference c n = referenceGrade (s.entry c n) none := by
  have free : ∀ m x, s.shadow? c n = some (m, x) → ¬(s.hold c = .frozen ∨ s.hold c = .thawing ∧ x.merging = false) :=
    fun m x hs held => h _ ⟨m, x, hs, held, rfl⟩
  unfold State.lineReference
  cases hold : s.hold c with
  | none => rw [State.heldReference_none (.inl hold)]; rfl
  | frozen =>
    cases hs : s.shadow? c n with
    | none => rw [State.heldReference_frozen hs hold]; rfl
    | some p => exact absurd (.inl hold) (free p.1 p.2 hs)
  | thawing =>
    rw [State.heldReference_none (.inr ⟨hold, fun m x hs => by simpa [hold] using free m x hs⟩)]
    rfl

theorem State.worthAsking_iff (s : State) (c n g : Nat) : s.worthAsking c n g = true ↔ s.accepts c n g := by
  unfold State.worthAsking State.accepts
  rw [Bool.and_eq_true, decide_eq_true_iff]
  refine and_congr_right fun low => ?_
  by_cases h : ∃ x, s.heldBy c n x
  · obtain ⟨x, m, p, hs, held, rfl⟩ := h
    have by_p : s.heldBy c n (p.pending.getD (p.written.getD 0)) := ⟨m, p, hs, held, rfl⟩
    have reference : s.lineReference c n =
        some (max ((s.entry c n).pending.getD (s.entry c n).committed) (p.pending.getD (p.written.getD 0))) := by
      unfold State.lineReference
      rw [State.heldReference_shadow hs held, p.reference_eq]
      rfl
    rw [reference, replaces_some_iff]
    constructor
    · intro beats
      refine ⟨fun y hy => ?_, fun none => absurd by_p (none _)⟩
      obtain ⟨m', p', hs', -, rfl⟩ := hy
      cases hs.symm.trans hs'
      exact beats
    · exact fun both => both.1 _ by_p
  · have free : ∀ x, ¬s.heldBy c n x := not_exists.1 h
    rw [State.lineReference_free free, replaces_referenceGrade_iff (by omega)]
    exact ⟨fun beats => ⟨fun x hx => absurd hx (free x), fun _ => beats⟩, fun both => both.2 free⟩

/-- The ROSTER lists the peer as LIVE. -/
def State.livePeer (s : State) (st : Station) : Prop := ∃ e, Sparse.find s.roster.peers st.val = some e ∧ e.state = .live

theorem State.isLive_iff (s : State) (st : Station) : s.isLive st = true ↔ s.livePeer st := by
  simp [State.isLive, State.livePeer, Option.any_eq_true]

theorem State.eligible_iff (s : State) (c : Nat) (r : ChartRecord) (n : Nat) (row : HolderRow) (b : Holder) :
    s.eligible c r n row = some b ↔ r.state ≠ .aligning ∧ row.best = some b ∧ s.livePeer b.station ∧ s.accepts c n b.grade ∧
      (∀ e ∈ s.fetch.fetches, ¬(e.key = r.key ∧ e.line = n) ∧ e.target ≠ b.station) ∧ row.deferral = none ∧
      row.exhausted = false ∧ s.fetch.fetches.length < 4 ∧ s.link.mute = false := by
  unfold State.eligible
  cases hb : row.best with
  | none => simp
  | some x =>
    have stands : ((s.fetchFor r.key n).isNone = true ∧ (s.fetchOf x.station).isNone = true) ↔
        ∀ e ∈ s.fetch.fetches, ¬(e.key = r.key ∧ e.line = n) ∧ e.target ≠ x.station := by
      simp [State.fetchFor, State.fetchOf, FetchEntry.isFor, List.find?_eq_none, forall_and]
    constructor
    · intro h
      obtain ⟨holds, hx⟩ := Option.ite_none_right_eq_some.1 h
      cases hx
      simp only [Bool.and_eq_true, decide_eq_true_eq, bne_iff_ne, Bool.not_eq_true', Option.isNone_iff_eq_none,
        State.isLive_iff, State.worthAsking_iff] at holds stands
      obtain ⟨⟨⟨⟨⟨⟨⟨⟨state, live⟩, worth⟩, line⟩, deferral⟩, exhausted⟩, room⟩, target⟩, mute⟩ := holds
      exact ⟨state, rfl, live, worth, stands.1 ⟨line, target⟩, deferral, exhausted, room, mute⟩
    · rintro ⟨state, hx, live, worth, fetches, deferral, exhausted, room, mute⟩
      cases hx
      obtain ⟨line, target⟩ := stands.2 fetches
      exact if_pos (by simp [state, s.isLive_iff, live, s.worthAsking_iff, worth, line, deferral, exhausted, room, target, mute])

theorem State.fallbackOf_iff (s : State) (c n : Nat) (row : HolderRow) (f : Station) : s.fallbackOf c n row = some f ↔
    ∃ x, row.second = some x ∧ f = x.station ∧ s.config.settings.fallbackEnable = true ∧ s.livePeer f ∧
      s.accepts c n x.grade := by
  unfold State.fallbackOf
  cases hx : row.second with
  | none => simp
  | some x =>
    simp only [Option.ite_none_right_eq_some, Bool.and_eq_true, State.isLive_iff, State.worthAsking_iff, Option.some.injEq,
      exists_eq_left']
    constructor
    · rintro ⟨⟨⟨enabled, live⟩, worth⟩, rfl⟩
      exact ⟨rfl, enabled, live, worth⟩
    · rintro ⟨rfl, enabled, live, worth⟩
      exact ⟨⟨⟨enabled, live⟩, worth⟩, rfl⟩

/-- The slot's record and the line's row are these, and the line is eligible with `b` as its best holder. -/
def State.asksFor (s : State) (c : Nat) (r : ChartRecord) (n : Nat) (row : HolderRow) (b : Holder) : Prop :=
  (s.slot? c).map (fun sl => (sl.record, sl.row n)) = some (r, row) ∧ s.eligible c r n row = some b

/-- An eligible line has a row. -/
theorem Slot.mem_rows_of_best {sl : Slot} {n : Nat} {b : Holder} (h : (sl.row n).best = some b) : (n, sl.row n) ∈ sl.rows := by
  unfold Slot.row at h ⊢
  cases hr : Sparse.find sl.rows n with
  | none => rw [hr] at h; cases h
  | some row => exact Sparse.mem_of_find hr

/-- The line found is eligible, and it is the lowest of the lowest slot (R118). -/
theorem State.nextEligible_lowest (ordered : s.TablesOrdered) {c n : Nat} {r : ChartRecord} {row : HolderRow} {b : Holder}
    (h : s.nextEligible = some (c, r, n, row, b)) : s.asksFor c r n row b ∧
      ∀ c' r' n' row' b', s.asksFor c' r' n' row' b' → c < c' ∨ c = c' ∧ n ≤ n' := by
  obtain ⟨⟨c₀, sl⟩, hp, inner, lowSlot⟩ := Sparse.findSome_lowest ordered.slots h
  obtain ⟨⟨n₀, row₀⟩, hq, found, lowLine⟩ := Sparse.findSome_lowest (ordered.rows _ hp) inner
  obtain ⟨b₀, eligible, same⟩ := Option.map_eq_some_iff.1 found
  cases same
  have slotIs : s.slot? c₀ = some sl := Sparse.find_of_mem ordered.slots hp
  have rowIs : sl.row n₀ = row₀ := by
    unfold Slot.row
    rw [Sparse.find_of_mem (ordered.rows _ hp) hq]
    rfl
  refine ⟨⟨by rw [slotIs, Option.map_some, rowIs], eligible⟩, fun c' r' n' row' b' ⟨at', eligible'⟩ => ?_⟩
  obtain ⟨sl', hsl', same'⟩ := Option.map_eq_some_iff.1 at'
  cases same'
  obtain ⟨-, best', -⟩ := (s.eligible_iff _ _ _ _ _).1 eligible'
  have hit (q : Nat × HolderRow) (hq : q = (n', sl'.row n')) : ((s.eligible c' sl'.record q.1 q.2).map
      (fun b => (c', sl'.record, q.1, q.2, b))).isSome := by rw [hq, eligible']; rfl
  have rowMem := Slot.mem_rows_of_best best'
  have slotLow : c₀ ≤ c' := lowSlot (c', sl') (Sparse.mem_of_find hsl') (List.findSome?_isSome_iff.2 ⟨_, rowMem, hit _ rfl⟩)
  rcases Nat.lt_or_eq_of_le slotLow with lower | rfl
  · exact .inl lower
  · cases slotIs.symm.trans hsl'
    exact .inr ⟨rfl, lowLine _ rowMem (hit _ rfl)⟩

theorem State.eligible_of_nextEligible {c n : Nat} {r : ChartRecord} {row : HolderRow} {b : Holder}
    (h : s.nextEligible = some (c, r, n, row, b)) : s.eligible c r n row = some b := by
  obtain ⟨p, -, inner⟩ := List.exists_of_findSome?_eq_some h
  obtain ⟨q, -, found⟩ := List.exists_of_findSome?_eq_some inner
  obtain ⟨x, eligible, same⟩ := Option.map_eq_some_iff.1 found
  cases same
  exact eligible

/-- An eligible line leaves something to be found. -/
theorem State.nextEligible_isSome {c n : Nat} {r : ChartRecord} {row : HolderRow} {b : Holder} (h : s.asksFor c r n row b) :
    s.nextEligible.isSome := by
  obtain ⟨at', eligible⟩ := h
  obtain ⟨sl, hsl, same⟩ := Option.map_eq_some_iff.1 at'
  cases same
  obtain ⟨-, best, -⟩ := (s.eligible_iff _ _ _ _ _).1 eligible
  exact List.findSome?_isSome_iff.2 ⟨_, Sparse.mem_of_find hsl, List.findSome?_isSome_iff.2 ⟨_, Slot.mem_rows_of_best best, by
    rw [eligible]; rfl⟩⟩

theorem State.nextEligible_iff (ordered : s.TablesOrdered) (c : Nat) (r : ChartRecord) (n : Nat) (row : HolderRow) (b : Holder) :
    s.nextEligible = some (c, r, n, row, b) ↔ s.asksFor c r n row b ∧
      ∀ c' r' n' row' b', s.asksFor c' r' n' row' b' → c < c' ∨ c = c' ∧ n ≤ n' := by
  refine ⟨State.nextEligible_lowest ordered, fun ⟨asks, low⟩ => ?_⟩
  obtain ⟨⟨c', r', n', row', b'⟩, found⟩ := Option.isSome_iff_exists.1 (State.nextEligible_isSome asks)
  obtain ⟨asks', low'⟩ := State.nextEligible_lowest ordered found
  obtain ⟨rfl, rfl⟩ : c = c' ∧ n = n' := by
    have one := low _ _ _ _ _ asks'
    have two := low' _ _ _ _ _ asks
    omega
  obtain ⟨at₁, eligible₁⟩ := asks
  obtain ⟨at₂, eligible₂⟩ := asks'
  cases at₁.symm.trans at₂
  cases eligible₁.symm.trans eligible₂
  exact found

/-! ## The queue takes an ASK (R56) -/

/-- The places of the queue that cannot be given up: the frame in flight. -/
def Link.flying (l : Link) : Nat := if l.attempt = some .askDecline then 1 else 0

theorem removeFirst_eq {α : Type} (p : α → Bool) (l : List α) : removeFirst p l = if l.any p then some (l.eraseP p) else none := by
  induction l with
  | nil => rfl
  | cons x rest ih =>
    unfold removeFirst
    cases hx : p x with
    | true => simp [hx]
    | false => cases hr : rest.any p <;> simp [hx, ih, hr]

/-- The oldest DECLINE not in flight gives up its place, where there is one. -/
theorem displaceOldest_eq (p : QueuedFrame → Bool) (inFlight : Bool) {q : List QueuedFrame} (h : q ≠ []) :
    displaceOldest p inFlight q = if (q.drop (if inFlight then 1 else 0)).any p then
      some (q.take (if inFlight then 1 else 0) ++ (q.drop (if inFlight then 1 else 0)).eraseP p) else none := by
  cases q with
  | nil => exact absurd rfl h
  | cons x rest =>
    cases inFlight with
    | false => exact removeFirst_eq p (x :: rest)
    | true =>
      have head : displaceOldest p true (x :: rest) = (removeFirst p rest).map (x :: ·) := rfl
      rw [head, removeFirst_eq]
      cases hr : rest.any p <;> simp [hr]

theorem Link.queueAsk_room {l : Link} (mute : l.mute = false) (room : l.askDecline.length < 8) (a : Ask) :
    l.queueAsk a = some { l with askDecline := l.askDecline ++ [QueuedFrame.fresh (.ask a)] } := by
  simp [Link.queueAsk, mute, joinQueue, room]

theorem Link.queueAsk_full {l : Link} (mute : l.mute = false) (full : 8 ≤ l.askDecline.length) (a : Ask) :
    l.queueAsk a = if (l.askDecline.drop l.flying).any QueuedFrame.isDecline then
      some { l with askDecline := (l.askDecline.take l.flying ++ (l.askDecline.drop l.flying).eraseP QueuedFrame.isDecline) ++
        [QueuedFrame.fresh (.ask a)] } else none := by
  have filled : l.askDecline ≠ [] := fun e => by simp [e] at full
  have flies : (if l.inFlight .askDecline then 1 else 0) = l.flying := by simp [Link.inFlight, Link.flying]
  unfold Link.queueAsk joinQueue
  rw [mute, if_neg (by simp), if_neg (by omega), displaceOldest_eq _ _ filled, flies]
  split <;> rfl

theorem Link.queueAsk_frame {l m : Link} {a : Ask} (h : l.queueAsk a = some m) : m = { l with askDecline := m.askDecline } := by
  unfold Link.queueAsk at h
  split at h
  · cases h
  · obtain ⟨q, -, rfl⟩ := Option.map_eq_some_iff.1 h
    rfl

/-- Whether an ASK is dropped does not depend on the ASK. -/
theorem Link.queueAsk_dropped {l : Link} {a : Ask} (h : l.queueAsk a = none) (a' : Ask) : l.queueAsk a' = none := by
  cases mute : l.mute with
  | true => simp [Link.queueAsk, mute]
  | false =>
    rcases Nat.lt_or_ge l.askDecline.length 8 with room | full
    · rw [Link.queueAsk_room mute room] at h
      cases h
    · rw [Link.queueAsk_full mute full] at h ⊢
      split at h
      · cases h
      · next none => rw [if_neg none]

/-! ## ASKs are issued one after the other (R118) -/

/-- The fetch of an ASK just queued (R119). -/
def State.askFetch (s : State) (c : Nat) (r : ChartRecord) (n : Nat) (row : HolderRow) (b : Holder) : FetchEntry :=
  { target := b.station, fallback := s.fallbackOf c n row, slot := c, key := r.key, line := n, phase := .askQueued, deadline := none }

/-- The ASK for a line (R118). -/
def State.askOf (s : State) (c : Nat) (r : ChartRecord) (n : Nat) (row : HolderRow) (b : Holder) : Ask :=
  { key := r.key, line := n, primary := b.station, fallback := s.fallbackOf c n row }

theorem State.issueAsk_queued {c n : Nat} {r : ChartRecord} {row : HolderRow} {b : Holder} {l : Link}
    (h : s.link.queueAsk (s.askOf c r n row b) = some l) : s.issueAsk c r n row b =
      { s with link := l, fetch := { s.fetch with fetches := s.fetch.fetches ++ [s.askFetch c r n row b] } } := by
  unfold State.issueAsk
  dsimp only
  rw [show s.link.queueAsk { key := r.key, line := n, primary := b.station, fallback := s.fallbackOf c n row } = some l from h] <;> rfl

theorem State.issueAsk_dropped {c n : Nat} {r : ChartRecord} {row : HolderRow} {b : Holder}
    (h : s.link.queueAsk (s.askOf c r n row b) = none) : s.issueAsk c r n row b = s := by
  unfold State.issueAsk
  dsimp only
  rw [show s.link.queueAsk { key := r.key, line := n, primary := b.station, fallback := s.fallbackOf c n row } = none from h]

/-- No more ASKs go out: no line is eligible, or the queue drops what is asked. -/
def State.askedOut (s : State) : Prop := s.nextEligible = none ∨ ∀ a, s.link.queueAsk a = none

theorem State.issueAsksUpTo_askedOut (h : s.askedOut) (k : Nat) : s.issueAsksUpTo k = s := by
  induction k with
  | zero => rfl
  | succ k ih =>
    unfold State.issueAsksUpTo
    split
    · next c r n row b next =>
      rw [State.issueAsk_dropped (h.resolve_left (by simp [next]) _), ih]
    · rfl

/-- One ASK issued is a fetch more. -/
theorem State.issueAsk_length {c n : Nat} {r : ChartRecord} {row : HolderRow} {b : Holder} (h : ¬s.askedOut) :
    (s.issueAsk c r n row b).fetch.fetches.length = s.fetch.fetches.length + 1 := by
  cases hq : s.link.queueAsk (s.askOf c r n row b) with
  | none => exact absurd (.inr (Link.queueAsk_dropped hq)) h
  | some l => rw [State.issueAsk_queued hq, List.length_append]; rfl

theorem State.askedOut_of_full (h : 4 ≤ s.fetch.fetches.length) : s.askedOut := by
  refine .inl (Option.eq_none_iff_forall_not_mem.2 fun x hx => ?_)
  have := State.nextEligible_fetches hx
  omega

/-- As many ASKs as there are fetch places are all that go out. -/
theorem State.askedOut_issueAsksUpTo (k : Nat) (h : 4 ≤ s.fetch.fetches.length + k) : (s.issueAsksUpTo k).askedOut := by
  induction k generalizing s with
  | zero => exact State.askedOut_of_full h
  | succ k ih =>
    by_cases out : s.askedOut
    · rw [State.issueAsksUpTo_askedOut out]
      exact out
    · unfold State.issueAsksUpTo
      split
      · exact ih (by rw [State.issueAsk_length out]; omega)
      · next none => exact .inl none

theorem State.issueAsksUpTo_succ (k : Nat) (h : (s.issueAsksUpTo k).askedOut) : s.issueAsksUpTo (k + 1) = s.issueAsksUpTo k := by
  induction k generalizing s with
  | zero => exact State.issueAsksUpTo_askedOut h 1
  | succ k ih =>
    cases found : s.nextEligible with
    | none => rw [State.issueAsksUpTo_askedOut (.inl found), State.issueAsksUpTo_askedOut (.inl found)]
    | some x =>
      have step (j : Nat) : s.issueAsksUpTo (j + 1) = (s.issueAsk x.1 x.2.1 x.2.2.1 x.2.2.2.1 x.2.2.2.2).issueAsksUpTo j := by
        rw [State.issueAsksUpTo, found]
      rw [step (k + 1), step k]
      exact ih (by rwa [step k] at h)

theorem State.askedOut_issueAsks (s : State) : s.issueAsks.askedOut := State.askedOut_issueAsksUpTo 4 (by omega)

/-- The first ASK goes out, and then the same goes on from there. -/
theorem State.issueAsks_next {c n : Nat} {r : ChartRecord} {row : HolderRow} {b : Holder}
    (h : s.nextEligible = some (c, r, n, row, b)) : s.issueAsks = (s.issueAsk c r n row b).issueAsks := by
  by_cases out : s.askedOut
  · rw [State.issueAsk_dropped (out.resolve_left (by simp [h]) _)]
  · have three : s.issueAsks = (s.issueAsk c r n row b).issueAsksUpTo 3 := by
      rw [State.issueAsks, State.issueAsksUpTo, h]
    have enough : ((s.issueAsk c r n row b).issueAsksUpTo 3).askedOut :=
      State.askedOut_issueAsksUpTo 3 (by rw [State.issueAsk_length out]; omega)
    rw [three]
    exact (State.issueAsksUpTo_succ 3 enough).symm

/-- What issuing ASKs changes: the ASK queue grows or gives up DECLINEs, and fetches in ASK_QUEUED join the list. -/
structure State.AskedFrom (s t : State) : Prop where
  frame : t = { s with
    link := { s.link with askDecline := t.link.askDecline }, fetch := { s.fetch with fetches := t.fetch.fetches } }
  joined : ∃ new, t.fetch.fetches = s.fetch.fetches ++ new ∧ ∀ e ∈ new, e.phase = .askQueued ∧ e.deadline = none
  few : s.fetch.fetches.length ≤ 4 → t.fetch.fetches.length ≤ 4

theorem State.AskedFrom.refl (s : State) : s.AskedFrom s := ⟨rfl, ⟨[], by simp⟩, id⟩

theorem State.AskedFrom.trans {s t u : State} (h : s.AskedFrom t) (g : t.AskedFrom u) : s.AskedFrom u := by
  obtain ⟨new, hn, queued⟩ := h.joined
  obtain ⟨more, hm, queued'⟩ := g.joined
  refine ⟨g.frame.trans ?_, ⟨new ++ more, by rw [hm, hn, List.append_assoc], fun e he => ?_⟩, g.few ∘ h.few⟩
  · rw [h.frame]
  · exact (List.mem_append.1 he).elim (queued e) (queued' e)

theorem State.issueAsk_asked {c n : Nat} {r : ChartRecord} {row : HolderRow} {b : Holder}
    (h : s.nextEligible = some (c, r, n, row, b)) : s.AskedFrom (s.issueAsk c r n row b) := by
  have room := State.nextEligible_fetches h
  cases hq : s.link.queueAsk (s.askOf c r n row b) with
  | none => rw [State.issueAsk_dropped hq]; exact .refl s
  | some l =>
    rw [State.issueAsk_queued hq]
    refine ⟨?_, ⟨[s.askFetch c r n row b], rfl, by simp [State.askFetch]⟩, fun _ => by simp; omega⟩
    dsimp only
    rw [← Link.queueAsk_frame hq]

theorem State.issueAsksUpTo_asked (s : State) (k : Nat) : s.AskedFrom (s.issueAsksUpTo k) := by
  induction k generalizing s with
  | zero => exact .refl s
  | succ k ih =>
    unfold State.issueAsksUpTo
    split
    · next h => exact (State.issueAsk_asked h).trans (ih _)
    · exact .refl s

/-! ## What follows every command (R49, R50, R118) -/

/-- The transmitter after every command: a waiting frame wakes it, and byte 0 won lets it send (R49, R50). -/
def State.transmitterSettled (s : State) (waiting : Option FrameClass) : Transmitter :=
  if s.link.transmitter = .free ∧ s.link.mute = false ∧ s.roster.state = .joined ∧ waiting ≠ none then .waiting
  else if s.link.transmitter = .arbitrating ∧ s.link.frameStart + 9 ≤ s.now then .sending
  else s.link.transmitter

theorem State.settle_eq (s : State) : s.settle = { s.issueAsks with
    link := { s.issueAsks.link with transmitter := s.issueAsks.transmitterSettled s.issueAsks.link.lowestClass } } := by
  unfold State.settle
  generalize s.issueAsks = u
  have wakes : (u.link.transmitter = .free && u.sendingAllowed && u.link.lowestClass.isSome) = true ↔
      u.link.transmitter = .free ∧ u.link.mute = false ∧ u.roster.state = .joined ∧ u.link.lowestClass ≠ none := by
    simp [State.sendingAllowed, Option.isSome_iff_ne_none, and_assoc]
  unfold State.wakeTransmitter State.enterSending State.transmitterSettled
  split
  · next h => rw [if_pos (wakes.1 h)]; rfl
  · next h => rw [if_neg fun k => h (wakes.2 k)]

/-- The ASKs of the state after one ASK are the rest of its own. -/
theorem State.settle_next {c n : Nat} {r : ChartRecord} {row : HolderRow} {b : Holder}
    (h : s.nextEligible = some (c, r, n, row, b)) : s.settle = (s.issueAsk c r n row b).settle := by
  unfold State.settle
  rw [State.issueAsks_next h]

theorem State.settle_frame (s : State) : ∃ queue fetches, s.issueAsks = { s with
    link := { s.link with askDecline := queue }, fetch := { s.fetch with fetches := fetches } } :=
  ⟨_, _, (s.issueAsksUpTo_asked 4).frame⟩

/-- A settled state has no more to ask. -/
theorem State.settle_askedOut (s : State) : s.settle.askedOut := by
  have out := s.askedOut_issueAsks
  rw [State.settle_eq]
  refine out.imp id fun dropped a => ?_
  have := dropped a
  unfold Link.queueAsk at this ⊢
  split at this
  · next mute => exact if_pos mute
  · next unmuted => rw [if_neg unmuted, Option.map_eq_none_iff] at *; exact this

/-- Settles O15: what one ASK does, carried over the run of ASKs, and then the transmitter. -/
theorem settleIssuesAsks : Obligations.SettleIssuesAsks := by
  intro s t live beats held accepts eligible
  have asked := s.issueAsksUpTo_asked 4
  have settled : t = _ := s.settle_eq
  have fetched : t.fetch = s.issueAsks.fetch := by rw [settled]
  have queued : t.link.askDecline = s.issueAsks.link.askDecline := by rw [settled]
  have dropped (h : s.askedOut) : t.link.askDecline = s.link.askDecline ∧ t.fetch = s.fetch := by
    rw [fetched, queued, State.issueAsks, State.issueAsksUpTo_askedOut h]
    exact ⟨rfl, rfl⟩
  have goesOn {c n : Nat} {r : ChartRecord} {row : HolderRow} {b : Holder} (h : s.nextEligible = some (c, r, n, row, b)) {l : Link}
      (hl : s.link.queueAsk (s.askOf c r n row b) = some l) : t = State.settle
        { s with link := l, fetch := { s.fetch with fetches := s.fetch.fetches ++ [s.askFetch c r n row b] } } := by
    rw [← State.issueAsk_queued hl]
    exact State.settle_next h
  have unmuted {c n : Nat} {r : ChartRecord} {row : HolderRow} {b : Holder} (h : s.nextEligible = some (c, r, n, row, b)) :
      s.link.mute = false := by
    obtain ⟨-, -, -, -, -, -, -, -, mute⟩ := (s.eligible_iff _ _ _ _ _).1 (State.eligible_of_nextEligible h)
    exact mute
  have spelled (c : Nat) (r : ChartRecord) (n : Nat) (row : HolderRow) (b : Holder) :
      s.asksFor c r n row b ↔ eligible c r n row b := and_congr_right fun _ => s.eligible_iff c r n row b
  refine ⟨fun ordered c r n row b => ?_, s.fallbackOf_iff, ?_, ?_, ?_, ?_, ?_, ?_, fun none => dropped (.inl none), ?_⟩
  · simp only [← spelled]
    exact State.nextEligible_iff ordered c r n row b
  · obtain ⟨queue, fetches, hu⟩ := s.settle_frame
    rw [settled, hu]
  · rw [fetched]
    exact asked.joined
  · rw [fetched]
    exact asked.few
  · intro c r n row b found
    exact s.settle_askedOut.resolve_left (by rw [show s.settle = t from rfl, found]; simp)
  · intro c r n row b found room
    have first := goesOn found (Link.queueAsk_room (unmuted found) room _)
    obtain ⟨rest, joined, -⟩ := (State.issueAsksUpTo_asked { s with
      link := { s.link with askDecline := s.link.askDecline ++ [QueuedFrame.fresh (.ask (s.askOf c r n row b))] }
      fetch := { s.fetch with fetches := s.fetch.fetches ++ [s.askFetch c r n row b] } } 4).joined
    refine ⟨rest, ?_⟩
    rw [first, State.settle_eq]
    exact joined.trans (by rw [List.append_assoc]; rfl)
  · intro c r n row b found ask fetch issued flying isDecline
    refine ⟨fun room => goesOn found (Link.queueAsk_room (unmuted found) room _), fun full declines => ?_, fun full none => ?_⟩
    · exact goesOn found ((Link.queueAsk_full (unmuted found) full _).trans (if_pos declines))
    · exact dropped (.inr (Link.queueAsk_dropped ((Link.queueAsk_full (unmuted found) full ask).trans (if_neg (by
        rw [show (s.link.askDecline.drop s.link.flying).any QueuedFrame.isDecline = false from none]; simp)))))
  · have class' : t.link.lowestClass = s.issueAsks.link.lowestClass := by rw [settled]; rfl
    obtain ⟨queue, fetches, hu⟩ := s.settle_frame
    have same (waiting : Option FrameClass) : s.issueAsks.transmitterSettled waiting = s.transmitterSettled waiting := by rw [hu]; rfl
    rw [class', settled]
    exact same _

end Sys2Proof.Machine
end

section
/-!
PROOF. What a warm reset keeps of the charts: the statement WarmResetKeepsCharts.
-/
namespace Sys2Proof.Machine

variable {s t : State}

/-! ## Tables read after a change -/

theorem Slot.entry_setEntry (sl : Slot) (n m : Nat) (e : LineEntry) :
    (sl.setEntry n e).entry m = if m = n then e else sl.entry m := by
  unfold Slot.entry Slot.setEntry
  dsimp only
  by_cases h : m = n
  · subst h
    rw [if_pos rfl]
    split
    · next empty => rw [Sparse.find_erase_same, empty]; rfl
    · rw [Sparse.find_put_same]; rfl
  · rw [if_neg h]
    split
    · rw [Sparse.find_erase_other _ _ _ h]
    · rw [Sparse.find_put_other _ _ _ _ h]

/-- In a table by rising keys a key leads to what stands at it. -/
theorem Sparse.find_iff {α : Type} {m : List (Nat × α)} (h : Sparse.Rising m) (n : Nat) (v : α) :
    Sparse.find m n = some v ↔ (n, v) ∈ m := ⟨Sparse.mem_of_find, Sparse.find_of_mem h⟩

/-- A table changed value by value, its empty values left out, reads as changed. -/
theorem Sparse.find_trimmed {α : Type} [DecidableEq α] {m : List (Nat × α)} (h : Sparse.Rising m) {f : α → α} {d : α}
    (hd : f d = d) (n : Nat) : (Sparse.find ((m.map (fun p => (p.1, f p.2))).filter (fun p => p.2 != d)) n).getD d =
      f ((Sparse.find m n).getD d) := by
  have rising : Sparse.Rising ((m.map (fun p => (p.1, f p.2))).filter (fun p => p.2 != d)) :=
    Sparse.rising_filter _ (Sparse.rising_map _ (fun _ => rfl) h)
  have mem (v : α) : (n, v) ∈ (m.map (fun p => (p.1, f p.2))).filter (fun p => p.2 != d) ↔
      (∃ u, Sparse.find m n = some u ∧ f u = v) ∧ v ≠ d := by
    simp [Sparse.find_iff h]
  cases hf : Sparse.find ((m.map (fun p => (p.1, f p.2))).filter (fun p => p.2 != d)) n with
  | some v =>
    obtain ⟨⟨u, hu, rfl⟩, -⟩ := (mem v).1 (Sparse.mem_of_find hf)
    rw [hu]
    rfl
  | none =>
    cases hu : Sparse.find m n with
    | none => exact hd.symm
    | some u =>
      by_contra changed
      have := (Sparse.find_iff rising n (f u)).2 ((mem (f u)).2 ⟨⟨u, hu, rfl⟩, fun e => changed e.symm⟩)
      rw [hf] at this
      cases this

theorem Slot.entry_dropPending {sl : Slot} (h : Sparse.Rising sl.entries) (n : Nat) :
    sl.dropPending.entry n = { sl.entry n with pending := none } :=
  Sparse.find_trimmed (f := fun e : LineEntry => { e with pending := none }) h rfl n

theorem Slot.row_dropDeferrals {sl : Slot} (h : Sparse.Rising sl.rows) (n : Nat) :
    sl.dropDeferrals.row n = { sl.row n with deferral := none } :=
  Sparse.find_trimmed (f := fun r : HolderRow => { r with deferral := none }) h rfl n

/-! ## The write in progress is torn (R41) -/

/-- The write in progress. -/
def State.tears (s : State) (w : Write) : Prop := s.lineTable.started = true ∧ s.lineTable.queue.head? = some w

/-- The write in progress is to this entry. -/
def State.tearsEntry (s : State) (c n : Nat) : Prop := ∃ w, s.tears w ∧ w.kind ≠ .pool ∧ w.slot = c ∧ w.target = n

/-- The write in progress is filling this pool entry. -/
def State.tearsPool (s : State) (n : Nat) : Prop := ∃ w, s.tears w ∧ w.kind = .pool ∧ w.target = n ∧ w.stale = false

theorem State.tearWrite_idle (h : ∀ w, ¬s.tears w) : s.tearWrite = s := by
  unfold State.tearWrite
  split
  · rfl
  · next w _ hq => exact if_neg fun started => h w ⟨started, by rw [hq]; rfl⟩

theorem State.tearWrite_tears {w : Write} (h : s.tears w) : s.tearWrite =
    if w.kind = .pool then
      if w.stale then s.interruptWrite w
      else { s.interruptWrite w with pool := Sparse.erase s.pool w.target }
    else (s.interruptWrite w).modifyEntry w.slot w.target (fun e => { e with committed := 1 }) := by
  obtain ⟨started, head⟩ := h
  obtain ⟨rest, hq⟩ := List.head?_eq_some_iff.1 head
  unfold State.tearWrite
  rw [hq]
  dsimp only
  rw [if_pos started]
  cases hk : w.kind <;> rfl

theorem State.tears_unique {w v : Write} (h : s.tears w) (k : s.tears v) : w = v := by
  obtain ⟨-, hw⟩ := h
  obtain ⟨-, hv⟩ := k
  exact Option.some.inj (hw.symm.trans hv)

/-- The slots once the write in progress is torn: its entry has grade 1, and nothing else differs. -/
theorem State.tearWrite_slots (s : State) : ∃ g : Nat × Slot → Slot, s.tearWrite.slots = s.slots.map (fun p => (p.1, g p)) ∧
    ∀ p, (g p).record = p.2.record ∧ (g p).rows = p.2.rows ∧
      ∀ n, (s.tearsEntry p.1 n → (g p).entry n = { p.2.entry n with committed := 1 }) ∧
        (¬s.tearsEntry p.1 n → (g p).entry n = p.2.entry n) := by
  by_cases h : ∃ w, s.tears w ∧ w.kind ≠ .pool
  · obtain ⟨w, tears, kind⟩ := h
    refine ⟨fun p => if p.1 = w.slot then p.2.setEntry w.target { p.2.entry w.target with committed := 1 } else p.2, ?_,
      fun p => ?_⟩
    · rw [State.tearWrite_tears tears, if_neg kind]
      exact List.map_congr_left fun p _ => by dsimp only; split <;> rfl
    · have here (n : Nat) : s.tearsEntry p.1 n ↔ w.slot = p.1 ∧ w.target = n :=
        ⟨fun ⟨v, hv, _, at'⟩ => s.tears_unique tears hv ▸ at', fun at' => ⟨w, tears, kind, at'⟩⟩
      dsimp only
      split
      · next slot =>
        refine ⟨rfl, rfl, fun n => ⟨fun torn => ?_, fun whole => ?_⟩⟩
        · obtain ⟨-, rfl⟩ := (here n).1 torn
          rw [Slot.entry_setEntry, if_pos rfl]
        · rw [Slot.entry_setEntry, if_neg fun e => whole ((here n).2 ⟨slot.symm, e.symm⟩)]
      · next slot => exact ⟨rfl, rfl, fun n => ⟨fun torn => absurd ((here n).1 torn).1.symm slot, fun _ => rfl⟩⟩
  · have whole (c n : Nat) : ¬s.tearsEntry c n := fun ⟨w, tears, kind, _⟩ => h ⟨w, tears, kind⟩
    refine ⟨Prod.snd, ?_, fun p => ⟨rfl, rfl, fun n => ⟨fun torn => absurd torn (whole _ _), fun _ => rfl⟩⟩⟩
    have same : s.tearWrite.slots = s.slots := by
      by_cases tears : ∃ w, s.tears w
      · obtain ⟨w, tears⟩ := tears
        rw [State.tearWrite_tears tears, if_pos (by_contra fun kind => h ⟨w, tears, kind⟩)]
        split <;> rfl
      · rw [State.tearWrite_idle (not_exists.1 tears)]
    rw [same]
    simp

/-- A POOL write in progress frees the entry it was filling (R41). -/
theorem State.find_tearWrite_pool (s : State) (n : Nat) (e : PoolEntry) :
    Sparse.find s.tearWrite.pool n = some e ↔ Sparse.find s.pool n = some e ∧ ¬s.tearsPool n := by
  by_cases h : ∃ w, s.tears w ∧ w.kind = .pool ∧ w.stale = false
  · obtain ⟨w, tears, kind, fills⟩ := h
    have here : s.tearsPool n ↔ w.target = n :=
      ⟨fun ⟨v, hv, _, at', _⟩ => s.tears_unique tears hv ▸ at', fun at' => ⟨w, tears, kind, at', fills⟩⟩
    rw [State.tearWrite_tears tears, if_pos kind, if_neg (by simp [fills]), here]
    dsimp only
    by_cases at' : w.target = n
    · subst at'
      simp
    · rw [Sparse.find_erase_other _ _ _ (Ne.symm at')]
      simp [at']
  · have none : ¬s.tearsPool n := fun ⟨w, tears, kind, _, fills⟩ => h ⟨w, tears, kind, fills⟩
    have same : s.tearWrite.pool = s.pool := by
      by_cases tears : ∃ w, s.tears w
      · obtain ⟨w, tears⟩ := tears
        rw [State.tearWrite_tears tears]
        split
        · next kind => rw [if_pos (by_contra fun fills => h ⟨w, tears, kind, by simpa using fills⟩)]; rfl
        · rfl
      · rw [State.tearWrite_idle (not_exists.1 tears)]
    simp [same, none]

theorem length_mixBytes_le (k i : Nat) (old new : List Byte) : (mixBytes k i old new).length ≤ new.length := by
  induction new generalizing i old with
  | nil => cases old <;> exact Nat.le_refl 0
  | cons b rest ih =>
    cases old with
    | nil => exact Nat.zero_le _
    | cons o os => exact Nat.succ_le_succ (ih (i + 1) os)

/-- Memory changes only where the write in progress goes (R165). -/
theorem State.readByte_tearWrite (a : Nat)
    (h : ∀ w, s.tears w → a < s.writeAddress w ∨ s.writeAddress w + (s.writeBytes w).length ≤ a) :
    Memory.readByte s.tearWrite.memory a = Memory.readByte s.memory a := by
  by_cases tears : ∃ w, s.tears w
  · obtain ⟨w, tears⟩ := tears
    have same : s.tearWrite.memory = (s.interruptWrite w).memory := by
      rw [State.tearWrite_tears tears]
      split
      · split <;> rfl
      · rfl
    rw [same]
    refine Memory.readByte_write_outside _ _ _ _ ((h w tears).imp id fun above => ?_)
    have := length_mixBytes_le s.interruptedWrites 0 (Memory.read s.memory (s.writeAddress w) (s.writeBytes w).length)
      (s.writeBytes w)
    omega
  · rw [State.tearWrite_idle (not_exists.1 tears)]

/-! ## The records (R96) -/

/-- How many records of the slots below `c` the reset closes. -/
def closedBelow (l : List (Nat × Slot)) (c : Nat) : Nat :=
  (l.filter (fun p => decide (p.1 < c) && decide (p.2.record.state ≠ .closed))).length

theorem find_warmRecords {l : List (Nat × Slot)} (h : Sparse.Rising l) (n c : Nat) :
    Sparse.find (warmRecords n l) c = (Sparse.find l c).map (fun sl =>
      { sl with record := sl.record.warm (n + 1 + closedBelow l c) }) := by
  induction h generalizing n with
  | nil => rfl
  | @cons p l before ordered ih =>
    obtain ⟨k, sl⟩ := p
    rw [Sparse.find_cons]
    unfold warmRecords
    rw [Sparse.find_cons]
    by_cases here : k = c
    · subst here
      have none : closedBelow ((k, sl) :: l) k = 0 := by
        refine List.length_eq_zero_iff.2 (List.filter_eq_nil_iff.2 fun p hp => ?_)
        rcases List.mem_cons.1 hp with rfl | later
        · simp
        · simp [(before p later).le]
      rw [if_pos rfl, if_pos rfl, none]
      rfl
    · rw [if_neg here, if_neg here, ih]
      cases found : Sparse.find l c with
      | none => rfl
      | some x =>
        have above : k < c := before _ (Sparse.mem_of_find found)
        have counted : (if sl.record.state = .closed then n else n + 1) + closedBelow l c = n + closedBelow ((k, sl) :: l) c := by
          by_cases closed : sl.record.state = .closed
          · simp [closedBelow, above, closed]
          · simp [closedBelow, above, closed]
            omega
        rw [Option.map_some, Option.map_some, Nat.add_right_comm, counted, Nat.add_right_comm]

/-! ## The charts after the reset -/

theorem foldl_map_closeOrder (l : List (Nat × Slot)) (g : Nat × Slot → Slot) (hg : ∀ p, (g p).record = p.2.record) (n : Nat) :
    (l.map (fun p => (p.1, g p))).foldl (fun acc p => max acc (p.2.record.closeOrder.getD 0)) n =
      l.foldl (fun acc p => max acc (p.2.record.closeOrder.getD 0)) n := by
  rw [List.foldl_map]
  simp only [hg]

theorem closedBelow_map (l : List (Nat × Slot)) (g : Nat × Slot → Slot) (hg : ∀ p, (g p).record = p.2.record) (c : Nat) :
    closedBelow (l.map (fun p => (p.1, g p))) c = closedBelow l c := by
  simp only [closedBelow, List.filter_map, List.length_map, Function.comp_def, hg]

/-- A slot after the reset: `sl` is the slot with its write torn (R41, R96, R137, R149). -/
def State.warmSlot (s : State) (c : Nat) (sl : Slot) : Slot :=
  { sl.dropPending.dropDeferrals with record := { sl.record.warm (s.highestCloseOrder + 1 + closedBelow s.slots c) with
      hold := if sl.record.hold = .thawing ∧ s.warmReset.hasShadow c = false then .none else sl.record.hold } }

/-- The slots owed a THAW_DONE are those whose thaw ends (R149, R154). -/
theorem State.mem_thawDone_warmReset (h : s.TablesOrdered) (c : Nat) : c ∈ s.warmReset.attention.thawDoneAtRelease ↔
    ∃ r, s.record? c = some r ∧ r.hold = .thawing ∧ s.warmReset.hasShadow c = false := by
  have list : s.warmReset.attention.thawDoneAtRelease =
      (s.slots.filter (fun p => p.2.record.hold = .thawing && !s.warmReset.hasShadow p.1)).map Prod.fst := s.warmCharts_thawsEnded
  rw [list]
  constructor
  · intro hc
    obtain ⟨⟨k, sl⟩, hp, rfl⟩ := List.mem_map.1 hc
    obtain ⟨mem, ends⟩ := List.mem_filter.1 hp
    rw [Bool.and_eq_true, decide_eq_true_iff, Bool.not_eq_true'] at ends
    exact ⟨sl.record, by rw [State.record?, State.slot?, Sparse.find_of_mem h.slots mem]; rfl, ends⟩
  · rintro ⟨r, hr, thawing, none⟩
    obtain ⟨sl, hsl, rfl⟩ := Option.map_eq_some_iff.1 hr
    exact List.mem_map.2 ⟨(c, sl), List.mem_filter.2 ⟨Sparse.mem_of_find hsl, by simp [thawing, none]⟩, rfl⟩

theorem State.slot_warmReset (h : s.TablesOrdered) : ∃ g : Nat × Slot → Slot,
    (∀ p ∈ s.slots, Sparse.Rising (g p).entries ∧ (g p).record = p.2.record ∧ (g p).rows = p.2.rows ∧
      ∀ n, (s.tearsEntry p.1 n → (g p).entry n = { p.2.entry n with committed := 1 }) ∧
        (¬s.tearsEntry p.1 n → (g p).entry n = p.2.entry n)) ∧
    ∀ c, s.warmReset.slot? c = (s.slot? c).map (fun sl => s.warmSlot c (g (c, sl))) := by
  obtain ⟨g, slots, same⟩ := s.tearWrite_slots
  have records (p : Nat × Slot) : (g p).record = p.2.record := (same p).1
  have ordered : s.tearWrite.TablesOrdered :=
    (State.tablesOrdered_iff _).2 (s.tearWrite_keepsTables.ordered ((State.tablesOrdered_iff _).1 h))
  refine ⟨g, fun p hp => ⟨?_, same p⟩, fun c => ?_⟩
  · exact ordered.entries (p.1, g p) (slots ▸ List.mem_map.2 ⟨p, hp, rfl⟩)
  · have dropped : s.tearWrite.slots.map (fun (p : Nat × Slot) => (p.1, p.2.dropPending.dropDeferrals)) =
        s.slots.map (fun p => (p.1, (g p).dropPending.dropDeferrals)) := by
      rw [slots, List.map_map]
      rfl
    have order : s.tearWrite.highestCloseOrder = s.highestCloseOrder := by
      unfold State.highestCloseOrder
      rw [slots, foldl_map_closeOrder _ _ records]
    have reset : s.warmReset.slots = (warmRecords s.highestCloseOrder (s.slots.map (fun p => (p.1, (g p).dropPending.dropDeferrals)))).map
        (fun p => (p.1, thawEnded s.warmReset.attention.thawDoneAtRelease p.1 p.2)) := by
      rw [← order, ← dropped]
      rfl
    have rising : Sparse.Rising (s.slots.map (fun p => (p.1, (g p).dropPending.dropDeferrals))) :=
      Sparse.rising_map _ (fun _ => rfl) h.slots
    rw [State.slot?, reset, Sparse.find_map _ (fun p => thawEnded s.warmReset.attention.thawDoneAtRelease p.1 p.2),
      find_warmRecords rising, closedBelow_map _ (fun p => (g p).dropPending.dropDeferrals) records,
      Sparse.find_map _ (fun p => (g p).dropPending.dropDeferrals), Option.map_map, Option.map_map]
    refine Option.map_congr fun sl hsl => ?_
    have thaws : c ∈ s.warmReset.attention.thawDoneAtRelease ↔ sl.record.hold = .thawing ∧ s.warmReset.hasShadow c = false := by
      rw [State.mem_thawDone_warmReset h, State.record?, State.slot?, hsl]
      simp
    have recordIs : (g (c, sl)).record = sl.record := records (c, sl)
    unfold State.warmSlot thawEnded
    rw [recordIs]
    by_cases ends : sl.record.hold = .thawing ∧ s.warmReset.hasShadow c = false
    · rw [if_pos ends]
      exact (if_pos (thaws.2 ends)).trans (by rw [← recordIs]; rfl)
    · rw [if_neg ends]
      exact (if_neg fun k => ends (thaws.1 k)).trans (by rw [← recordIs]; rfl)

/-- A written SHADOW entry stays, UNMERGED, unless the write that filled it is torn (R154). -/
theorem State.find_warmReset_pool (h : s.TablesOrdered) (n : Nat) (e : PoolEntry) : Sparse.find s.warmReset.pool n = some e ↔
    ∃ e', Sparse.find s.pool n = some e' ∧ e'.kind = .shadow ∧ e'.written ≠ none ∧ ¬s.tearsPool n ∧
      e = { e' with pending := none, merging := false } := by
  have ordered : s.tearWrite.TablesOrdered :=
    (State.tablesOrdered_iff _).2 (s.tearWrite_keepsTables.ordered ((State.tablesOrdered_iff _).1 h))
  have rising : Sparse.Rising s.warmReset.pool := ((State.tablesOrdered_iff _).2
    (s.warmReset_keepsTables.ordered ((State.tablesOrdered_iff _).1 h))).pool
  have warm (e' : PoolEntry) : e'.warm = some e ↔
      (e'.kind = .shadow ∧ e'.written ≠ none) ∧ { e' with pending := none, merging := false } = e := by
    simp [PoolEntry.warm, Option.isSome_iff_ne_none]
  rw [Sparse.find_iff rising]
  constructor
  · intro mem
    obtain ⟨⟨k, e'⟩, hp, kept⟩ := List.mem_filterMap.1 mem
    obtain ⟨x, hx, same⟩ := Option.map_eq_some_iff.1 kept
    cases same
    obtain ⟨⟨shadow, written⟩, rfl⟩ := (warm e').1 hx
    obtain ⟨found, whole⟩ := (s.find_tearWrite_pool k e').1 (Sparse.find_of_mem ordered.pool hp)
    exact ⟨e', found, shadow, written, whole, rfl⟩
  · rintro ⟨e', found, shadow, written, whole, rfl⟩
    exact List.mem_filterMap.2 ⟨(n, e'), Sparse.mem_of_find ((s.find_tearWrite_pool n e').2 ⟨found, whole⟩), by
      simp [PoolEntry.warm, shadow, Option.isSome_iff_ne_none, written]⟩

/-- Settles O19: the state that RESET_ASSERTED leaves, table by table. -/
theorem warmResetKeepsCharts : Obligations.WarmResetKeepsCharts := by
  intro s run ordered
  have running : s.running = true := by simp [State.running, run]
  have slotOf := State.slot_warmReset ordered
  obtain ⟨g, torn, slotIs⟩ := slotOf
  have read {c : Nat} {sl : Slot} (h : s.slot? c = some sl) := torn (c, sl) (Sparse.mem_of_find h)
  have after {c : Nat} {sl : Slot} (h : s.slot? c = some sl) : s.warmReset.slot? c = some (s.warmSlot c (g (c, sl))) := by
    rw [slotIs, h, Option.map_some]
  refine ⟨{ s.warmReset with config := { s.warmReset.config with resetPin := true, state := .holding } }, ?_, ?_⟩
  · simp only [exec, execResetAsserted, running, if_true]
  refine ⟨fun c unused => ?_, fun c r hr => ?_, State.mem_thawDone_warmReset ordered, fun c n used => ?_, fun c n => ?_,
    State.find_warmReset_pool ordered, s.readByte_tearWrite⟩
  · show s.warmReset.record? c = none
    rw [State.record?, slotIs, Option.map_eq_none_iff.1 unused]
    rfl
  · obtain ⟨sl, hsl, rfl⟩ := Option.map_eq_some_iff.1 hr
    have recordIs : (g (c, sl)).record = sl.record := by obtain ⟨-, h, -, -⟩ := read hsl; exact h
    have recordAfter : s.warmReset.record? c = some (s.warmSlot c (g (c, sl))).record := by rw [State.record?, after hsl]; rfl
    refine ⟨_, recordAfter, ?_⟩
    unfold State.warmSlot
    rw [recordIs]
    rfl
  · obtain ⟨sl, hsl⟩ := Option.isSome_iff_exists.1 used
    obtain ⟨rising, -, -, entries⟩ := read hsl
    obtain ⟨hit, spared⟩ := entries n
    have entryBefore : s.entry c n = sl.entry n := by rw [State.entry, hsl]
    have entryAfter : s.warmReset.entry c n = { (g (c, sl)).entry n with pending := none } := by
      rw [State.entry, after hsl, ← Slot.entry_dropPending rising] <;> rfl
    have entriesKept : s.warmReset.entry c n = { s.entry c n with pending := none, committed := (s.warmReset.entry c n).committed } ∧
        (s.tearsEntry c n → (s.warmReset.entry c n).committed = 1) ∧
        (¬s.tearsEntry c n → (s.warmReset.entry c n).committed = (s.entry c n).committed) := by
      rw [entryAfter, entryBefore]
      refine ⟨?_, fun torn => by rw [hit torn], fun whole => by rw [spared whole]⟩
      by_cases torn : s.tearsEntry c n
      · rw [hit torn]
      · rw [spared torn]
    exact entriesKept
  · have rowsKept : (s.warmReset.slot? c).map (fun sl => sl.row n) = (s.slot? c).map (fun sl => { sl.row n with deferral := none }) := by
      cases hsl : s.slot? c with
      | none => rw [slotIs, hsl]; rfl
      | some sl =>
        have rowsIs : (g (c, sl)).rows = sl.rows := by obtain ⟨-, -, h, -⟩ := read hsl; exact h
        have rising : Sparse.Rising (g (c, sl)).dropPending.rows := by
          have rows := ordered.rows (c, sl) (Sparse.mem_of_find hsl)
          rw [← rowsIs] at rows
          exact rows
        have rowAfter : (s.warmSlot c (g (c, sl))).row n = { (g (c, sl)).dropPending.row n with deferral := none } :=
          Slot.row_dropDeferrals rising n
        have rowIs : (g (c, sl)).dropPending.row n = sl.row n := congrArg (fun rows => (Sparse.find rows n).getD HolderRow.empty) rowsIs
        rw [after hsl, Option.map_some, Option.map_some, rowAfter, rowIs]
    exact rowsKept

end Sys2Proof.Machine
end

section
/-!
PROOF. The split clear, block by block: the LINE TABLE's part, the HOLD UNIT's and the directory's (R38, R90, R151).
-/
namespace Sys2Proof.Machine

variable {s t : State}

/-! ## What cancelled writes free (R35, R38) -/

/-- A cancelled write of the queue names the pool entry: a MERGE's is UNMERGED again, another's is free. -/
def freedBy (queue : List Write) (gone : Write → Bool) (merge : Bool) (n : Nat) : Bool :=
  queue.any (fun w => gone w && (w.kind == .merge) == merge && w.frees == some n)

/-- The queue without the cancelled writes; a write to an entry now free fills none. -/
def writesLeft (queue : List Write) (gone : Write → Bool) : List Write :=
  (queue.filter (fun w => !gone w)).map (fun w =>
    if w.kind = .pool ∧ freedBy queue gone false w.target = true then { w with stale := true } else w)

/-- The pool without the entries that cancelled writes free, those of cancelled MERGE writes UNMERGED. -/
def poolLeft (queue : List Write) (gone : Write → Bool) (pool : List (Nat × PoolEntry)) : List (Nat × PoolEntry) :=
  (pool.filter (fun p => !freedBy queue gone false p.1)).map (fun (p : Nat × PoolEntry) =>
    (p.1, if freedBy queue gone true p.1 then { p.2 with merging := false } else p.2))

/-- The entries of slot `c` after its split clear: those of origin PEER are empty, and each pending grade is that of the newest
write left for its line. -/
def splitEntries (queue : List Write) (gone : Write → Bool) (c : Nat) (sl : Slot) : List (Nat × LineEntry) :=
  (sl.entries.map (fun (p : Nat × LineEntry) => (p.1,
    { (if p.2.origin = some .peer then LineEntry.empty else p.2) with
      pending := (((queue.filter (fun w => !gone w)).filter (fun w => w.kind ≠ .pool ∧ w.slot = c ∧ w.target = p.1)).getLast?).map
        Write.grade }))).filter (fun p => p.2 != LineEntry.empty)

theorem State.unmerge_eq (s : State) (l : List Nat) : s.unmerge l = { s with
    pool := s.pool.map (fun (p : Nat × PoolEntry) => (p.1, if l.contains p.1 then { p.2 with merging := false } else p.2)) } := by
  induction l generalizing s with
  | nil =>
    have same : s.pool.map (fun (p : Nat × PoolEntry) =>
        (p.1, if ([] : List Nat).contains p.1 then { p.2 with merging := false } else p.2)) = s.pool := by simp
    rw [same]
    rfl
  | cons n rest ih =>
    have first : s.unmerge (n :: rest) = (s.modifyPool n (fun e => { e with merging := false })).unmerge rest := rfl
    have both : (Sparse.modify s.pool n (fun e => { e with merging := false })).map (fun (p : Nat × PoolEntry) =>
        (p.1, if rest.contains p.1 then { p.2 with merging := false } else p.2)) = s.pool.map (fun (p : Nat × PoolEntry) =>
        (p.1, if (n :: rest).contains p.1 then { p.2 with merging := false } else p.2)) := by
      rw [Sparse.modify, List.map_map]
      refine List.map_congr_left fun p _ => ?_
      by_cases here : p.1 = n
      · by_cases later : p.1 ∈ rest <;> simp [here]
      · simp [here]
    rw [first, ih, ← both]
    rfl

/-- The pool entries that a part of the cancelled writes names. -/
theorem contains_frees (queue : List Write) (gone : Write → Bool) (merge : Bool) (n : Nat) :
    (((queue.filter gone).filter (fun w => (w.kind == .merge) == merge)).filterMap Write.frees).contains n =
      freedBy queue gone merge n := by
  rw [Bool.eq_iff_iff]
  simp only [freedBy, List.contains_iff_mem, List.mem_filterMap, List.mem_filter, List.any_eq_true, Bool.and_eq_true, beq_iff_eq,
    and_assoc]

/-- A write to one of some entries freed is a POOL write, not stale, to it. -/
theorem any_intoPool (l : List Nat) (w : Write) : l.any w.intoPool = (w.kind == .pool && !w.stale && l.contains w.target) := by
  rw [Bool.eq_iff_iff]
  simp only [List.any_eq_true, Write.intoPool, Bool.and_eq_true, decide_eq_true_eq, beq_iff_eq, List.contains_iff_mem]
  constructor
  · rintro ⟨n, hn, ⟨pool, rfl⟩, fills⟩
    exact ⟨⟨pool, fills⟩, hn⟩
  · rintro ⟨⟨pool, fills⟩, hn⟩
    exact ⟨_, hn, ⟨pool, rfl⟩, fills⟩

/-- The LINE TABLE's part of a split clear in full (R38). -/
theorem State.clearPeerLines_eq {gone : Write → Bool} {c : Nat} (hg : s.splitCancels c = gone) : s.clearPeerLines c = { s with
    pool := poolLeft s.lineTable.queue gone s.pool
    lineTable := { s.lineTable with
      queue := writesLeft s.lineTable.queue gone
      store := s.lineTable.store.filter (fun st => !freedBy s.lineTable.queue gone false st.entry) }
    slots := Sparse.modify s.slots c (fun sl => { sl with entries := splitEntries s.lineTable.queue gone c sl }) } := by
  have merges (n : Nat) : (((s.lineTable.queue.filter gone).filter (fun w => w.kind = .merge)).filterMap Write.frees).contains n =
      freedBy s.lineTable.queue gone true n := by
    rw [← contains_frees]
    simp [beq_eq_decide]
  have lines (n : Nat) : (((s.lineTable.queue.filter gone).filter (fun w => w.kind != .merge)).filterMap Write.frees).contains n =
      freedBy s.lineTable.queue gone false n := by
    rw [← contains_frees]
    simp [bne, beq_eq_decide]
  have pool : (s.pool.map (fun (p : Nat × PoolEntry) => (p.1,
        if freedBy s.lineTable.queue gone true p.1 then { p.2 with merging := false } else p.2))).filter
        (fun p => !freedBy s.lineTable.queue gone false p.1) = poolLeft s.lineTable.queue gone s.pool := List.filter_map
  have queue : (s.lineTable.queue.filter (fun w => !gone w)).map (fun w =>
      if w.kind == .pool && !w.stale && freedBy s.lineTable.queue gone false w.target then { w with stale := true } else w) =
      writesLeft s.lineTable.queue gone := by
    refine List.map_congr_left fun w _ => ?_
    cases hw : w.stale with
    | false => simp
    | true =>
      have stands : { w with stale := true } = w := by rw [← hw]
      simp [stands]
  have slots : Sparse.modify (Sparse.modify s.slots c (fun sl => { sl with entries := sl.entries.map (fun (p : Nat × LineEntry) =>
        (p.1, p.2.splitCleared)) })) c (fun sl => { sl with
        entries := (sl.entries.map (fun p => (p.1, { p.2 with
          pending := (((s.lineTable.queue.filter (fun w => !gone w)).filter (fun w =>
            w.intoComposite c && w.target = p.1)).getLast?).map Write.grade }))).filter (fun p => p.2 != LineEntry.empty) }) =
      Sparse.modify s.slots c (fun sl => { sl with entries := splitEntries s.lineTable.queue gone c sl }) := by
    have into (n : Nat) : (fun w : Write => w.intoComposite c && decide (w.target = n)) =
        fun w => decide (w.kind ≠ .pool ∧ w.slot = c ∧ w.target = n) :=
      funext fun w => by simp [Write.intoComposite, bne, beq_eq_decide, Bool.and_assoc]
    rw [Sparse.modify_modify]
    refine congrArg (Sparse.modify s.slots c) (funext fun sl => ?_)
    rw [splitEntries]
    simp only [List.map_map, into]
    refine congrArg (fun entries => { sl with entries := entries }) (congrArg (List.filter _) (List.map_congr_left fun p _ => ?_))
    dsimp only [Function.comp]
    unfold LineEntry.splitCleared
    split <;> rfl
  have settled : (State.modifySlot { s with lineTable := { s.lineTable with queue := s.lineTable.queue.filter (fun w => !gone w) } } c
      (fun sl => { sl with entries := sl.entries.map (fun (p : Nat × LineEntry) => (p.1, p.2.splitCleared)) })).settlePendingGrades c =
      { s with
        lineTable := { s.lineTable with queue := s.lineTable.queue.filter (fun w => !gone w) }
        slots := Sparse.modify s.slots c (fun sl => { sl with entries := splitEntries s.lineTable.queue gone c sl }) } := by
    rw [← slots]
    rfl
  unfold State.clearPeerLines
  dsimp only
  rw [hg, settled, State.unmerge_eq, State.freePools_eq]
  simp only [merges, lines, any_intoPool]
  rw [pool, queue]

/-! ## The UNMERGED SHADOW entries of origin PEER are freed (R151) -/

/-- The pool entry is an UNMERGED SHADOW entry of slot `c` that counts as of origin PEER. -/
def isPeerShadow (queue : List Write) (c : Nat) (p : Nat × PoolEntry) : Bool :=
  decide (p.2.kind = .shadow ∧ p.2.slot = c ∧ p.2.merging = false ∧
    (p.2.origin = some .peer ∨ p.2.origin = none ∧
      ((queue.filter (fun w => w.intoPool p.1)).getLast?).bind Write.origin = some .peer))

/-- Such an entry stands at the number. -/
def peerShadowAt (pool : List (Nat × PoolEntry)) (queue : List Write) (c n : Nat) : Bool :=
  pool.any (fun p => p.1 == n && isPeerShadow queue c p)

/-- The write fills such an entry. -/
def intoPeerShadow (pool : List (Nat × PoolEntry)) (queue : List Write) (c : Nat) (w : Write) : Bool :=
  w.kind == .pool && !w.stale && peerShadowAt pool queue c w.target

/-- With nothing queued no write is cut short. -/
theorem State.cancelWrites_nothing (p : Write → Bool) (h : s.lineTable.queue = []) :
    (s.cancelWrites p).memory = s.memory ∧ (s.cancelWrites p).interruptedWrites = s.interruptedWrites := by
  unfold State.cancelWrites
  rw [h]
  exact ⟨rfl, rfl⟩

/-- The entries that a split frees. -/
theorem State.contains_peerShadows (s : State) (c n : Nat) :
    ((s.pool.filter (fun p => p.2.kind = .shadow && p.2.slot = c && !p.2.merging && s.shadowOrigin p.1 p.2 = some .peer)).map
      Prod.fst).contains n = peerShadowAt s.pool s.lineTable.queue c n := by
  have counts (m : Nat) (e : PoolEntry) : s.shadowOrigin m e = some .peer ↔ e.origin = some .peer ∨ e.origin = none ∧
      ((s.lineTable.queue.filter (fun w => w.intoPool m)).getLast?).bind Write.origin = some .peer := by
    unfold State.shadowOrigin
    cases e.origin with
    | none => simp [State.newestWrite]
    | some o => simp
  rw [Bool.eq_iff_iff]
  simp only [peerShadowAt, isPeerShadow, List.contains_iff_mem, List.mem_map, List.mem_filter, List.any_eq_true, Bool.and_eq_true,
    decide_eq_true_eq, beq_iff_eq, Bool.not_eq_true', counts, and_assoc]
  constructor
  · rintro ⟨p, mem, shadow, slot, unmerged, peer, rfl⟩
    exact ⟨p, mem, rfl, shadow, slot, unmerged, peer⟩
  · rintro ⟨p, mem, rfl, shadow, slot, unmerged, peer⟩
    exact ⟨p, mem, shadow, slot, unmerged, peer, rfl⟩

/-- A thaw that leaves no SHADOW entry ends (R149). -/
theorem State.thawEnd_eq {c : Nat} {r : ChartRecord} (hr : s.record? c = some r) : s.thawEnd c = { s with
    slots := Sparse.modify s.slots c (fun sl => { sl with record := { sl.record with
      hold := if r.hold = .thawing ∧ ∀ p ∈ s.pool, ¬(p.2.kind = .shadow ∧ p.2.slot = c) then .none else sl.record.hold } })
    attention := { s.attention with
      events := if r.hold = .thawing ∧ ∀ p ∈ s.pool, ¬(p.2.kind = .shadow ∧ p.2.slot = c) then
        insertEvent ⟨.thawDone, c⟩ s.attention.events else s.attention.events } } := by
  have ends : (s.hold c = .thawing ∧ s.hasShadow c = false) ↔
      r.hold = .thawing ∧ ∀ p ∈ s.pool, ¬(p.2.kind = .shadow ∧ p.2.slot = c) := by
    rw [State.hold_of_record hr, State.hasShadow_eq_false_iff]
  by_cases h : r.hold = .thawing ∧ ∀ p ∈ s.pool, ¬(p.2.kind = .shadow ∧ p.2.slot = c)
  · obtain ⟨thawing, none⟩ := ends.2 h
    simp only [if_pos h]
    rw [State.thawEnd_ends thawing none]
    rfl
  · simp only [if_neg h]
    rw [State.thawEnd_of_stays fun k => h (ends.1 k), Sparse.modify_id _ _ _ fun _ _ _ => rfl]

/-- The state once the entries of a split are freed and the writes to them cancelled: `m` and `i` are what one in progress left. -/
def State.shadowsFreed (s : State) (c : Nat) (m : List Host.Cell) (i : Nat) : State :=
  { s with
    memory := m, interruptedWrites := i
    pool := s.pool.filter (fun p => !peerShadowAt s.pool s.lineTable.queue c p.1)
    lineTable := { s.lineTable with
      queue := s.lineTable.queue.filter (fun w => !intoPeerShadow s.pool s.lineTable.queue c w)
      started := s.lineTable.started && s.lineTable.queue.head?.any (fun w => !intoPeerShadow s.pool s.lineTable.queue c w)
      store := s.lineTable.store.filter (fun st => !peerShadowAt s.pool s.lineTable.queue c st.entry) } }

/-- The HOLD UNIT's part of a split in full (R149, R151). -/
theorem State.clearPeerShadows_eq (s : State) (c : Nat) : ∃ m i,
    (∀ a, (∀ w, s.lineTable.started = true → s.lineTable.queue.head? = some w →
        intoPeerShadow s.pool s.lineTable.queue c w = true →
        a < s.writeAddress w ∨ s.writeAddress w + (s.writeBytes w).length ≤ a) →
      Memory.readByte m a = Memory.readByte s.memory a) ∧
    (s.lineTable.queue = [] → m = s.memory ∧ i = s.interruptedWrites) ∧
    s.clearPeerShadows c = (s.shadowsFreed c m i).thawEnd c := by
  obtain ⟨m, i, cancelled, outside⟩ := s.cancelWrites_eq (intoPeerShadow s.pool s.lineTable.queue c)
  refine ⟨m, i, outside, fun empty => ?_, ?_⟩
  · have nothing := State.cancelWrites_nothing (intoPeerShadow s.pool s.lineTable.queue c) empty
    rw [cancelled] at nothing
    exact nothing
  · have left : (s.lineTable.queue.filter (fun w => !intoPeerShadow s.pool s.lineTable.queue c w)).map (fun w =>
        if w.kind == .pool && !w.stale && peerShadowAt s.pool s.lineTable.queue c w.target then { w with stale := true } else w) =
        s.lineTable.queue.filter (fun w => !intoPeerShadow s.pool s.lineTable.queue c w) := by
      refine (List.map_congr_left fun w hw => ?_).trans (List.map_id _)
      exact if_neg fun into => absurd (List.mem_filter.1 hw).2 (by simp [show intoPeerShadow s.pool s.lineTable.queue c w = true from into])
    have cut (l : List Nat) (hl : ∀ n, l.contains n = peerShadowAt s.pool s.lineTable.queue c n) :
        s.freeAndCancel l = s.shadowsFreed c m i := by
      have into : (fun w : Write => l.any w.intoPool) = intoPeerShadow s.pool s.lineTable.queue c :=
        funext fun w => by rw [any_intoPool, hl]; rfl
      rw [State.freeAndCancel, into, cancelled, State.freePools_eq]
      simp only [any_intoPool, hl]
      rw [left]
      rfl
    exact congrArg (State.thawEnd · c) (cut _ (s.contains_peerShadows c))

end Sys2Proof.Machine
end

section
/-!
PROOF. A split clear in full: the statement SplitClearGivesNewChart.
-/
namespace Sys2Proof.Machine

variable {s t u : State}

/-! ## The new chart's record (R79, R82, R90) -/

/-- The CLOSE of a chart that a split ends (R90). -/
def splitClose (old : Key) : Payload := .chartClose { key := old, reason := .splitAway, lastLine := none }

/-- The OPEN of the chart that a split makes (R90). -/
def State.splitOpen (s : State) (k : Key) (rate : Code) (late : Bool) : Payload := .chartOpen
  { key := k, rate := rate, width := s.config.settings.width, late := late, split := true, reannounce := false, highest := 0 }

/-- The link once the CLOSE was queued or dropped. -/
def State.splitClosed (u : State) (old : Key) : Link := (u.link.queueOpenClose (splitClose old)).getD u.link

/-- The link once the OPEN was queued behind the CLOSE, where it is not dropped. -/
def State.splitOpened (u : State) (old : Key) (announce : Payload) : Option Link := (u.splitClosed old).queueOpenClose announce

/-- A record's own OPEN is queued, or done where it is dropped (R82). -/
theorem State.queueOwnOpen_eq {c : Nat} {r : ChartRecord} (hr : s.record? c = some r) (split : Bool) : s.queueOwnOpen c split =
    { s with
      link := (s.link.queueOpenClose (.chartOpen (s.openOf r split false 0))).getD s.link
      slots := Sparse.modify s.slots c (fun sl => { sl with record := { sl.record with
        ownOpen := if (s.link.queueOpenClose (.chartOpen (s.openOf r split false 0))).isSome then .queued else .done } }) } := by
  unfold State.queueOwnOpen
  rw [hr]
  dsimp only
  cases s.link.queueOpenClose (.chartOpen (s.openOf r split false 0)) <;> rfl

/-- The record of a split slot, its OPEN not yet queued (R90). -/
def Slot.splitRecord (sl : Slot) (self : Station) (k : Key) : ChartRecord :=
  { sl.record with
    key := k, state := .opened, offset := some 0, expected := none
    contributors := [({ station := self, ended := none } : Contributor)]
    lastOpenHeard := none, lastTally := none, lastCloseReason := none, ownLinesHanded := true, highest := sl.highestFilled }

/-- The state once the slot's record has key `k` and its frames are queued or dropped: `u` is the state with the key free. -/
def State.rekeyed (u : State) (c : Nat) (old k : Key) (announce : Payload) : State :=
  { u with
    originSequence := k.sequence + 1
    slots := Sparse.modify u.slots c (fun sl => { sl with record := { sl.record with
      key := k, state := .opened, offset := some 0, expected := none
      contributors := [({ station := k.origin, ended := none } : Contributor)]
      lastOpenHeard := none, lastTally := none, lastCloseReason := none, ownLinesHanded := true
      ownOpen := if (u.splitOpened old announce).isSome then .queued else .done, highest := sl.highestFilled } })
    link := (u.splitOpened old announce).getD (u.splitClosed old)
    attention := { u.attention with events := insertEvent ⟨.chartOpened, c⟩ u.attention.events } }

theorem State.splitRecord_eq {c : Nat} {q : Byte} {old : Key} {r : ChartRecord} (h : originates s q u) (hr : u.record? c = some r) :
    s.splitRecord c old = u.rekeyed c old { origin := s.self, sequence := q }
      (s.splitOpen { origin := s.self, sequence := q } r.rate r.late) := by
  have config : u.config = s.config := (originates_stands h).config
  have self : u.self = s.self := by rw [State.self, config]; rfl
  obtain ⟨sl, hsl, rfl⟩ := State.slot_of_record hr
  obtain ⟨x, hx⟩ : ∃ x : State, x = { u with
      originSequence := q + 1, link := u.splitClosed old
      slots := Sparse.modify u.slots c (fun sl => { sl with record := sl.splitRecord u.self { origin := s.self, sequence := q } }) } :=
    ⟨_, rfl⟩
  have named : s.splitRecord c old = (x.queueOwnOpen c true).post .chartOpened c := by
    unfold State.splitRecord
    rw [State.originKey_eq h, hx]
    dsimp only
    rw [State.queueOpenClose_eq]
    rfl
  have record : x.record? c = some (sl.splitRecord u.self { origin := s.self, sequence := q }) := by
    rw [hx, State.record?, State.slot?, Sparse.find_modify_same, hsl]
    rfl
  rw [named, State.queueOwnOpen_eq record, hx, Sparse.modify_modify, self, State.splitOpen, ← config]
  rfl

theorem State.record_startNext (s : State) (c : Nat) : s.startNext.record? c = s.record? c := by
  rw [State.record?, State.slot?, State.startNext_slots]
  rfl

/-- A release moves the close orders of the other records alone (R95). -/
theorem State.record_released {c d : Nat} {r x : ChartRecord} (m : List Host.Cell) (i : Nat) (segments : List QueuedFrame)
    (bodies : List SendBody) (other : c ≠ d) (hx : s.record? c = some x) :
    (s.released d r m i segments bodies).record? c =
      some { x with closeOrder := x.closeOrder.map (fun o => if r.closeOrder.getD 0 < o then o - 1 else o) } := by
  obtain ⟨sl, hsl, rfl⟩ := State.slot_of_record hx
  have moved := Sparse.find_map (Sparse.erase s.slots d) (fun (p : Nat × Slot) => ({ p.2 with record := { p.2.record with
    closeOrder := p.2.record.closeOrder.map (fun o => if r.closeOrder.getD 0 < o then o - 1 else o) } } : Slot)) c
  rw [Sparse.find_erase_other _ _ _ other, hsl] at moved
  exact congrArg (Option.map Slot.record) moved

/-- A release that frees a key leaves the chart of a slot that is not CLOSED, and the unit that aligns it (R79, R95). -/
theorem originates_spares {c : Nat} {q : Byte} {r : ChartRecord} (h : originates s q u) (ordered : Sparse.Rising s.slots)
    (hr : s.record? c = some r) (live : r.state ≠ .closed) (unit : s.alignment.slot = some c) :
    u.alignment = s.alignment ∧ ∃ r', u.record? c = some r' ∧ r'.rate = r.rate ∧ r'.late = r.late := by
  obtain ⟨-, ⟨-, rfl⟩ | ⟨p, found, ⟨closed, -⟩, rfl⟩⟩ := h
  · exact ⟨rfl, r, hr, rfl, rfl⟩
  · have mem : p ∈ s.slots := List.mem_of_find?_eq_some found
    have slotAt : s.slot? p.1 = some p.2 := Sparse.find_of_mem ordered mem
    have recordAt : s.record? p.1 = some p.2.record := by rw [State.record?, slotAt]; rfl
    have other : c ≠ p.1 := by
      rintro rfl
      exact live (Option.some.inj (hr.symm.trans recordAt) ▸ closed)
    obtain ⟨m, i, segments, bodies, released, -⟩ := State.releaseSlot_parts recordAt
    rw [released]
    refine ⟨?_, ?_⟩
    · rw [State.startNext_alignment]
      exact if_neg (by rw [unit]; simpa using other)
    · exact ⟨_, (State.record_startNext _ _).trans (State.record_released m i segments bodies other hr), rfl, rfl⟩

/-! ## The split carried out (R38, R108, R151) -/

/-- The pool without the slot's UNMERGED SHADOW entries of origin PEER. -/
def poolSplit (queue : List Write) (gone : Write → Bool) (c : Nat) (pool : List (Nat × PoolEntry)) : List (Nat × PoolEntry) :=
  (poolLeft queue gone pool).filter (fun p => !peerShadowAt (poolLeft queue gone pool) (writesLeft queue gone) c p.1)

/-- The slot once the LINE TABLE's and the HOLD UNIT's parts of its split are done: a thaw that leaves no SHADOW entry is over. -/
def State.splitSlot (s : State) (c : Nat) (r : ChartRecord) (gone : Write → Bool) (sl : Slot) : Slot :=
  { record := { sl.record with
      hold := if r.hold = .thawing ∧ ∀ p ∈ poolSplit s.lineTable.queue gone c s.pool, ¬(p.2.kind = .shadow ∧ p.2.slot = c)
        then .none else sl.record.hold }
    entries := splitEntries s.lineTable.queue gone c sl, rows := [] }

/-- The state once the LINE TABLE's and the HOLD UNIT's parts of the split of slot `c` are done: `m` and `i` are what a write cut
short left. -/
def State.splitLines (s : State) (c : Nat) (r : ChartRecord) (gone : Write → Bool) (m : List Host.Cell) (i : Nat) : State :=
  { s with
    memory := m, interruptedWrites := i, pool := poolSplit s.lineTable.queue gone c s.pool
    lineTable := { s.lineTable with
      requests := s.lineTable.requests.filter (fun y => y != QuietRequest.splitClear c)
      queue := (writesLeft s.lineTable.queue gone).filter (fun w =>
        !intoPeerShadow (poolLeft s.lineTable.queue gone s.pool) (writesLeft s.lineTable.queue gone) c w)
      started := s.lineTable.started && s.lineTable.queue.head?.any (fun w =>
        !intoPeerShadow (poolLeft s.lineTable.queue gone s.pool) (writesLeft s.lineTable.queue gone) c w)
      store := s.lineTable.store.filter (fun st => !freedBy s.lineTable.queue gone false st.entry &&
        !peerShadowAt (poolLeft s.lineTable.queue gone s.pool) (writesLeft s.lineTable.queue gone) c st.entry) }
    slots := Sparse.modify s.slots c (s.splitSlot c r gone)
    fetch := { s.fetch with timers := s.fetch.timers.filter (fun t => t.key != r.key) }
    attention := { s.attention with
      events := if r.hold = .thawing ∧ ∀ p ∈ poolSplit s.lineTable.queue gone c s.pool, ¬(p.2.kind = .shadow ∧ p.2.slot = c)
        then insertEvent ⟨.thawDone, c⟩ s.attention.events else s.attention.events } }

/-- A write that stays in progress is cut short as it stood: that it is marked stale or not depends on an entry no longer there. -/
theorem intoPeerShadow_marked (queue : List Write) (gone : Write → Bool) (pool : List (Nat × PoolEntry)) (c : Nat) (w : Write) :
    intoPeerShadow (poolLeft queue gone pool) (writesLeft queue gone) c
        (if w.kind = .pool ∧ freedBy queue gone false w.target = true then { w with stale := true } else w) =
      intoPeerShadow (poolLeft queue gone pool) (writesLeft queue gone) c w := by
  split
  · next freed =>
    obtain ⟨-, freed⟩ := freed
    have none : peerShadowAt (poolLeft queue gone pool) (writesLeft queue gone) c w.target = false := by
      refine List.any_eq_false.2 fun p hp => ?_
      obtain ⟨q, hq, rfl⟩ := List.mem_map.1 hp
      have stays := (List.mem_filter.1 hq).2
      by_cases at' : q.1 = w.target
      · rw [at', freed] at stays
        cases stays
      · simp [at']
    simp [intoPeerShadow, none]
  · rfl

/-- The write in progress, none of the cancelled ones, is at the head of those left. -/
theorem head_writesLeft {queue : List Write} {gone : Write → Bool} (h : ∀ w, queue.head? = some w → gone w = false) :
    (writesLeft queue gone).head? = queue.head?.map (fun w =>
      if w.kind = .pool ∧ freedBy queue gone false w.target = true then { w with stale := true } else w) := by
  cases queue with
  | nil => rfl
  | cons w rest =>
    have stays : gone w = false := h w rfl
    have kept : (w :: rest).filter (fun w => !gone w) = w :: rest.filter (fun w => !gone w) :=
      List.filter_cons_of_pos (by rw [stays]; rfl)
    rw [writesLeft, kept]
    rfl

/-- The state once the LINE TABLE's part of the split of slot `c` is done and its rows and timers are gone. -/
def State.linesCleared (s : State) (c : Nat) (r : ChartRecord) (gone : Write → Bool) : State :=
  { s with
    pool := poolLeft s.lineTable.queue gone s.pool
    lineTable := { s.lineTable with
      requests := s.lineTable.requests.filter (fun y => y != QuietRequest.splitClear c)
      queue := writesLeft s.lineTable.queue gone
      store := s.lineTable.store.filter (fun st => !freedBy s.lineTable.queue gone false st.entry) }
    slots := Sparse.modify s.slots c (fun sl => { record := sl.record, entries := splitEntries s.lineTable.queue gone c sl, rows := [] })
    fetch := { s.fetch with timers := s.fetch.timers.filter (fun t => t.key != r.key) } }

/-- The steps of a split up to the directory's part (R108). -/
theorem State.carryOutSplit_cleared {c : Nat} {r : ChartRecord} {gone : Write → Bool} (hg : s.splitCancels c = gone)
    (hr : s.record? c = some r) (reads : s.NoReads) : s.carryOutSplit c =
      (State.settleMigration (let z := (((s.linesCleared c r gone).clearPeerShadows c).splitRecord c r.key).post .alignSplit c
        { z with alignment := { z.alignment with
          state := .migrating, provisional := [], references := []
          migration := z.alignment.provisional.map (fun h => (h, h.ownIndex)) } })).startNext := by
  obtain ⟨x, hx⟩ : ∃ x : State, x = { s with lineTable := { s.lineTable with
    requests := s.lineTable.requests.filter (fun q => q != QuietRequest.splitClear c) } } := ⟨_, rfl⟩
  have cleared := State.clearPeerLines_eq (s := x) (c := c) (gone := gone) (by rw [hx]; exact hg)
  have still : (x.clearPeerLines c).NoReads := by
    rw [cleared, hx]
    exact ⟨reads.lines, reads.bodies⟩
  have ready : ((x.clearPeerLines c).modifySlot c (fun sl => { sl with rows := [] })).cancelTimers (fun t => t.key == r.key) =
      s.linesCleared c r gone := by
    rw [cleared, State.modifySlot, Sparse.modify_modify, hx]
    rfl
  unfold State.carryOutSplit
  rw [hr]
  dsimp only
  rw [← hx, State.makeDueReads_of_noReads _ still, ready]

/-- The HOLD UNIT's part of the split on what the LINE TABLE's left. -/
theorem State.splitLines_eq {c : Nat} {r : ChartRecord} (gone : Write → Bool) (hr : s.record? c = some r)
    (busy : ∀ w, s.lineTable.started = true → s.lineTable.queue.head? = some w → gone w = false) : ∃ m i,
    (∀ a, (∀ w, s.lineTable.started = true → s.lineTable.queue.head? = some w →
        intoPeerShadow (poolLeft s.lineTable.queue gone s.pool) (writesLeft s.lineTable.queue gone) c w = true →
        a < s.writeAddress w ∨ s.writeAddress w + (s.writeBytes w).length ≤ a) →
      Memory.readByte m a = Memory.readByte s.memory a) ∧
    (s.lineTable.queue = [] → m = s.memory ∧ i = s.interruptedWrites) ∧
    (s.linesCleared c r gone).clearPeerShadows c = s.splitLines c r gone m i := by
  obtain ⟨m, i, outside, nothing, cleared⟩ := (s.linesCleared c r gone).clearPeerShadows_eq c
  have record : (s.linesCleared c r gone).record? c = some r := by
    obtain ⟨sl, hsl, rfl⟩ := State.slot_of_record hr
    rw [State.record?, State.slot?, show (s.linesCleared c sl.record gone).slots = Sparse.modify s.slots c (fun sl =>
      { record := sl.record, entries := splitEntries s.lineTable.queue gone c sl, rows := [] }) from rfl, Sparse.find_modify_same, hsl]
    rfl
  have head : s.lineTable.started = true → (s.linesCleared c r gone).lineTable.queue.head? = s.lineTable.queue.head?.map (fun w =>
      if w.kind = .pool ∧ freedBy s.lineTable.queue gone false w.target = true then { w with stale := true } else w) :=
    fun started => head_writesLeft fun w => busy w started
  refine ⟨m, i, fun a apart => outside a fun w started first into => ?_, fun empty => nothing ?_, ?_⟩
  · rw [head started] at first
    obtain ⟨v, hv, rfl⟩ := Option.map_eq_some_iff.1 first
    have place := apart v started hv (by rw [← intoPeerShadow_marked]; exact into)
    split
    · exact place
    · exact place
  · rw [State.linesCleared, empty]
    rfl
  · have goesOn : (s.lineTable.started && (s.linesCleared c r gone).lineTable.queue.head?.any (fun w =>
        !intoPeerShadow (poolLeft s.lineTable.queue gone s.pool) (writesLeft s.lineTable.queue gone) c w)) =
        (s.lineTable.started && s.lineTable.queue.head?.any (fun w =>
          !intoPeerShadow (poolLeft s.lineTable.queue gone s.pool) (writesLeft s.lineTable.queue gone) c w)) := by
      cases started : s.lineTable.started with
      | false => rfl
      | true => rw [head started, Option.any_map]; simp only [intoPeerShadow_marked]
    have store : (s.lineTable.store.filter (fun st => !freedBy s.lineTable.queue gone false st.entry)).filter (fun st =>
        !peerShadowAt (poolLeft s.lineTable.queue gone s.pool) (writesLeft s.lineTable.queue gone) c st.entry) =
        s.lineTable.store.filter (fun st => !freedBy s.lineTable.queue gone false st.entry &&
          !peerShadowAt (poolLeft s.lineTable.queue gone s.pool) (writesLeft s.lineTable.queue gone) c st.entry) := by
      rw [Option.filter_filter]
    have freed : ((s.linesCleared c r gone).shadowsFreed c m i).record? c = some r := record
    have slots : ((s.linesCleared c r gone).shadowsFreed c m i).slots = Sparse.modify s.slots c (fun sl =>
        { record := sl.record, entries := splitEntries s.lineTable.queue gone c sl, rows := [] }) := rfl
    rw [cleared, State.thawEnd_eq freed, slots, Sparse.modify_modify, State.splitLines, ← goesOn, ← store]
    rfl

/-- The held lines of a split move to the chart lines of their own indexes; with none the unit is IDLE (R106, R108). -/
def Alignment.split (a : Alignment) (c : Nat) : Alignment :=
  { a with
    state := if a.provisional = [] then .idle else .migrating
    slot := if a.provisional = [] then none else some c
    key := if a.provisional = [] then none else a.key
    provisional := [], references := []
    migration := a.provisional.map (fun h => (h, h.ownIndex)) }

theorem State.settleMigration_split {c : Nat} (unit : s.alignment.slot = some c) : State.settleMigration { s with
    alignment := { s.alignment with
      state := .migrating, provisional := [], references := []
      migration := s.alignment.provisional.map (fun h => (h, h.ownIndex)) } } = { s with alignment := s.alignment.split c } := by
  unfold State.settleMigration Alignment.split
  by_cases none : s.alignment.provisional = []
  · rw [if_pos (by simp [none])]
    simp only [if_pos none]
  · rw [if_neg (by simp [none])]
    simp only [if_neg none, ← unit]

/-- The state once the split of slot `c` is carried out, before the next write starts: `u` is the state with the new key free. -/
def State.splitMade (u : State) (c : Nat) (old k : Key) (announce : Payload) (a : Alignment) : State :=
  { u.rekeyed c old k announce with
    attention := { u.attention with events := insertEvent ⟨.alignSplit, c⟩ (insertEvent ⟨.chartOpened, c⟩ u.attention.events) }
    alignment := a.split c }

/-- A split in full, once what the lines' part leaves is known (R108). -/
theorem State.carryOutSplit_eq {c : Nat} {r : ChartRecord} {gone : Write → Bool} (hg : s.splitCancels c = gone)
    (hr : s.record? c = some r) (reads : s.NoReads) (unit : s.alignment.slot = some c) {m : List Host.Cell} {i : Nat}
    (lines : (s.linesCleared c r gone).clearPeerShadows c = s.splitLines c r gone m i) {q : Byte}
    (free : originates (s.splitLines c r gone m i) q u) (same : u.alignment = s.alignment)
    (spared : ∃ r', u.record? c = some r' ∧ r'.rate = r.rate ∧ r'.late = r.late) : s.carryOutSplit c =
      (u.splitMade c r.key { origin := s.self, sequence := q } (s.splitOpen { origin := s.self, sequence := q } r.rate r.late)
        s.alignment).startNext := by
  obtain ⟨r', hr', rate, late⟩ := spared
  rw [State.carryOutSplit_cleared hg hr reads, lines, State.splitRecord_eq free hr', rate, late]
  have moved := State.settleMigration_split (c := c)
    (s := (u.rekeyed c r.key { origin := s.self, sequence := q } (s.splitOpen { origin := s.self, sequence := q } r.rate r.late)).post
      .alignSplit c) ((congrArg Alignment.slot same).trans unit)
  rw [← same]
  exact congrArg State.startNext moved

/-- The slot's record has its rate, lateness and state through the lines' part of a split. -/
theorem State.record_splitLines {c : Nat} {r : ChartRecord} (hr : s.record? c = some r) (gone : Write → Bool) (m : List Host.Cell)
    (i : Nat) : ∃ r', (s.splitLines c r gone m i).record? c = some r' ∧ r'.rate = r.rate ∧ r'.late = r.late ∧
      r'.state = r.state := by
  obtain ⟨sl, hsl, rfl⟩ := State.slot_of_record hr
  refine ⟨(s.splitSlot c sl.record gone sl).record, ?_, rfl, rfl, rfl⟩
  have slots : (s.splitLines c sl.record gone m i).slots = Sparse.modify s.slots c (s.splitSlot c sl.record gone) := rfl
  rw [State.record?, State.slot?, slots, Sparse.find_modify_same, hsl]
  rfl

/-- Where no record holds this station's next key, the split takes it. -/
theorem State.originates_splitLines (fresh : ∀ p ∈ s.slots, p.2.record.key ≠ { origin := s.self, sequence := s.originSequence })
    (c : Nat) (r : ChartRecord) (gone : Write → Bool) (m : List Host.Cell) (i : Nat) :
    originates (s.splitLines c r gone m i) s.originSequence (s.splitLines c r gone m i) := by
  refine ⟨⟨0, by decide, (BitVec.add_zero _).symm, fun j hj => absurd hj (Nat.not_lt_zero j)⟩, .inl ⟨?_, rfl⟩⟩
  refine List.find?_eq_none.2 fun p hp => ?_
  obtain ⟨p', hp', rfl⟩ := List.mem_map.1 hp
  have same : (if p'.1 = c then (p'.1, s.splitSlot c r gone p'.2) else p').2.record.key = p'.2.record.key := by
    split <;> rfl
  rw [same]
  exact fun found => fresh p' hp' (eq_of_beq found)

/-! ## The command -/

/-- The split of a quiet slot that no earlier request of its own holds back is due (R37, R107). -/
theorem State.splitDue_eq {c : Nat} {before after : List QuietRequest} (wait : s.alignment.state = .splitWait)
    (unit : s.alignment.slot = some c) (requests : s.lineTable.requests = before ++ QuietRequest.splitClear c :: after)
    (first : QuietRequest.splitClear c ∉ before ∧ QuietRequest.freeze c ∉ before)
    (quiet : ∀ w rest, s.lineTable.queue = w :: rest → s.lineTable.started = true → w.kind = .pool ∨ w.slot ≠ c) :
    s.splitDue = some c := by
  have still : s.quiet c = true := by
    unfold State.quiet
    split
    · rfl
    · next w rest hq =>
      cases started : s.lineTable.started with
      | false => rfl
      | true => rcases quiet w rest hq started with pool | other <;> simp [Write.intoComposite, *]
  have found : s.firstRequest c = some (QuietRequest.splitClear c) := by
    obtain ⟨noSplit, noFreeze⟩ := first
    unfold State.firstRequest
    rw [requests, List.find?_append, List.find?_eq_none.2, List.find?_cons_of_pos (by simp)]
    · rfl
    · rintro (d | d) hd <;> simp only [decide_eq_true_eq] <;> rintro rfl
      · exact noSplit hd
      · exact noFreeze hd
  unfold State.splitDue
  rw [if_pos wait, unit, Option.bind_some, if_pos (by simp [still, found])]

theorem State.exec_splitClear {c : Nat} (run : s.config.state = .run) (due : s.splitDue = some c) (reads : s.NoReads) :
    exec .splitClear s = .next ((s.carryOutSplit c).takeArrival s.candidateWaits).settle := by
  refine congrArg Host.Outcome.next ((State.whenRunning_run run _).trans ?_)
  rw [due, State.makeDueReads_of_noReads s reads]

/-! ## With nothing queued -/

/-- The entries of a slot after its split clear with nothing queued. -/
def Slot.clearedEntries (sl : Slot) : List (Nat × LineEntry) :=
  (sl.entries.map (fun (p : Nat × LineEntry) => (p.1,
    if p.2.origin = some .peer then LineEntry.empty else { p.2 with pending := none }))).filter
      (fun p => p.2 != LineEntry.empty)

theorem splitEntries_nil (gone : Write → Bool) (c : Nat) (sl : Slot) : splitEntries [] gone c sl = sl.clearedEntries := by
  refine congrArg (List.filter _) (List.map_congr_left fun p _ => ?_)
  dsimp only
  split <;> rfl

theorem peerShadowAt_none {pool : List (Nat × PoolEntry)} {c : Nat} (h : ∀ p ∈ pool, ¬(p.2.kind = .shadow ∧ p.2.slot = c))
    (queue : List Write) (n : Nat) : peerShadowAt pool queue c n = false :=
  List.any_eq_false.2 fun p hp into => h p hp (by
    obtain ⟨-, shadow⟩ := Bool.and_eq_true_iff.1 into
    obtain ⟨kind, slot, -⟩ := of_decide_eq_true shadow
    exact ⟨kind, slot⟩)

theorem poolLeft_nil (gone : Write → Bool) (pool : List (Nat × PoolEntry)) : poolLeft [] gone pool = pool := by
  have all : pool.filter (fun p => !freedBy [] gone false p.1) = pool := List.filter_eq_self.2 fun _ _ => rfl
  rw [poolLeft, all]
  exact List.map_id _

/-- A split with nothing queued, no SHADOW entry in the slot and no thaw: what its lines' part leaves. -/
theorem State.splitLines_idle {c : Nat} {r : ChartRecord} (gone : Write → Bool) (empty : s.lineTable.queue = [])
    (requests : s.lineTable.requests = [QuietRequest.splitClear c])
    (noShadow : ∀ p ∈ s.pool, ¬(p.2.kind = .shadow ∧ p.2.slot = c)) (unthawed : r.hold ≠ .thawing) :
    s.splitLines c r gone s.memory s.interruptedWrites = { s with
      lineTable := { s.lineTable with requests := [], started := false }
      slots := Sparse.modify s.slots c (fun sl => { record := sl.record, entries := sl.clearedEntries, rows := [] })
      fetch := { s.fetch with timers := s.fetch.timers.filter (fun t => t.key != r.key) } } := by
  have pool : poolSplit [] gone c s.pool = s.pool := by
    rw [poolSplit, poolLeft_nil]
    exact List.filter_eq_self.2 fun p _ => by rw [peerShadowAt_none noShadow]; rfl
  have slot : s.splitSlot c r gone = fun sl => { record := sl.record, entries := sl.clearedEntries, rows := [] } := by
    funext sl
    rw [State.splitSlot, empty, splitEntries_nil, if_neg fun k => unthawed k.1]
  have store : s.lineTable.store.filter (fun st => !freedBy [] gone false st.entry &&
      !peerShadowAt (poolLeft [] gone s.pool) (writesLeft [] gone) c st.entry) = s.lineTable.store := by
    rw [poolLeft_nil]
    simp only [peerShadowAt_none noShadow]
    cases s.lineTable.store <;> rfl
  rw [State.splitLines, slot, empty, pool, store, requests, if_neg fun k => unthawed k.1]
  have carriedOut : [QuietRequest.splitClear c].filter (fun y => y != QuietRequest.splitClear c) = [] := by simp
  have table : ({ s.lineTable with requests := [], queue := [], started := false } : LineTable) =
      { s.lineTable with requests := [], started := false } := by rw [← empty]
  rw [carriedOut, ← table, ← Bool.and_false s.lineTable.started]
  rfl

theorem Link.queueOpenClose_room {l : Link} (mute : l.mute = false) (room : l.openClose.length < 4) (p : Payload) :
    l.queueOpenClose p = some { l with openClose := l.openClose ++ [QueuedFrame.fresh p] } := by
  simp [Link.queueOpenClose, mute, joinQueue, room]

/-- With two places left in its queue both frames of a split are queued. -/
theorem State.rekeyed_room {c : Nat} {old k : Key} {announce : Payload} (mute : u.link.mute = false)
    (room : u.link.openClose.length ≤ 2) : u.rekeyed c old k announce = { u with
      originSequence := k.sequence + 1
      slots := Sparse.modify u.slots c (fun sl => { sl with record := { sl.splitRecord k.origin k with ownOpen := .queued } })
      link := { u.link with openClose := u.link.openClose ++ [QueuedFrame.fresh (splitClose old), QueuedFrame.fresh announce] }
      attention := { u.attention with events := insertEvent ⟨.chartOpened, c⟩ u.attention.events } } := by
  have closed : u.splitClosed old = { u.link with openClose := u.link.openClose ++ [QueuedFrame.fresh (splitClose old)] } := by
    rw [State.splitClosed, Link.queueOpenClose_room mute (by omega)]
    rfl
  have opened : u.splitOpened old announce = some { u.link with
      openClose := u.link.openClose ++ [QueuedFrame.fresh (splitClose old)] ++ [QueuedFrame.fresh announce] } := by
    rw [State.splitOpened, closed]
    exact Link.queueOpenClose_room (l := { u.link with openClose := u.link.openClose ++ [QueuedFrame.fresh (splitClose old)] }) mute
      (by rw [List.length_append, List.length_singleton]; omega) announce
  rw [State.rekeyed, opened, closed, Option.getD_some, List.append_assoc]
  rfl

theorem State.splitMade_room {c : Nat} {old k : Key} {announce : Payload} (a : Alignment) (mute : u.link.mute = false)
    (room : u.link.openClose.length ≤ 2) : u.splitMade c old k announce a = { u with
      originSequence := k.sequence + 1
      slots := Sparse.modify u.slots c (fun sl => { sl with record := { sl.splitRecord k.origin k with ownOpen := .queued } })
      link := { u.link with openClose := u.link.openClose ++ [QueuedFrame.fresh (splitClose old), QueuedFrame.fresh announce] }
      attention := { u.attention with events := insertEvent ⟨.alignSplit, c⟩ (insertEvent ⟨.chartOpened, c⟩ u.attention.events) }
      alignment := a.split c } := by
  rw [State.splitMade, State.rekeyed_room mute room]

/-- Settles O32: with nothing queued the lines' part of the split leaves the tables as they are but for what it empties, and with
writes queued each part is what its own lemma says. -/
theorem splitClearGivesNewChart : Obligations.SplitClearGivesNewChart := by
  constructor
  · intro s c r run wait unit record queue requests reads noShadow unthawed fresh unmuted room held key cleared close announce
      newRecord split
    obtain ⟨m, i, -, nothing, done⟩ := State.splitLines_eq (s.splitCancels c) record fun w _ head => by rw [queue] at head; cases head
    obtain ⟨rfl, rfl⟩ := nothing queue
    obtain ⟨u, hu⟩ : ∃ u : State, s.splitLines c r (s.splitCancels c) s.memory s.interruptedWrites = u := ⟨_, rfl⟩
    have idle := hu.symm.trans (State.splitLines_idle (s.splitCancels c) queue requests noShadow unthawed)
    have free := State.originates_splitLines fresh c r (s.splitCancels c) s.memory s.interruptedWrites
    obtain ⟨r', hr', rate, late, -⟩ := State.record_splitLines record (s.splitCancels c) s.memory s.interruptedWrites
    have carried := State.carryOutSplit_eq rfl record reads unit done free rfl ⟨r', hr', rate, late⟩
    have made : s.carryOutSplit c = split := by
      have link : u.link = s.link := by rw [idle]
      have empty : u.lineTable.queue = [] := by rw [idle]; exact queue
      have moving : s.alignment.split c = split.alignment := by
        simp only [Alignment.split, if_neg held, ← unit]
        rfl
      have none : (u.splitMade c r.key key announce s.alignment).lineTable.queue = [] := empty
      have slots : Sparse.modify u.slots c (fun sl => { sl with record := { sl.splitRecord s.self key with ownOpen := .queued } }) =
          split.slots := by
        rw [idle, Sparse.modify_modify]
        rfl
      rw [carried, hu]
      refine (State.startNext_none none).trans ?_
      rw [State.splitMade_room _ (by rw [link]; exact unmuted) (by rw [link]; exact room), moving, slots, idle]
      rfl
    have ran : exec .splitClear s = .next (split.takeArrival s.candidateWaits).settle := by
      rw [← made]
      exact State.exec_splitClear run (State.splitDue_eq (before := []) (after := []) wait unit requests (by simp)
        fun w rest hq => by rw [queue] at hq; cases hq) reads
    refine ⟨fun waits => ?_, fun h rest free lines => ?_⟩
    · rw [ran, waits]
      rfl
    · have stillReads : split.NoReads := ⟨reads.lines, reads.bodies⟩
      obtain ⟨noStore, noLines, noBody, -, -⟩ := s.candidateWaits_eq_false_iff.1 free
      have list : split.alignment.migration = (h, h.ownIndex) :: rest.map (fun h => (h, h.ownIndex)) := by
        simp only [split, lines, List.map_cons]
      have waits : split.candidateWaits = true := by
        by_contra none
        obtain ⟨-, -, -, still, -⟩ := split.candidateWaits_eq_false_iff.1 (by simpa using none)
        exact still.elim (fun moved => moved rfl) fun empty => by rw [list] at empty; cases empty
      rw [ran, free, State.takeArrival_of_idle split stillReads rfl (by simp [split, queue]) waits,
        State.takeNext_migration (s := split) noStore noLines noBody rfl list unit, State.takeMigration_eq list]
      rfl
  · intro s c r before after run wait unit record aligning requests noSplit noFreeze quiet reads ordered lt cancelled kept frees
      queue cleared lines shadow dropped pool thawed intoDropped
    have hg : s.splitCancels c = cancelled := by
      funext w
      simp [State.splitCancels, Write.intoComposite, cancelled, bne, beq_eq_decide, Bool.and_assoc]
    have busy : ∀ w, s.lineTable.started = true → s.lineTable.queue.head? = some w → cancelled w = false := by
      intro w started head
      obtain ⟨rest, hq⟩ := List.head?_eq_some_iff.1 head
      exact decide_eq_false fun ⟨kind, slot, _⟩ => (quiet w rest hq started).elim kind fun other => other slot
    obtain ⟨m, i, outside, -, done⟩ := State.splitLines_eq cancelled record busy
    refine ⟨m, i, outside, ?_⟩
    intro x q u free key closed opened
    rw [State.exec_splitClear run (State.splitDue_eq wait unit requests ⟨noSplit, noFreeze⟩ quiet) reads]
    have free' : originates (s.splitLines c r cancelled m i) q u := free
    obtain ⟨r', hr', rate, late, state⟩ := State.record_splitLines record cancelled m i
    have rising : Sparse.Rising (s.splitLines c r cancelled m i).slots :=
      Sparse.rising_modify c (s.splitSlot c r cancelled) ordered.slots
    obtain ⟨same, r'', hr'', rate', late'⟩ := originates_spares free' rising hr' (by rw [state, aligning]; decide) unit
    rw [State.carryOutSplit_eq hg record reads unit done free' same ⟨r'', hr'', rate'.trans rate, late'.trans late⟩]
    rfl

end Sys2Proof.Machine
end

section
/-!
PROOF. The voice of a station: what it queues, sends, asks and serves; and what keeps a station under MUTE silent and its
transmitter good.
-/
namespace Sys2Proof.Machine

/-! ## The voice -/

/-- All that MuteIsSilent and TransmitterGood speak of. -/
structure Voice where
  link : Link
  station : StationState
  fetches : List FetchEntry
  timers : List FallbackTimer
  bodies : List SendBody

def State.voice (s : State) : Voice where
  link := s.link
  station := s.roster.state
  fetches := s.fetch.fetches
  timers := s.fetch.timers
  bodies := s.fetch.bodies

/-- Nothing is queued, sent, asked or served. -/
structure Voice.Hushed (v : Voice) : Prop where
  openClose : v.link.openClose = []
  askDecline : v.link.askDecline = []
  tally : v.link.tally = []
  segments : v.link.segments = []
  hail : v.link.hail = none
  hailReplacement : v.link.hailReplacement = none
  transmitter : v.link.transmitter = .free
  attempt : v.link.attempt = none
  fetches : v.fetches = []
  timers : v.timers = []
  bodies : v.bodies = []

/-- The transmitter is FREE in LISTEN and has an attempt only while it sends one (R49, R50, R61). -/
structure Voice.Good (v : Voice) : Prop where
  listen : v.station = .listen → v.link.transmitter = .free
  attempt : v.link.attempt.isSome → v.link.transmitter = .arbitrating ∨ v.link.transmitter = .sending

theorem State.muteIsSilent_iff (s : State) : s.MuteIsSilent ↔ (s.link.mute = true → s.voice.Hushed) where
  mp h m :=
    ⟨h.openClose m, h.askDecline m, h.tally m, h.segments m, (h.hail m).1, (h.hail m).2, (h.transmitter m).1,
      (h.transmitter m).2, (h.fetch m).1, (h.fetch m).2.1, (h.fetch m).2.2⟩
  mpr h :=
    ⟨fun m => (h m).openClose, fun m => (h m).askDecline, fun m => (h m).tally, fun m => (h m).segments,
      fun m => ⟨(h m).hail, (h m).hailReplacement⟩, fun m => ⟨(h m).transmitter, (h m).attempt⟩,
      fun m => ⟨(h m).fetches, (h m).timers, (h m).bodies⟩⟩

theorem State.transmitterGood_iff (s : State) : s.TransmitterGood ↔ s.voice.Good :=
  ⟨fun ⟨h, k⟩ => ⟨h, k⟩, fun ⟨h, k⟩ => ⟨h, k⟩⟩

/-- From `a` to `b` a station under MUTE stays silent, and the transmitter stays good. -/
structure Voice.Keep (a b : Voice) : Prop where
  silent : (a.link.mute = true → a.Hushed) → b.link.mute = true → b.Hushed
  good : a.Good → b.Good

/-- From `s` to `t` a station under MUTE stays silent, and the transmitter stays good. -/
abbrev State.KeepsVoice (s t : State) : Prop := s.voice.Keep t.voice

variable {s t u : State}

theorem Voice.Keep.trans {a b c : Voice} (h : a.Keep b) (k : b.Keep c) : a.Keep c :=
  ⟨k.silent ∘ h.silent, k.good ∘ h.good⟩

theorem State.KeepsVoice.of_voice (h : t.voice = s.voice) : s.KeepsVoice t := by
  unfold State.KeepsVoice
  rw [h]
  exact ⟨id, id⟩

theorem State.KeepsVoice.refl (s : State) : s.KeepsVoice s := .of_voice rfl

/-- What follows and leaves the voice as it is keeps what was kept. -/
theorem Voice.Keep.same (h : s.KeepsVoice t) (k : u.voice = t.voice) : s.KeepsVoice u :=
  Voice.Keep.trans h (State.KeepsVoice.of_voice k)

/-- What is done alike to a voice that another state shares. -/
theorem Voice.Keep.after (k : t.KeepsVoice u) (h : t.voice = s.voice) : s.KeepsVoice u :=
  (State.KeepsVoice.of_voice h).trans k

theorem Voice.Keep.iteElse {c : Prop} [Decidable c] (h : s.KeepsVoice t) (k : s.KeepsVoice u) :
    s.KeepsVoice (if c then t else u) := by
  split
  · exact h
  · exact k

theorem Voice.Keep.ite {c : Prop} [Decidable c] (h : s.KeepsVoice t) : s.KeepsVoice (if c then t else s) :=
  h.iteElse (State.KeepsVoice.refl s)

/-! ## Changes of the voice -/

/-- A change of queues, fetches, timers and bodies that queues nothing under MUTE. -/
theorem Voice.Keep.of_queues {a b : Voice} (mute : b.link.mute = a.link.mute) (transmitter : b.link.transmitter = a.link.transmitter)
    (attempt : b.link.attempt = a.link.attempt) (station : b.station = a.station)
    (hushed : a.link.mute = true → a.Hushed → b.Hushed) : a.Keep b where
  silent h m := by
    rw [mute] at m
    exact hushed m (h m)
  good h := ⟨by rw [station, transmitter]; exact h.listen, by rw [attempt, transmitter]; exact h.attempt⟩

/-- A change of queues, fetches, timers and bodies while MUTE is clear. -/
theorem Voice.Keep.of_unmuted {a b : Voice} (clear : a.link.mute = false) (mute : b.link.mute = a.link.mute)
    (transmitter : b.link.transmitter = a.link.transmitter) (attempt : b.link.attempt = a.link.attempt)
    (station : b.station = a.station) : a.Keep b :=
  .of_queues mute transmitter attempt station fun m => by simp [clear] at m

/-- An attempt ends, and the transmitter is FREE: there is none under MUTE. -/
theorem Voice.Keep.of_ended {a b : Voice} {c : FrameClass} (during : a.link.attempt = some c) (mute : b.link.mute = a.link.mute)
    (transmitter : b.link.transmitter = .free) (attempt : b.link.attempt = none) : a.Keep b where
  silent h m := by
    rw [mute] at m
    have := (h m).attempt
    simp [during] at this
  good _ := ⟨fun _ => transmitter, fun h => by simp [attempt] at h⟩

/-- A link at its reset values keeps silent and its transmitter is FREE. -/
theorem State.keepsVoice_resetLink (h : t.link = Link.reset) : s.KeepsVoice t where
  silent _ m := by
    simp [State.voice, h, Link.reset] at m
  good _ := ⟨fun _ => by simp [State.voice, h, Link.reset], fun k => by simp [State.voice, h, Link.reset] at k⟩

/-! ## Frames join and leave queues (R54 to R60) -/

theorem withdrawFrom_nil (p : QueuedFrame → Bool) (b : Bool) : withdrawFrom p b [] = [] := by
  cases b <;> rfl

/-- A frame that joined a queue leaves the transmitter as it is, and joined while MUTE was clear (R54). -/
structure Link.Queued (l m : Link) : Prop where
  clear : l.mute = false
  mute : m.mute = l.mute
  transmitter : m.transmitter = l.transmitter
  attempt : m.attempt = l.attempt

theorem Link.queueOpenClose_queued {l m : Link} {p : Payload} (h : l.queueOpenClose p = some m) : l.Queued m := by
  unfold Link.queueOpenClose at h
  split at h
  · cases h
  · next clear =>
    obtain ⟨q, -, rfl⟩ := Option.map_eq_some_iff.1 h
    exact ⟨by simpa using clear, rfl, rfl, rfl⟩

theorem Link.queueAsk_queued {l m : Link} {a : Ask} (h : l.queueAsk a = some m) : l.Queued m := by
  unfold Link.queueAsk at h
  split at h
  · cases h
  · next clear =>
    obtain ⟨q, -, rfl⟩ := Option.map_eq_some_iff.1 h
    exact ⟨by simpa using clear, rfl, rfl, rfl⟩

theorem Link.queueTally_queued {l m : Link} {x : Tally} (clear : l.mute = false) (h : l.queueTally x = some m) : l.Queued m := by
  unfold Link.queueTally at h
  split at h
  · cases h
    exact ⟨clear, rfl, rfl, rfl⟩
  · cases h

theorem Link.Queued.keepsVoice {m : Link} {f : Fetch} (h : s.link.Queued m) : s.KeepsVoice { s with link := m, fetch := f } :=
  .of_unmuted h.clear h.mute h.transmitter h.attempt rfl

/-- A DECLINE is queued while MUTE is clear, or nothing is. -/
theorem Link.queueDecline_queued (l : Link) (d : Decline) : l.queueDecline d = l ∨ l.Queued (l.queueDecline d) := by
  unfold Link.queueDecline
  split
  · exact .inl rfl
  · next clear =>
    split
    · exact .inr ⟨by simpa using clear, rfl, rfl, rfl⟩
    · exact .inl rfl

/-- A HAIL is queued while MUTE is clear, or nothing is. -/
theorem Link.queueHail_queued (l : Link) (h : Hail) : l.queueHail h = l ∨ l.Queued (l.queueHail h) := by
  unfold Link.queueHail
  split
  · exact .inl rfl
  · next clear =>
    have clear : l.mute = false := by simpa using clear
    split
    · exact .inr ⟨clear, rfl, rfl, rfl⟩
    · exact .inr ⟨clear, rfl, rfl, rfl⟩

/-- What becomes of a head of a queue leaves the MUTE flag. -/
theorem Link.replaceHead_mute (l : Link) (c : FrameClass) (new : List QueuedFrame) : (l.replaceHead c new).mute = l.mute := by
  cases c
  case hail => simp only [Link.replaceHead]; split <;> rfl
  all_goals rfl

/-! ## Operations that leave the voice as it is -/

@[simp] theorem State.modifySlot_voice (s : State) (c : Nat) (f : Slot → Slot) : (s.modifySlot c f).voice = s.voice := rfl

@[simp] theorem State.modifyRecord_voice (s : State) (c : Nat) (f : ChartRecord → ChartRecord) :
    (s.modifyRecord c f).voice = s.voice := rfl

@[simp] theorem State.modifyEntry_voice (s : State) (c n : Nat) (f : LineEntry → LineEntry) :
    (s.modifyEntry c n f).voice = s.voice := rfl

@[simp] theorem State.modifyRow_voice (s : State) (c n : Nat) (f : HolderRow → HolderRow) :
    (s.modifyRow c n f).voice = s.voice := rfl

@[simp] theorem State.post_voice (s : State) (k : EventKind) (n : Nat) : (s.post k n).voice = s.voice := rfl

@[simp] theorem State.respond_voice (s : State) (r : Response) : (s.respond r).voice = s.voice := rfl

@[simp] theorem State.clockOut_voice (s : State) (l : List Byte) : (s.clockOut l).voice = s.voice := rfl

@[simp] theorem State.modifyPool_voice (s : State) (n : Nat) (f : PoolEntry → PoolEntry) : (s.modifyPool n f).voice = s.voice := rfl

@[simp] theorem State.setContext_voice (s : State) (n : Nat) (c : Option Context) : (s.setContext n c).voice = s.voice := rfl

@[simp] theorem State.setBatch_voice (s : State) (b : Option Batch) : (s.setBatch b).voice = s.voice := rfl

@[simp] theorem State.modifyReception_voice (s : State) (f : Reception → Reception) : (s.modifyReception f).voice = s.voice := rfl

@[simp] theorem State.setAlignment_voice (s : State) (a : Alignment) : { s with alignment := a }.voice = s.voice := rfl

@[simp] theorem State.removeSlot_voice (s : State) (c order : Nat) : (s.removeSlot c order).voice = s.voice := rfl

@[simp] theorem State.removeSlotEvents_voice (s : State) (c : Nat) : (s.removeSlotEvents c).voice = s.voice := rfl

@[simp] theorem State.reach_voice (s : State) (d : Nat) : (s.reach d).voice = s.voice := rfl

theorem State.voice_ite {c : Prop} [Decidable c] (h : t.voice = s.voice) (k : u.voice = s.voice) :
    (if c then t else u).voice = s.voice := by
  split
  · exact h
  · exact k

@[simp] theorem State.startNext_voice (s : State) : s.startNext.voice = s.voice := by
  unfold State.startNext
  split
  · rfl
  · exact State.voice_ite rfl rfl

@[simp] theorem State.queueWrite_voice (s : State) (w : Write) : (s.queueWrite w).voice = s.voice := State.startNext_voice _

@[simp] theorem State.cancelWrites_voice (s : State) (p : Write → Bool) : (s.cancelWrites p).voice = s.voice := by
  obtain ⟨m, i, h, -⟩ := s.cancelWrites_eq p
  rw [h]
  rfl

@[simp] theorem State.freePools_voice (s : State) (l : List Nat) : (s.freePools l).voice = s.voice := by
  rw [State.freePools_eq]
  rfl

@[simp] theorem State.freeNamed_voice (s : State) (n : Option Nat) : (s.freeNamed n).voice = s.voice := by
  cases n <;> rfl

@[simp] theorem State.freeAndCancel_voice (s : State) (l : List Nat) : (s.freeAndCancel l).voice = s.voice := by
  simp [State.freeAndCancel]

@[simp] theorem State.unmerge_voice (s : State) (l : List Nat) : (s.unmerge l).voice = s.voice := by
  induction l generalizing s with
  | nil => rfl
  | cons n l ih => exact ih _

@[simp] theorem State.thawEnd_voice (s : State) (c : Nat) : (s.thawEnd c).voice = s.voice := State.voice_ite rfl rfl

@[simp] theorem State.settleMigration_voice (s : State) : s.settleMigration.voice = s.voice := State.voice_ite rfl rfl

@[simp] theorem State.releaseAlignment_voice (s : State) (c : Nat) : (s.releaseAlignment c).voice = s.voice :=
  State.voice_ite rfl rfl

@[simp] theorem State.releasePool_voice (s : State) (c : Nat) : (s.releasePool c).voice = s.voice := State.voice_ite rfl rfl

@[simp] theorem State.makeRead_voice (s : State) : s.makeRead.voice = s.voice := by
  unfold State.makeRead
  split <;> rfl

@[simp] theorem State.closingTest_voice (s : State) (c : Nat) : (s.closingTest c).voice = s.voice := by
  unfold State.closingTest
  split
  · exact State.voice_ite rfl rfl
  · rfl

@[simp] theorem State.closingTests_voice (s : State) (l : List Nat) : (s.closingTests l).voice = s.voice := by
  induction l generalizing s with
  | nil => rfl
  | cons c l ih => exact (ih _).trans (s.closingTest_voice c)

@[simp] theorem State.ownOpenNotice_voice (s : State) (k : Key) : (s.ownOpenNotice k).voice = s.voice := by
  unfold State.ownOpenNotice
  split <;> rfl

theorem State.assignShadow_voice {c n e : Nat} (h : s.assignShadow c n = some (e, t)) : t.voice = s.voice := by
  rw [State.assignShadow_eq h]
  rfl

@[simp] theorem State.acceptOffset_voice (s : State) (c : Nat) (d : Int) : (s.acceptOffset c d).voice = s.voice := by
  unfold State.acceptOffset
  exact (State.settleMigration_voice _).trans (State.freePools_voice _ _)

@[simp] theorem State.evaluate_voice (s : State) : s.evaluate.voice = s.voice := by
  unfold State.evaluate State.alignDecision
  split
  · refine State.voice_ite ?_ rfl
    split
    · exact State.voice_ite (s.acceptOffset_voice _ _) rfl
    · rfl
  · rfl

@[simp] theorem State.alignTally_voice (s : State) (st : Station) (x : Tally) : (s.alignTally st x).voice = s.voice :=
  State.voice_ite (State.voice_ite (State.evaluate_voice _) rfl) rfl

@[simp] theorem State.queueStore_voice (s : State) (st : ProvisionalStore) : (s.queueStore st).voice = s.voice :=
  State.queueWrite_voice _ _

theorem State.handStore_voice (s : State) (st : ProvisionalStore) : (s.handStore st).voice = s.voice := by
  unfold State.handStore
  refine State.voice_ite (s.queueStore_voice st) ?_
  split <;> rfl

@[simp] theorem State.alignLine_voice (s : State) (c n g : Nat) (fp : Fingerprint) (x : Pixels) :
    (s.alignLine c n g fp x).voice = s.voice := by
  have held : ∀ y : State, (y.holdLine c n g fp x).voice = y.voice := fun y => by
    unfold State.holdLine
    split
    · exact State.voice_ite (State.handStore_voice _ _) rfl
    · rfl
  exact State.voice_ite ((State.evaluate_voice _).trans (held _)) rfl

@[simp] theorem State.abandon_voice (s : State) (c : Nat) : (s.abandon c).voice = s.voice := by
  unfold State.abandon
  dsimp only
  rw [State.startNext_voice, State.post_voice, State.modifyRecord_voice, State.freeAndCancel_voice]
  rfl

@[simp] theorem State.clearPeerLines_voice (s : State) (c : Nat) : (s.clearPeerLines c).voice = s.voice := by
  unfold State.clearPeerLines
  dsimp only
  rw [State.freePools_voice, State.unmerge_voice]
  rfl

@[simp] theorem State.clearPeerShadows_voice (s : State) (c : Nat) : (s.clearPeerShadows c).voice = s.voice :=
  (State.thawEnd_voice _ _).trans (State.freeAndCancel_voice _ _)

@[simp] theorem State.redirectWrite_voice (s : State) (c : Nat) (w : Write) : (s.redirectWrite c w).voice = s.voice := by
  unfold State.redirectWrite
  refine State.voice_ite rfl (State.voice_ite (State.unmerge_voice _ _) (State.voice_ite ?_ (State.freeNamed_voice _ _)))
  split
  · next h => exact (State.assignShadow_voice h :)
  · exact State.freeNamed_voice _ _

@[simp] theorem State.tallyHeard_voice (s : State) (st : Station) (x : Tally) : (s.tallyHeard st x).voice = s.voice := by
  unfold State.tallyHeard
  split <;> rfl

@[simp] theorem State.tallyHolders_voice (s : State) (st : Station) (x : Tally) : (s.tallyHolders st x).voice = s.voice := by
  unfold State.tallyHolders
  split <;> rfl

@[simp] theorem State.closeHeard_voice (s : State) (st : Station) (f : ChartClose) : (s.closeHeard st f).voice = s.voice := by
  unfold State.closeHeard
  split
  · rfl
  · split
    · rfl
    · exact State.voice_ite (State.closingTest_voice _ _) rfl

@[simp] theorem State.peerLost_voice (s : State) (st : Station) : (s.peerLost st).voice = s.voice := by
  unfold State.peerLost
  exact State.closingTests_voice _ _

@[simp] theorem State.peerHeard_voice (s : State) (st : Station) : (s.peerHeard st).voice = s.voice := State.voice_ite rfl rfl

@[simp] theorem State.deferAsked_voice (s : State) (a : Ask) : (s.deferAsked a).voice = s.voice := by
  unfold State.deferAsked
  split
  · exact State.voice_ite rfl rfl
  · rfl

@[simp] theorem State.declineRow_voice (s : State) (d : Decline) (st : Station) (counted : Bool) :
    (s.declineRow d st counted).voice = s.voice := by
  unfold State.declineRow
  split <;> rfl

@[simp] theorem State.completeComposite_voice (s : State) (w : Write) : (s.completeComposite w).voice = s.voice := by
  unfold State.completeComposite
  dsimp only
  rw [State.startNext_voice, State.thawEnd_voice, State.modifyRecord_voice, State.post_voice, State.freeNamed_voice]
  rfl

@[simp] theorem State.completePool_voice (s : State) (w : Write) : (s.completePool w).voice = s.voice := by
  unfold State.completePool
  dsimp only
  rw [State.startNext_voice, State.freeNamed_voice]
  exact State.voice_ite rfl rfl

@[simp] theorem State.postAll_voice (s : State) (k : EventKind) (l : List Nat) : (s.postAll k l).voice = s.voice := by
  rw [State.postAll_eq]
  rfl

@[simp] theorem State.release_voice (s : State) : s.release.voice = s.voice := by
  unfold State.release State.postRelease
  exact (State.postAll_voice _ .thawDone _).trans (State.voice_ite (State.postAll_voice _ _ _) rfl)

end Sys2Proof.Machine
end

section
/-!
PROOF. The blocks' operations, in the order of their definitions, queue, send, ask and serve nothing under MUTE, and leave the
transmitter good.
-/
namespace Sys2Proof.Machine

variable {s t u : State}

/-! ## OPEN and CLOSE frames (R80, R82, R90, R91) and the batch (R113, R114) -/

theorem State.queueOpenClose_keepsVoice (s : State) (p : Payload) : s.KeepsVoice (s.queueOpenClose p) := by
  unfold State.queueOpenClose
  split
  · next h => exact (Link.queueOpenClose_queued h).keepsVoice
  · exact .refl s

theorem State.queueOwnOpen_keepsVoice (s : State) (c : Nat) (split : Bool) : s.KeepsVoice (s.queueOwnOpen c split) := by
  unfold State.queueOwnOpen
  split
  · split
    · next h =>
      have queued := (Link.queueOpenClose_queued h).keepsVoice (f := s.fetch)
      exact queued.same rfl
    · exact .of_voice rfl
  · exact .refl s

theorem State.queueBatch_keepsVoice (s : State) : s.KeepsVoice s.queueBatch := by
  unfold State.queueBatch
  split
  · exact .refl s
  · split
    · exact .of_voice rfl
    · next clear =>
      split
      · exact .of_voice rfl
      · split
        · next h => exact (Link.queueTally_queued (by simpa using clear) h).keepsVoice
        · exact .of_voice rfl

theorem State.tallyLine_keepsVoice (s : State) (c n g : Nat) (fp : Fingerprint) : s.KeepsVoice (s.tallyLine c n g fp) := by
  unfold State.tallyLine
  split
  · exact .of_voice rfl
  · next b _ =>
    have joined : s.KeepsVoice (s.joinBatch b g fp) := .of_voice rfl
    have queued := s.queueBatch_keepsVoice
    dsimp only
    exact joined.ite.iteElse (((joined.trans (State.queueBatch_keepsVoice _)).iteElse joined).iteElse
      ((queued.same (u := s.queueBatch.startBatch c n g fp) rfl).iteElse queued))

theorem State.tallyCandidate_keepsVoice (s : State) (c : Candidate) : s.KeepsVoice (s.tallyCandidate c) := by
  unfold State.tallyCandidate
  split
  · exact s.tallyLine_keepsVoice _ _ _ _
  · exact .refl s

/-! ## Candidates (R24 to R31) -/

theorem State.holdCandidate_keepsVoice (s : State) (c : Candidate) (shadow : Option Nat) :
    s.KeepsVoice (s.holdCandidate c shadow) := by
  have rejected : s.KeepsVoice (s.rejectCandidate c) := .of_voice (s.freeNamed_voice _)
  refine Voice.Keep.iteElse ?_ rejected
  split
  · next h =>
    exact (State.tallyCandidate_keepsVoice _ c).after ((State.queueWrite_voice _ _).trans (State.assignShadow_voice h :))
  · exact .of_voice (State.freeNamed_voice _ _)

theorem State.takeCandidate_keepsVoice (s : State) (c : Candidate) : s.KeepsVoice (s.takeCandidate c) := by
  have rejected : s.KeepsVoice (s.rejectCandidate c) := .of_voice (s.freeNamed_voice _)
  refine rejected.iteElse ?_
  split
  · exact s.holdCandidate_keepsVoice c _
  · exact Voice.Keep.iteElse ((State.tallyCandidate_keepsVoice _ c).after (State.queueWrite_voice _ _)) rejected

theorem State.takeBody_keepsVoice (s : State) (n : Nat) (c : Context) (k : Nat) : s.KeepsVoice (s.takeBody n c k) := by
  unfold State.takeBody
  dsimp only
  split
  · exact Voice.Keep.iteElse ((State.takeCandidate_keepsVoice _ _).after rfl) (.of_voice rfl)
  · exact .of_voice rfl

theorem State.takeMigration_keepsVoice (s : State) (c : Nat) (h : HeldLine) (n : Nat) : s.KeepsVoice (s.takeMigration c h n) :=
  Voice.Keep.same ((State.takeCandidate_keepsVoice { s with
    alignment := { s.alignment with migration := s.alignment.migration.drop 1 } } _).after rfl) (State.settleMigration_voice _)

theorem State.takeNext_keepsVoice (s : State) : s.KeepsVoice s.takeNext := by
  unfold State.takeNext
  split
  · exact .of_voice (State.queueStore_voice _ _)
  · split
    · exact (State.takeCandidate_keepsVoice _ _).after rfl
    · split
      · exact s.takeBody_keepsVoice _ _ _
      · split
        · exact s.takeMigration_keepsVoice _ _ _
        · split
          · exact .of_voice (State.queueWrite_voice _ _)
          · exact .refl s

/-! ## Segments and reads (R33, R59, R127) -/

/-- Without bodies, as under MUTE, no segments are formed. -/
theorem State.formSegments_keepsVoice (s : State) : s.KeepsVoice s.formSegments := by
  unfold State.formSegments
  split
  · next h =>
    split
    · exact .of_queues rfl rfl rfl rfl fun _ k => by
        have := k.bodies
        simp [State.voice, h] at this
    · exact .refl s
  · exact .refl s

/-- Changed bodies are none where there were none. -/
theorem State.keepsVoice_bodies {l : List SendBody} (h : s.fetch.bodies = [] → l = []) :
    s.KeepsVoice { s with fetch := { s.fetch with bodies := l } } :=
  .of_queues rfl rfl rfl rfl fun _ k => { k with bodies := h k.bodies }

theorem State.makeDueReads_keepsVoice (s : State) : s.KeepsVoice s.makeDueReads := by
  have read : s.KeepsVoice (if s.linesDue then s.makeRead else s) := Voice.Keep.ite (.of_voice s.makeRead_voice)
  exact (read.trans (State.keepsVoice_bodies fun h => by simp [State.withSnapshots, h])).trans (State.formSegments_keepsVoice _)

theorem State.makeSnapshot_keepsVoice (s : State) (i : Nat) : s.KeepsVoice (s.makeSnapshot i) :=
  Voice.Keep.trans (State.keepsVoice_bodies fun h => by simp [h]) (State.formSegments_keepsVoice _)

/-! ## Fetches, bodies and fallback timers (R117 to R129) -/

theorem State.retire_keepsVoice (s : State) (e : FetchEntry) : s.KeepsVoice (s.retire e) := by
  have same : ∀ l : Link, l = (if e.phase = .askQueued then s.link.withdrawAsk e.key e.line else s.link) →
      l.mute = s.link.mute ∧ l.transmitter = s.link.transmitter ∧ l.attempt = s.link.attempt := by
    rintro l rfl
    split <;> exact ⟨rfl, rfl, rfl⟩
  obtain ⟨mute, transmitter, attempt⟩ := same _ rfl
  refine .of_queues mute transmitter attempt rfl fun _ k => ?_
  have fetches : s.fetch.fetches.filter (fun x => x != e) = [] := by rw [show s.fetch.fetches = [] from k.fetches]; rfl
  by_cases h : e.phase = .askQueued
  · have asks : (s.link.withdrawAsk e.key e.line).askDecline = [] := by
      simp [Link.withdrawAsk, show s.link.askDecline = [] from k.askDecline, withdrawFrom_nil]
    simp only [State.retire, State.voice, h, if_true]
    exact { k with askDecline := asks, fetches := fetches }
  · simp only [State.retire, State.voice, h, if_false]
    exact { k with fetches := fetches }

theorem State.retireAll_keepsVoice (s : State) (counted : Bool) (l : List FetchEntry) : s.KeepsVoice (s.retireAll counted l) := by
  induction l generalizing s with
  | nil => exact .refl s
  | cons e l ih =>
    have retired : s.KeepsVoice (if counted then (s.retire e).modifyRow e.slot e.line HolderRow.attempt else s.retire e) :=
      Voice.Keep.iteElse ((s.retire_keepsVoice e).same rfl) (s.retire_keepsVoice e)
    exact retired.trans (ih _)

theorem State.retireWhere_keepsVoice (s : State) (p : FetchEntry → Bool) (counted : Bool) :
    s.KeepsVoice (s.retireWhere p counted) := s.retireAll_keepsVoice counted _

theorem State.updateFetch_keepsVoice (s : State) (e new : FetchEntry) : s.KeepsVoice (s.updateFetch e new) :=
  .of_queues rfl rfl rfl rfl fun _ k => { k with
    fetches := by
      have none : s.fetch.fetches = [] := k.fetches
      simp [State.voice, State.updateFetch, none] }

theorem State.cancelTimers_keepsVoice (s : State) (p : FallbackTimer → Bool) : s.KeepsVoice (s.cancelTimers p) :=
  .of_queues rfl rfl rfl rfl fun _ k => { k with
    timers := by simp [State.voice, State.cancelTimers, show s.fetch.timers = [] from k.timers] }

theorem State.issueAsk_keepsVoice (s : State) (c : Nat) (r : ChartRecord) (n : Nat) (row : HolderRow) (b : Holder) :
    s.KeepsVoice (s.issueAsk c r n row b) := by
  unfold State.issueAsk
  dsimp only
  split
  · next h => exact (Link.queueAsk_queued h).keepsVoice
  · exact .refl s

theorem State.issueAsksUpTo_keepsVoice (s : State) (k : Nat) : s.KeepsVoice (s.issueAsksUpTo k) := by
  induction k generalizing s with
  | zero => exact .refl s
  | succ k ih =>
    unfold State.issueAsksUpTo
    split
    · exact (s.issueAsk_keepsVoice _ _ _ _ _).trans (ih _)
    · exact .refl s

/-- The transmitter wakes in JOINED with MUTE clear alone (R49, R61). -/
theorem State.wakeTransmitter_keepsVoice (s : State) : s.KeepsVoice s.wakeTransmitter := by
  unfold State.wakeTransmitter
  split
  · next h =>
    simp only [Bool.and_eq_true, State.sendingAllowed, Bool.not_eq_true', decide_eq_true_eq] at h
    obtain ⟨⟨free, clear, joined⟩, -⟩ := h
    exact {
      silent := fun _ m => by simp [State.voice, clear] at m
      good := fun k => {
        listen := fun l => by simp [State.voice, joined] at l
        attempt := fun a => by
          rcases k.attempt a with h | h <;> simp [State.voice, free] at h } }
  · exact .refl s

theorem State.enterSending_keepsVoice (s : State) : s.KeepsVoice s.enterSending where
  silent h m := by
    have k := h m
    exact { k with transmitter := by simp [State.voice, State.enterSending, show s.link.transmitter = .free from k.transmitter] }
  good k := by
    refine ⟨fun l => ?_, fun a => ?_⟩
    · simp [State.voice, State.enterSending, show s.link.transmitter = .free from k.listen l]
    · have := k.attempt a
      simp only [State.voice, State.enterSending] at this ⊢
      split
      · exact .inr rfl
      · exact this

theorem State.settle_keepsVoice (s : State) : s.KeepsVoice s.settle :=
  ((s.issueAsksUpTo_keepsVoice 4).trans (State.wakeTransmitter_keepsVoice _)).trans (State.enterSending_keepsVoice _)

theorem State.dropBody_keepsVoice (s : State) (i : Nat) : s.KeepsVoice (s.dropBody i) :=
  Voice.Keep.trans (State.keepsVoice_bodies fun h => by simp [h]) (State.formSegments_keepsVoice _)

theorem State.withdrawBodies_keepsVoice (s : State) (c : Nat) : s.KeepsVoice (s.withdrawBodies c) := by
  refine Voice.Keep.trans (b := State.voice { s with
    link := if s.fetch.bodies.head?.any (fun b => b.slot = c && b.formed) then s.link.withdrawSegments else s.link
    fetch := { s.fetch with bodies := s.fetch.bodies.filter (fun b => b.slot != c) } }) ?_ (State.formSegments_keepsVoice _)
  have bodies : s.fetch.bodies = [] → s.fetch.bodies.filter (fun b => b.slot != c) = [] := fun h => by rw [h]; rfl
  split
  · exact .of_queues rfl rfl rfl rfl fun _ k => { k with
      segments := by simp [State.voice, Link.withdrawSegments, show s.link.segments = [] from k.segments, withdrawFrom_nil]
      bodies := bodies k.bodies }
  · exact State.keepsVoice_bodies bodies

theorem State.declineTo_keepsVoice (s : State) (k : Key) (n : Nat) (r : Station) (x : DeclineReason) :
    s.KeepsVoice (s.declineTo k n r x) := by
  rcases s.link.queueDecline_queued { key := k, line := n, requester := r, reason := x } with h | h
  · exact .of_voice (by simp [State.voice, State.declineTo, h])
  · exact h.keepsVoice

/-- A body is served while MUTE is clear (R136). -/
theorem State.serve_keepsVoice (s : State) (k : Key) (n : Nat) (r : Station) : s.KeepsVoice (s.serve k n r) := by
  have declined := s.declineTo_keepsVoice k n r
  unfold State.serve
  split
  · exact .refl s
  · next clear =>
    split
    · exact declined _
    · next c _ =>
      have joined : ∀ l, s.KeepsVoice { s with fetch := { s.fetch with bodies := l } } := fun _ =>
        .of_unmuted (Bool.eq_false_iff.2 clear) rfl rfl rfl rfl
      have queued : s.KeepsVoice (s.queueBody c k n r) := (joined _).trans (State.formSegments_keepsVoice _)
      exact (declined _).iteElse ((Voice.Keep.iteElse (.refl s)) ((declined _).iteElse ((declined _).iteElse queued)))

theorem State.startFallback_keepsVoice (s : State) (a : Ask) (r : Station) : s.KeepsVoice (s.startFallback a r) := by
  unfold State.startFallback
  dsimp only
  split
  · exact .refl s
  · next clear =>
    have started : ∀ l, s.KeepsVoice { s with fetch := { s.fetch with timers := l } } := fun _ =>
      .of_unmuted (Bool.eq_false_iff.2 clear) rfl rfl rfl rfl
    exact (started _).iteElse (started _).ite

theorem State.segmentZeroHeard_keepsVoice (s : State) (st : Station) (b : Segment) (h : BodyHeader) :
    s.KeepsVoice (s.segmentZeroHeard st b h) := by
  unfold State.segmentZeroHeard
  have cancelled := s.cancelTimers_keepsVoice (fun t => t.isFor b.key b.line && t.primary == st)
  dsimp only
  split
  · exact (cancelled.trans (State.updateFetch_keepsVoice _ _ _)).iteElse cancelled
  · exact cancelled

theorem State.bodyComplete_keepsVoice (s : State) (st : Station) (c : Context) (k : Nat) :
    s.KeepsVoice (s.bodyComplete st c k) := by
  have noted := (s.retireWhere_keepsVoice (fun e => e.isFor c.key c.line) false).trans
    (State.cancelTimers_keepsVoice _ (fun t => t.isFor c.key c.line))
  exact Voice.Keep.iteElse (noted.trans ((State.takeBody_keepsVoice _ _ _ _).after rfl)) (noted.same rfl)

/-! ## Releases and creation (R40, R77 to R81, R95, R98, R135) -/

theorem State.releaseLines_voice (s : State) (c : Nat) : (s.releaseLines c).voice = s.voice := by
  unfold State.releaseLines
  refine (State.cancelWrites_voice _ _).trans ?_
  exact State.voice_ite s.makeRead_voice rfl

theorem State.releaseFetch_keepsVoice (s : State) (c : Nat) (k : Key) : s.KeepsVoice (s.releaseFetch c k) := by
  unfold State.releaseFetch
  have withdrawn := ((s.retireWhere_keepsVoice (fun e => e.slot = c) false).trans
    (State.cancelTimers_keepsVoice _ (fun t => t.key == k))).trans (State.withdrawBodies_keepsVoice _ c)
  exact (Voice.Keep.iteElse (withdrawn.same (State.setBatch_voice _ none)) withdrawn).same rfl

theorem State.releaseSlot_keepsVoice (s : State) (c : Nat) : s.KeepsVoice (s.releaseSlot c) := by
  unfold State.releaseSlot
  split
  · exact .refl s
  · next r _ =>
    have freed := (State.releaseFetch_keepsVoice _ c r.key).after (s.releaseLines_voice c)
    have removed := ((freed.same (State.releaseAlignment_voice _ c)).same (State.releasePool_voice _ c)).same
      (State.removeSlot_voice _ c (r.closeOrder.getD 0))
    have answered := fun a => Voice.Keep.same (removed.same (State.removeSlotEvents_voice _ c)) (State.respond_voice _ a)
    exact ((answered _).iteElse (removed.same (State.removeSlotEvents_voice _ c))).same (State.startNext_voice _)

theorem State.create_keepsVoice (s : State) (r : ChartRecord) : s.KeepsVoice (s.create r).2 := by
  unfold State.create
  split
  · next c u h =>
    have allocated : s.KeepsVoice u := by
      unfold State.allocate at h
      dsimp only at h
      split at h
      · cases h; exact .refl _
      · obtain ⟨d, -, hd⟩ := Option.map_eq_some_iff.1 h
        cases hd
        exact s.releaseSlot_keepsVoice _
    exact allocated.same rfl
  · exact .of_voice rfl

theorem State.originKey_keepsVoice (s : State) : s.KeepsVoice s.originKey.2 := by
  unfold State.originKey
  dsimp only
  split
  · exact (s.releaseSlot_keepsVoice _).same rfl
  · exact .of_voice rfl

theorem State.originate_keepsVoice (s : State) (late : Bool) : s.KeepsVoice (s.originate late).2 := by
  have created := fun r => s.originKey_keepsVoice.trans (State.create_keepsVoice s.originKey.2 r)
  unfold State.originate
  dsimp only
  split
  · next h => exact Voice.Keep.trans (h ▸ created _ :) (State.queueOwnOpen_keepsVoice _ _ _)
  · next h => exact (h ▸ created _ :)

theorem State.takeUp_keepsVoice (s : State) (c : Nat) (k : Key) (e : Nat) : s.KeepsVoice (s.takeUp c k e) :=
  (s.retireWhere_keepsVoice (fun x => x.slot = c) false).same (State.freePools_voice _ _)

theorem State.bind_keepsVoice (s : State) (c e : Nat) (late : Bool) : s.KeepsVoice (s.bind c e late) := by
  unfold State.bind
  split
  · exact (State.takeUp_keepsVoice _ _ _ _).after rfl
  · exact .refl s

theorem State.requestStarted_keepsVoice (s : State) : s.KeepsVoice s.requestStarted.2 := by
  unfold State.requestStarted
  split
  · exact s.bind_keepsVoice _ _ _
  · exact s.originate_keepsVoice _

theorem State.requestLate_keepsVoice (s : State) (n : Nat) : s.KeepsVoice (s.requestLate n).2 := by
  unfold State.requestLate
  split
  · exact s.bind_keepsVoice _ _ _
  · exact s.originate_keepsVoice _

/-! ## What the directory hears and reports (R83 to R85, R91) -/

theorem State.endReport_keepsVoice (s : State) (c : Nat) (reason : CloseReason) : s.KeepsVoice (s.endReport c reason) := by
  unfold State.endReport
  split
  · exact .refl s
  · next r _ =>
    have closed : s.KeepsVoice ((s.modifyRecord c (fun r => { r with
        bound := false, contributors := contributorEnds s.self .close r.contributors, lastCloseReason := some reason })
        ).queueOpenClose (.chartClose { key := r.key, reason := reason, lastLine := r.lastOwn })) :=
      (State.queueOpenClose_keepsVoice _ _).after rfl
    exact ((Voice.Keep.trans closed (Voice.Keep.ite (.of_voice (State.abandon_voice _ c)))).trans
      (Voice.Keep.ite (State.queueBatch_keepsVoice _))).same (State.closingTest_voice _ c)

theorem State.withdrawOpen_keepsVoice (s : State) (k : Key) : s.KeepsVoice { s with link := s.link.withdrawOpen k } :=
  .of_queues rfl rfl rfl rfl fun _ h => { h with
    openClose := by simp [State.voice, Link.withdrawOpen, show s.link.openClose = [] from h.openClose, withdrawFrom_nil] }

theorem State.openUnknown_keepsVoice (s : State) (st : Station) (o : ChartOpen) : s.KeepsVoice (s.openUnknown st o) := by
  unfold State.openUnknown
  split
  · next r _ => exact (s.withdrawOpen_keepsVoice r.key).trans ((State.takeUp_keepsVoice _ _ _ _).after rfl)
  · exact s.create_keepsVoice _

theorem State.openHeard_keepsVoice (s : State) (st : Station) (o : ChartOpen) : s.KeepsVoice (s.openHeard st o) := by
  unfold State.openHeard
  refine Voice.Keep.iteElse (.refl s) ?_
  split
  · exact s.openUnknown_keepsVoice _ _
  · dsimp only
    split
    · exact Voice.Keep.iteElse (.of_voice rfl) (Voice.Keep.iteElse (.of_voice rfl) (Voice.Keep.ite
        ((s.releaseSlot_keepsVoice _).trans (State.openUnknown_keepsVoice _ _ _))))
    · exact .refl s

/-! ## Splits and freezes (R90, R108, R143) -/

theorem State.splitRecord_keepsVoice (s : State) (c : Nat) (k : Key) : s.KeepsVoice (s.splitRecord c k) := by
  unfold State.splitRecord
  dsimp only
  have closed := fun f p => s.originKey_keepsVoice.trans
    ((State.queueOpenClose_keepsVoice _ p).after (State.modifySlot_voice _ c f))
  exact ((closed _ _).trans (State.queueOwnOpen_keepsVoice _ _ _)).same rfl

theorem State.carryOutSplit_keepsVoice (s : State) (c : Nat) : s.KeepsVoice (s.carryOutSplit c) := by
  unfold State.carryOutSplit
  split
  · exact .refl s
  · next r _ =>
    have cleared : s.KeepsVoice (State.makeDueReads (State.clearPeerLines { s with lineTable := { s.lineTable with
        requests := s.lineTable.requests.filter (fun q => q != QuietRequest.splitClear c) } } c)) :=
      (State.makeDueReads_keepsVoice _).after (State.clearPeerLines_voice _ c)
    have emptied := (Voice.Keep.same cleared (State.modifySlot_voice _ c (fun sl => { sl with rows := [] }))).trans
      (State.cancelTimers_keepsVoice _ (fun t => t.key == r.key))
    have split := (emptied.same (State.clearPeerShadows_voice _ c)).trans (State.splitRecord_keepsVoice _ c r.key)
    have posted := split.same (State.post_voice _ .alignSplit c)
    exact ((posted.same (State.setAlignment_voice _ _)).same (State.settleMigration_voice _)).same (State.startNext_voice _)

theorem State.makeReadsAmong_keepsVoice (s : State) (l : List Write) : s.KeepsVoice (s.makeReadsAmong l) :=
  Voice.Keep.same ((State.makeDueReads_keepsVoice
    { s with lineTable := { s.lineTable with queue := s.lineTable.queue ++ l } }).after rfl) rfl

theorem State.redirectWrites_keepsVoice (s : State) (c : Nat) (l : List Write) : s.KeepsVoice (s.redirectWrites c l) := by
  induction l generalizing s with
  | nil => exact .refl s
  | cons w l ih => exact Voice.Keep.trans ((State.makeReadsAmong_keepsVoice _ l).after (s.redirectWrite_voice c w)) (ih _)

theorem State.carryOutFreeze_keepsVoice (s : State) (c : Nat) : s.KeepsVoice (s.carryOutFreeze c) :=
  Voice.Keep.same ((State.redirectWrites_keepsVoice (State.modifySlot { s with lineTable := { s.lineTable with
    requests := s.lineTable.requests.filter (fun q => q != QuietRequest.freeze c), queue := [] } } c Slot.dropPending) c
    s.lineTable.queue).after rfl) (State.startNext_voice _)

end Sys2Proof.Machine
end

section
/-!
PROOF. Every command, and so every step, keeps a station under MUTE silent and the transmitter good: the statements
MuteStaysSilent and TransmitterStaysGood.
-/
namespace Sys2Proof.Machine

variable {s t u : State}

/-! ## Requests and reads that are due (R33, R37) -/

theorem State.carryOutAll_keepsVoice (s : State) (l : List QuietRequest) : s.KeepsVoice (s.carryOutAll l) := by
  induction l generalizing s with
  | nil => exact .refl s
  | cons q l ih =>
    have carried : s.KeepsVoice (s.carryOut q) := by
      refine Voice.Keep.ite ?_
      cases q with
      | splitClear c => exact (s.carryOutSplit_keepsVoice c).ite
      | freeze c => exact (s.carryOutFreeze_keepsVoice c).ite
    exact (carried.trans (State.makeDueReads_keepsVoice _)).trans (ih _)

theorem State.takeDueSteps_keepsVoice (s : State) : s.KeepsVoice s.takeDueSteps :=
  s.makeDueReads_keepsVoice.trans (State.carryOutAll_keepsVoice _ _)

theorem State.takeArrival_keepsVoice (s : State) (waited : Bool) : s.KeepsVoice (s.takeArrival waited) :=
  (s.takeDueSteps_keepsVoice.trans (State.takeNext_keepsVoice _)).ite

theorem State.splitAtOnce_keepsVoice (s : State) : s.KeepsVoice s.splitAtOnce := by
  unfold State.splitAtOnce
  split
  · exact (s.makeDueReads_keepsVoice.trans (State.carryOutSplit_keepsVoice _ _)).ite
  · exact .refl s

/-! ## The RECEPTION UNIT (chapter 1) -/

theorem State.modifyReception_keepsVoice (s : State) (f : Reception → Reception) : s.KeepsVoice (s.modifyReception f) :=
  .of_voice rfl

theorem State.endReception_keepsVoice (s : State) (reason : CloseReason) : s.KeepsVoice (s.endReception reason) := by
  unfold State.endReception
  split
  · exact (State.endReport_keepsVoice _ _ _).after (s.modifyReception_voice _)
  · exact s.modifyReception_keepsVoice _

theorem State.startReception_keepsVoice (s : State) : s.KeepsVoice s.startReception :=
  ((State.requestStarted_keepsVoice _).after (s.modifyReception_voice _)).same (State.modifyReception_voice _ _)

theorem State.lengthTest_keepsVoice (s : State) : s.KeepsVoice s.lengthTest := (s.endReception_keepsVoice _).ite

theorem State.enterImage_keepsVoice (s : State) (o : Nat) : s.KeepsVoice (s.enterImage o) :=
  ((State.lengthTest_keepsVoice _).after (s.modifyReception_voice _)).iteElse (s.modifyReception_keepsVoice _)

theorem State.lateEntry_keepsVoice (s : State) : s.KeepsVoice s.lateEntry :=
  (((s.modifyReception_keepsVoice _).trans (State.requestLate_keepsVoice _ _)).same
    (State.modifyReception_voice _ _)).trans (State.enterImage_keepsVoice _ 0)

theorem State.offerOwnLine_keepsVoice (s : State) (b : BufferedLine) : s.KeepsVoice (s.offerOwnLine b) :=
  s.takeDueSteps_keepsVoice.trans
    ((State.takeCandidate_keepsVoice _ _).iteElse (State.modifyReception_keepsVoice _ _))

theorem State.handOn_keepsVoice (s : State) (l : FinishedLine) : s.KeepsVoice (s.handOn l) := by
  unfold State.handOn
  split
  · exact .refl s
  · split
    · exact .refl s
    · refine Voice.Keep.iteElse (.of_voice (State.alignLine_voice _ _ _ _ _ _)) ?_
      split
      · exact .refl s
      · split
        · exact (State.offerOwnLine_keepsVoice _ _).after rfl
        · exact .refl s

theorem State.searchEnds_keepsVoice (s : State) : s.KeepsVoice s.searchEnds := by
  have counted := fun f => s.nextPeriod.modifyReception_keepsVoice f |>.after (s := s) rfl
  exact ((counted _).trans (State.lateEntry_keepsVoice _)).iteElse (counted _)

theorem State.phasingEnds_keepsVoice (s : State) : s.KeepsVoice s.phasingEnds := by
  have recorded := fun f => s.nextPeriod.modifyReception_keepsVoice f |>.after (s := s) rfl
  exact (((recorded _).trans (State.modifyReception_keepsVoice _ _)).trans
    (State.enterImage_keepsVoice _ _)).iteElse (recorded _)

theorem State.imageLineEnds_keepsVoice (s : State) : s.KeepsVoice s.imageLineEnds := by
  have handed := fun f => Voice.Keep.same ((State.handOn_keepsVoice s.nextPeriod s.finishedLine).after (s := s) rfl)
    (State.modifyReception_voice _ f)
  have arrived := fun f => ((handed f).trans (State.splitAtOnce_keepsVoice _)).trans
    (State.takeArrival_keepsVoice _ s.candidateWaits)
  have next := fun f g => (arrived f).same (State.modifyReception_voice _ g)
  exact (next _ _).iteElse (((arrived _).trans (State.endReception_keepsVoice _ _)).iteElse
    ((next _ _).trans (State.lengthTest_keepsVoice _)))

theorem State.startConfirmed_keepsVoice (s : State) : s.KeepsVoice s.startConfirmed := by
  unfold State.startConfirmed
  have flagged := s.modifyReception_keepsVoice (fun r => { r with startRun := ToneRun.confirm r.startRun })
  have again := (flagged.trans (State.endReception_keepsVoice _ .newStart)).trans (State.startReception_keepsVoice _)
  dsimp only
  split
  · exact flagged.trans (State.startReception_keepsVoice _)
  · exact again
  · exact again
  · exact flagged

theorem State.stopConfirmed_keepsVoice (s : State) : s.KeepsVoice s.stopConfirmed := by
  unfold State.stopConfirmed
  have flagged := s.modifyReception_keepsVoice (fun r => { r with stopRun := ToneRun.confirm r.stopRun })
  have ended := flagged.trans (State.endReception_keepsVoice _ .stop)
  dsimp only
  split
  · exact ended
  · exact ended
  · exact flagged
  · exact flagged

theorem State.takePeriodEnd_keepsVoice (s : State) : s.KeepsVoice s.takePeriodEnd := by
  refine Voice.Keep.ite ?_
  split
  · exact s.searchEnds_keepsVoice
  · exact s.phasingEnds_keepsVoice
  · exact s.imageLineEnds_keepsVoice
  · exact .refl s

theorem State.settleReception_keepsVoice (s : State) : s.KeepsVoice s.settleReception := by
  have started := s.takePeriodEnd_keepsVoice.trans
    ((State.startConfirmed_keepsVoice _).ite (c := s.takePeriodEnd.reception.startDue = true))
  have stopped := fun (c : Prop) [Decidable c] => started.trans ((State.stopConfirmed_keepsVoice _).ite (c := c))
  exact ((stopped _).trans (State.modifyReception_keepsVoice _ _).ite).trans (State.modifyReception_keepsVoice _ _)

theorem State.takeSample_keepsVoice (s : State) (audio : BitVec 16) (quadrature : Int) :
    s.KeepsVoice (s.takeSample audio quadrature) := by
  have sampled := s.modifyReception_keepsVoice (fun r => r.sample s.width s.samples audio quadrature)
  exact ((sampled.trans (State.lengthTest_keepsVoice _)).trans (State.settle_keepsVoice _)).iteElse sampled

/-! ## Frames from peers (R53) -/

theorem State.whenCan_keepsVoice {b : Bool} {f : State → State} (h : b = true → s.KeepsVoice (f s)) :
    s.KeepsVoice (s.whenCan b f) := by
  unfold State.whenCan
  split
  · next hb => exact h hb
  · exact .refl s

theorem State.whenRunning_keepsVoice {f : State → State} (h : s.KeepsVoice (f s)) : s.KeepsVoice (s.whenRunning f) :=
  State.whenCan_keepsVoice fun _ => h

theorem Voice.Keep.settle (h : s.KeepsVoice t) : s.KeepsVoice t.settle := h.trans t.settle_keepsVoice

/-- A frame's framing is no part of what the station says. -/
theorem State.keepsVoice_framing (now : Nat) (f : Framing) (recessive : Nat) (taken : List Byte) : s.KeepsVoice { s with
    now := now, link := { s.link with framing := f, recessive := recessive, taken := taken } } :=
  .of_queues rfl rfl rfl rfl fun _ k => { k with }

theorem State.arrive_keepsVoice (s : State) (frame : List Byte) : s.KeepsVoice (s.arrive frame) := s.keepsVoice_framing _ _ _ _

/-- A frame keeps the voice where the blocks of its kind do. -/
theorem State.receive_keepsVoice {α : Type} (s : State) (frame : List Byte) (pick : Payload → Option α)
    (act : α → Station → State → State) (h : ∀ a st x, State.KeepsVoice x (act a st x)) :
    s.KeepsVoice (s.receive frame pick act) := by
  refine State.whenCan_keepsVoice fun _ => ?_
  split
  · split
    · exact Voice.Keep.iteElse (.refl s)
        (((s.arrive_keepsVoice frame).same (State.peerHeard_voice _ _)).trans (h _ _ _)).settle
    · exact .refl s
  · exact .refl s

theorem State.takeHail_keepsVoice (h : Hail) (st : Station) (s : State) : s.KeepsVoice (s.takeHail h st) := by
  have announced : ∀ x : State, x.KeepsVoice x.reannounce := fun x => by
    unfold State.reannounce
    split
    · exact Voice.Keep.ite (State.queueOpenClose_keepsVoice _ _)
    · exact .refl x
  exact Voice.Keep.iteElse ((announced _).after rfl) (.of_voice rfl)

theorem State.takeTally_keepsVoice (x : Tally) (st : Station) (s : State) : s.KeepsVoice (s.takeTally x st) :=
  ((State.splitAtOnce_keepsVoice _).trans (State.takeArrival_keepsVoice _ _)).after
    ((State.alignTally_voice _ st x).trans ((State.tallyHolders_voice _ st x).trans (s.tallyHeard_voice st x)))

theorem State.takeAsk_keepsVoice (a : Ask) (st : Station) (s : State) : s.KeepsVoice (s.takeAsk a st) :=
  ((State.serve_keepsVoice _ _ _ _).after (s.deferAsked_voice a)).iteElse
    (((State.startFallback_keepsVoice _ _ _).after (s.deferAsked_voice a)).iteElse (.of_voice (s.deferAsked_voice a)))

theorem State.takeDecline_keepsVoice (d : Decline) (st : Station) (s : State) : s.KeepsVoice (s.takeDecline d st) := by
  have cancelled := s.cancelTimers_keepsVoice (fun t => t.isFor d.key d.line && t.primary == st)
  refine Voice.Keep.iteElse ?_ cancelled
  split
  · exact (cancelled.trans (State.retire_keepsVoice _ _)).same (State.declineRow_voice _ _ _ _)
  · exact cancelled.same (State.declineRow_voice _ _ _ _)

theorem State.takeLaterSegment_keepsVoice (s : State) (st : Station) (c : Option Context) (b : Segment) :
    s.KeepsVoice (s.takeLaterSegment st c b) := by
  unfold State.takeLaterSegment
  split
  · exact .refl s
  · split
    · exact .of_voice rfl
    · exact .of_voice rfl
    · split
      · exact (s.cancelTimers_keepsVoice _).same (State.setContext_voice _ _ _)
      · exact s.takeDueSteps_keepsVoice.trans (State.bodyComplete_keepsVoice _ _ _ _)

theorem State.takeSegment_keepsVoice (b : Segment) (st : Station) (s : State) : s.KeepsVoice (s.takeSegment b st) := by
  unfold State.takeSegment
  cases b.header with
  | none => exact Voice.Keep.iteElse (.refl s) (State.takeLaterSegment_keepsVoice _ _ _ _)
  | some h =>
    have heard := s.segmentZeroHeard_keepsVoice st b h
    exact heard.iteElse (heard.same (State.setContext_voice _ _ _))

/-! ## The link (R49, R50, R54, R62, R63) -/

theorem State.sentNotice_keepsVoice (s : State) (f : QueuedFrame) : s.KeepsVoice (s.sentNotice f) := by
  have asked : ∀ a, s.KeepsVoice (s.askSent a) := fun a => by
    unfold State.askSent
    split
    · exact (s.updateFetch_keepsVoice _ _).ite
    · exact .refl s
  unfold State.sentNotice
  split
  · exact Voice.Keep.iteElse (.refl s) (.of_voice (s.ownOpenNotice_voice _))
  · exact .refl s
  · exact .refl s
  · exact .refl s
  · exact Voice.Keep.iteElse (.refl s) (asked _)
  · exact (s.dropBody_keepsVoice 0).ite
  · exact Voice.Keep.ite (.of_queues rfl rfl rfl rfl fun _ k => { k with
      hail := by simp [State.voice, Link.clearJoining, show s.link.hail = none from k.hail] })

theorem State.droppedNotice_keepsVoice (s : State) (f : QueuedFrame) : s.KeepsVoice (s.droppedNotice f) := by
  unfold State.droppedNotice
  split
  · exact Voice.Keep.iteElse (.refl s) (.of_voice (s.ownOpenNotice_voice _))
  · exact .refl s
  · exact .refl s
  · exact .refl s
  · exact .refl s
  · exact s.retireWhere_keepsVoice _ _
  · have emptied : s.KeepsVoice { s with link := { s.link with segments := [] } } :=
      .of_queues rfl rfl rfl rfl fun _ k => { k with segments := rfl }
    exact emptied.trans (State.dropBody_keepsVoice _ 0)

/-- What ends an attempt of any class (R50, R62). -/
theorem State.keepsVoice_ended {c d : FrameClass} (during : s.link.attempt = some c) (new : List QueuedFrame) (now : Nat) :
    s.KeepsVoice { s with now := now, link := (s.link.replaceHead d new).endAttempt } :=
  .of_ended during (Link.replaceHead_mute _ _ _) rfl rfl

theorem State.completeAttempt_keepsVoice (s : State) : s.KeepsVoice s.completeAttempt := by
  unfold State.completeAttempt
  split
  · next c f during _ =>
    have left : s.KeepsVoice { s with
        now := s.frameEnd f.payload.frameBytes, link := (s.link.replaceHead c []).endAttempt.frameArrived } :=
      .of_ended during (Link.replaceHead_mute _ _ _) rfl rfl
    exact left.trans (State.sentNotice_keepsVoice _ f)
  · exact .refl s

theorem State.faultAttempt_keepsVoice (s : State) : s.KeepsVoice s.faultAttempt := by
  unfold State.faultAttempt
  split
  · next c f during _ =>
    have left := fun new => State.keepsVoice_ended (d := c) during new s.now
    exact (left _).iteElse ((left _).iteElse (((left _).trans (State.droppedNotice_keepsVoice _ f)).same
      (State.post_voice _ _ _)))
  · exact .refl s

/-- An attempt lost is over (R50). -/
theorem State.lose_keepsVoice (s : State) (now : Nat) : s.KeepsVoice { s with now := now, link := s.link.lose } := by
  unfold Link.lose
  split
  · next during _ => exact State.keepsVoice_ended during _ now
  · exact .of_voice rfl

/-- An attempt starts with MUTE clear and in JOINED (R49, R61). -/
theorem State.start_keepsVoice (waiting : s.link.transmitter = .waiting) (allowed : s.sendingAllowed = true) :
    s.KeepsVoice { s with link := s.link.start s.now } := by
  simp only [State.sendingAllowed, Bool.and_eq_true, Bool.not_eq_true', decide_eq_true_eq] at allowed
  obtain ⟨clear, joined⟩ := allowed
  have mute : (s.link.start s.now).mute = false := by
    unfold Link.start
    split <;> exact clear
  refine ⟨fun _ m => by simp [State.voice, mute] at m, fun k => ⟨fun l => by simp [State.voice, joined] at l, fun a => ?_⟩⟩
  simp only [State.voice, Link.start] at a ⊢
  split at a
  · exact .inl rfl
  · rcases k.attempt a with h | h <;> simp [State.voice, waiting] at h

/-- A conflict clears all that MUTE keeps silent (R63, R136). -/
theorem State.conflict_keepsVoice (s : State) : s.KeepsVoice s.conflict :=
  Voice.Keep.iteElse (.refl s)
    { silent := fun _ _ => ⟨rfl, rfl, rfl, rfl, rfl, rfl, rfl, rfl, rfl, rfl, rfl⟩
      good := fun _ => ⟨fun _ => rfl, fun h => by cases h⟩ }

/-! ## Requests (R177 to R181) -/

theorem State.request_keepsVoice (s : State) (n : Nat) {f : State → State} (h : s.KeepsVoice (f s)) :
    s.KeepsVoice (s.request n f) :=
  State.whenCan_keepsVoice fun _ => h.ite.same (State.clockOut_voice _ _)

theorem State.askLines_voice (s : State) (slot : Byte) (first count : Nat) : (s.askLines slot first count).voice = s.voice :=
  State.voice_ite rfl (State.voice_ite rfl (State.voice_ite rfl (State.voice_ite (State.makeRead_voice _) rfl)))

theorem State.askFreeze_keepsVoice (s : State) (slot : Byte) : s.KeepsVoice (s.askFreeze slot) := by
  have answered : ∀ r, s.KeepsVoice (s.ack 0x03 r) := fun _ => .of_voice rfl
  have asked : s.KeepsVoice { s with lineTable := { s.lineTable with
      requests := s.lineTable.requests ++ [QuietRequest.freeze slot.toNat] } } := .of_voice rfl
  exact (answered _).iteElse ((answered _).iteElse
    (((asked.trans (State.makeDueReads_keepsVoice _)).trans (State.carryOutFreeze_keepsVoice _ _)).iteElse asked))

theorem State.askThaw_keepsVoice (s : State) (slot : Byte) : s.KeepsVoice (s.askThaw slot) := by
  have answered : ∀ r, s.KeepsVoice (s.ack 0x04 r) := fun _ => .of_voice rfl
  have thawing := Voice.Keep.after (s := s) (State.takeArrival_keepsVoice ((s.setHold slot.toNat .thawing).ack 0x04 .ok)
    s.candidateWaits) rfl
  have thawed : s.KeepsVoice (((s.setHold slot.toNat .none).post .thawDone slot.toNat).ack 0x04 .ok) := .of_voice rfl
  exact (answered _).iteElse ((answered _).iteElse (thawing.iteElse thawed))

theorem State.askDiscard_keepsVoice (s : State) (slot : Byte) : s.KeepsVoice (s.askDiscard slot) := by
  have answered : ∀ r, s.KeepsVoice (s.ack 0x05 r) := fun _ => .of_voice rfl
  exact (answered _).iteElse ((answered _).iteElse ((answered _).iteElse
    ((s.releaseSlot_keepsVoice _).same (State.respond_voice _ _))))

theorem State.answerEvent_voice (s : State) (b : Byte) (e : Option Event) (x : EventAnswer) :
    (s.answerEvent b e x).voice = s.voice := by
  cases e <;> rfl

theorem State.askMask_voice (s : State) (mask : Byte) : (s.askMask mask).voice = s.voice := by
  unfold State.askMask
  split <;> rfl

theorem State.askPromote_voice (s : State) (a b : Byte) : (s.askPromote a b).voice = s.voice := by
  unfold State.askPromote
  split <;> rfl

/-! ## Every command, every step -/

/-- Where an outcome is a next state, that state keeps the voice. -/
def State.KeepsVoiceIn (s : State) (o : Host.Outcome State Fault Refusal) : Prop := ∀ t, o = .next t → s.KeepsVoice t

theorem Voice.Keep.next (h : s.KeepsVoice t) : s.KeepsVoiceIn (.next t) := by
  rintro u hu
  cases hu
  exact h

theorem State.whenCan_keepsVoiceIn {b : Bool} {f : State → State} (h : s.KeepsVoice (f s)) :
    s.KeepsVoiceIn (.next (s.whenCan b f)) := (State.whenCan_keepsVoice fun _ => h).next

theorem State.whenRunning_keepsVoiceIn {f : State → State} (h : s.KeepsVoice (f s)) :
    s.KeepsVoiceIn (.next (s.whenRunning f)) := (State.whenRunning_keepsVoice h).next

theorem State.strapStreamRead_keepsVoice (s : State) (stream : BitVec 64) : s.KeepsVoiceIn (execStrapStreamRead stream s) :=
  State.whenCan_keepsVoiceIn (Voice.Keep.iteElse (.of_voice rfl) (.of_voice (State.release_voice _)))

theorem State.resetAsserted_keepsVoice (s : State) : s.KeepsVoiceIn (execResetAsserted s) :=
  Voice.Keep.next (Voice.Keep.same (Voice.Keep.ite (c := s.running = true) (State.keepsVoice_resetLink (t := s.warmReset) rfl)) rfl)

theorem State.resetDeasserted_keepsVoice (s : State) : s.KeepsVoiceIn (execResetDeasserted s) :=
  Voice.Keep.next (Voice.Keep.iteElse (.of_voice (State.release_voice _)) (.of_voice rfl))

theorem State.audioSample_keepsVoice (s : State) (audio : BitVec 16) (quadrature : Int) :
    s.KeepsVoiceIn (execAudioSample audio quadrature s) :=
  State.whenRunning_keepsVoiceIn (s.settleReception_keepsVoice.settle.ite.trans (State.takeSample_keepsVoice _ _ _))

theorem State.splitClear_keepsVoice (s : State) : s.KeepsVoiceIn (execSplitClear s) := by
  refine State.whenRunning_keepsVoiceIn ?_
  split
  · exact ((s.makeDueReads_keepsVoice.trans (State.carryOutSplit_keepsVoice _ _)).trans
      (State.takeArrival_keepsVoice _ _)).settle
  · exact .refl s

theorem State.compositeWriteComplete_keepsVoice (s : State) : s.KeepsVoiceIn (execCompositeWriteComplete s) := by
  refine State.whenRunning_keepsVoiceIn ?_
  split
  · exact Voice.Keep.iteElse (.refl s) (s.makeDueReads_keepsVoice.same (State.completeComposite_voice _ _)).settle
  · exact .refl s

theorem State.poolWriteComplete_keepsVoice (s : State) : s.KeepsVoiceIn (execPoolWriteComplete s) := by
  refine State.whenRunning_keepsVoiceIn ?_
  split
  · exact (s.makeDueReads_keepsVoice.same (State.completePool_voice _ _)).settle.ite
  · exact .refl s

theorem State.transmitStart_keepsVoice (s : State) : s.KeepsVoiceIn (execTransmitStart s) := by
  refine (State.whenCan_keepsVoice fun can => ?_).next
  simp only [Bool.and_eq_true, decide_eq_true_eq] at can
  obtain ⟨⟨⟨-, waiting⟩, allowed⟩, -⟩ := can
  exact State.start_keepsVoice waiting allowed

theorem State.receiveFrameDiscarded_keepsVoice (s : State) (frame : List Byte) (resync : Bool) :
    s.KeepsVoiceIn (execReceiveFrameDiscarded frame resync s) := by
  refine State.whenCan_keepsVoiceIn ?_
  split
  · exact s.keepsVoice_framing _ _ _ _
  · exact s.keepsVoice_framing _ _ _ _

theorem State.lossTimerExpiry_keepsVoice (s : State) (p : Station) : s.KeepsVoiceIn (execLossTimerExpiry p s) := by
  have lost : ∀ d, s.KeepsVoice (s.losePeer p d) := fun d => by
    have retired := Voice.Keep.after (s := s) (State.retireWhere_keepsVoice (State.peerLost (State.post
      ((s.reach d).setRosterEntry p { (s.reach d).rosterEntry p with state := .lost, lossDeadline := none }) .peerLost p.val) p)
      (fun e => e.target == p) true) (State.peerLost_voice _ p)
    unfold State.losePeer
    dsimp only
    split
    · exact (Voice.Keep.same retired (State.setContext_voice _ _ _)).iteElse retired
    · exact retired
  refine State.whenRunning_keepsVoiceIn ?_
  split
  · exact (lost _).settle
  · exact .refl s

/-- A HAIL is dropped under MUTE (R54), and LISTEN does not begin. -/
theorem State.keepsVoice_queueHail {r : Roster} (h : Hail) (now : Nat) (station : r.state = .listen → s.roster.state = .listen) :
    s.KeepsVoice { s with now := now, link := s.link.queueHail h, roster := r } := by
  have hailed : s.KeepsVoice { s with link := s.link.queueHail h } := by
    rcases s.link.queueHail_queued h with same | queued
    · rw [same]
      exact .refl s
    · exact queued.keepsVoice (f := s.fetch)
  exact hailed.trans ⟨fun k m => { k m with }, fun k => ⟨fun l => k.listen (station l), k.attempt⟩⟩

theorem State.listenTimerExpiry_keepsVoice (s : State) : s.KeepsVoiceIn (execListenTimerExpiry s) := by
  refine State.whenRunning_keepsVoiceIn ?_
  split
  · next d _ _ =>
    have ended : s.KeepsVoice (s.endListen d) := s.keepsVoice_queueHail _ _ fun l => by cases l
    exact ended.settle
  · exact .refl s

theorem State.hailTimerExpiry_keepsVoice (s : State) : s.KeepsVoiceIn (execHailTimerExpiry s) := by
  refine State.whenRunning_keepsVoiceIn ?_
  split
  · next d _ =>
    have queued : s.KeepsVoice ((s.reach d).queueHail d) := s.keepsVoice_queueHail _ _ id
    exact queued.settle
  · exact .refl s

theorem State.quietTimerExpiry_keepsVoice (s : State) (c : Nat) : s.KeepsVoiceIn (execQuietTimerExpiry c s) := by
  have expired : ∀ d, s.KeepsVoice (s.quietExpires c d) := fun _ => .of_voice (State.closingTest_voice _ c)
  refine State.whenRunning_keepsVoiceIn ?_
  split
  · exact (expired _).settle
  · exact .refl s

theorem State.batchTimerExpiry_keepsVoice (s : State) : s.KeepsVoiceIn (execBatchTimerExpiry s) := by
  have queued : ∀ d, s.KeepsVoice (s.reach d).queueBatch := fun d => (State.queueBatch_keepsVoice _).after (s.reach_voice d)
  refine State.whenRunning_keepsVoiceIn ?_
  split
  · exact (queued _).settle
  · exact .refl s

theorem State.timeOut_keepsVoice (s : State) (d : Nat) (e : FetchEntry) : s.KeepsVoice ((s.reach d).timeOut e) :=
  (State.retireAll_keepsVoice _ _ _).after (s.reach_voice d)

theorem State.fetchFirstDeadline_keepsVoice (s : State) (p : Station) : s.KeepsVoiceIn (execFetchFirstDeadline p s) := by
  have passes : ∀ d e, s.KeepsVoice ((s.reach d).firstDeadlinePasses e) := fun d e =>
    ((State.updateFetch_keepsVoice _ _ _).after (s.reach_voice d)).iteElse (s.timeOut_keepsVoice d e)
  refine State.whenRunning_keepsVoiceIn ?_
  split
  · split
    · exact (passes _ _).settle
    · exact .refl s
  · exact .refl s

theorem State.fetchTimeout_keepsVoice (s : State) (p : Station) : s.KeepsVoiceIn (execFetchTimeout p s) := by
  refine State.whenRunning_keepsVoiceIn ?_
  split
  · split
    · exact (s.timeOut_keepsVoice _ _).settle
    · exact (s.timeOut_keepsVoice _ _).settle
    · exact .refl s
  · exact .refl s

theorem State.deferralExpiry_keepsVoice (s : State) (c n : Nat) : s.KeepsVoiceIn (execDeferralExpiry c n s) := by
  have ended : ∀ d f, s.KeepsVoice ((s.reach d).modifyRow c n f) := fun _ _ => .of_voice rfl
  refine State.whenRunning_keepsVoiceIn ?_
  split
  · exact (ended _ _).settle
  · exact .refl s

theorem State.fallbackTimerExpiry_keepsVoice (s : State) (k : Key) (n : Nat) : s.KeepsVoiceIn (execFallbackTimerExpiry k n s) := by
  have served : ∀ x : FallbackTimer, s.KeepsVoice (s.fallbackExpires x) := fun x =>
    ((State.cancelTimers_keepsVoice _ _).after (s.reach_voice x.expiry)).trans (State.serve_keepsVoice _ _ _ _)
  refine State.whenRunning_keepsVoiceIn ?_
  split
  · exact (served _).settle
  · exact .refl s

theorem State.badRequest_keepsVoice (s : State) (message : List Byte) : s.KeepsVoiceIn (execBadRequest message s) := by
  cases message with
  | nil => exact State.whenCan_keepsVoiceIn (.of_voice rfl)
  | cons kind l => exact State.whenCan_keepsVoiceIn (s.request_keepsVoice (f := fun s => s.refuseForm kind) _ (.of_voice rfl))

theorem State.readTransfer_keepsVoice (s : State) (clocking : Clocking) : s.KeepsVoiceIn (execReadTransfer clocking s) := by
  refine State.whenCan_keepsVoiceIn ?_
  split
  · exact .of_voice (State.voice_ite rfl rfl)
  · exact .of_voice rfl
  · exact .refl s
  · exact .refl s

/-- Every command keeps the voice. -/
theorem exec_keepsVoice (c : Instr) (s : State) : s.KeepsVoiceIn (exec c s) :=
  match c with
  | .powerGoodRising => State.whenCan_keepsVoiceIn (State.keepsVoice_resetLink rfl)
  | .powerGoodFalling => Voice.Keep.next (State.keepsVoice_resetLink rfl)
  | .strapStreamRead stream => s.strapStreamRead_keepsVoice stream
  | .resetAsserted => s.resetAsserted_keepsVoice
  | .resetDeasserted => s.resetDeasserted_keepsVoice
  | .audioSample audio quadrature => s.audioSample_keepsVoice audio quadrature
  | .startToneConfirmed => State.whenCan_keepsVoiceIn s.startConfirmed_keepsVoice.settle
  | .stopToneConfirmed => State.whenCan_keepsVoiceIn s.stopConfirmed_keepsVoice.settle
  | .endOfStartTone => State.whenCan_keepsVoiceIn (s.modifyReception_keepsVoice _)
  | .searchPeriodEnd => State.whenCan_keepsVoiceIn s.searchEnds_keepsVoice.settle
  | .phasingPeriodEnd => State.whenCan_keepsVoiceIn s.phasingEnds_keepsVoice.settle
  | .imageLineEnd => State.whenCan_keepsVoiceIn s.imageLineEnds_keepsVoice.settle
  | .splitClear => s.splitClear_keepsVoice
  | .freezeCarriedOut slot =>
    State.whenCan_keepsVoiceIn (s.makeDueReads_keepsVoice.trans (State.carryOutFreeze_keepsVoice _ slot)).settle
  | .compositeWriteComplete => s.compositeWriteComplete_keepsVoice
  | .poolWriteComplete => s.poolWriteComplete_keepsVoice
  | .candidateTaken => State.whenCan_keepsVoiceIn (s.takeDueSteps_keepsVoice.trans (State.takeNext_keepsVoice _)).settle
  | .readLinesRead => State.whenCan_keepsVoiceIn (.of_voice s.makeRead_voice)
  | .bodySnapshot place => State.whenCan_keepsVoiceIn (s.makeSnapshot_keepsVoice place).settle
  | .tallyRequeue => State.whenCan_keepsVoiceIn s.queueBatch_keepsVoice.settle
  | .transmitStart => s.transmitStart_keepsVoice
  | .arbitrationLost bit => State.whenCan_keepsVoiceIn (s.lose_keepsVoice (max s.now (s.bitEnd bit))).settle
  | .collisionFault => State.whenCan_keepsVoiceIn s.faultAttempt_keepsVoice.settle
  | .frameSent => State.whenCan_keepsVoiceIn s.completeAttempt_keepsVoice.settle
  | .receiveFrameDiscarded frame resync => s.receiveFrameDiscarded_keepsVoice frame resync
  | .ownNumberFrame frame => State.whenCan_keepsVoiceIn ((s.arrive_keepsVoice frame).trans (State.conflict_keepsVoice _))
  | .hailReceived frame => (s.receive_keepsVoice frame _ _ State.takeHail_keepsVoice).next
  | .openReceived frame => (s.receive_keepsVoice frame _ _ fun o st x => x.openHeard_keepsVoice st o).next
  | .closeReceived frame => (s.receive_keepsVoice frame _ _ fun f st x => .of_voice (x.closeHeard_voice st f)).next
  | .tallyReceived frame => (s.receive_keepsVoice frame _ _ State.takeTally_keepsVoice).next
  | .askReceived frame => (s.receive_keepsVoice frame _ _ State.takeAsk_keepsVoice).next
  | .declineReceived frame => (s.receive_keepsVoice frame _ _ State.takeDecline_keepsVoice).next
  | .bodySegmentReceived frame => (s.receive_keepsVoice frame _ _ State.takeSegment_keepsVoice).next
  | .lossTimerExpiry peer => s.lossTimerExpiry_keepsVoice peer
  | .listenTimerExpiry => s.listenTimerExpiry_keepsVoice
  | .hailTimerExpiry => s.hailTimerExpiry_keepsVoice
  | .quietTimerExpiry slot => s.quietTimerExpiry_keepsVoice slot
  | .batchTimerExpiry => s.batchTimerExpiry_keepsVoice
  | .fetchFirstDeadline target => s.fetchFirstDeadline_keepsVoice target
  | .fetchTimeout target => s.fetchTimeout_keepsVoice target
  | .deferralExpiry slot line => s.deferralExpiry_keepsVoice slot line
  | .fallbackTimerExpiry key line => s.fallbackTimerExpiry_keepsVoice key line
  | .readLines slot first count => (s.request_keepsVoice _ (.of_voice (s.askLines_voice slot first.toNat count.toNat))).next
  | .readDirectory => (s.request_keepsVoice _ (.of_voice rfl)).next
  | .freeze slot => (s.request_keepsVoice _ (s.askFreeze_keepsVoice slot).settle).next
  | .thaw slot => (s.request_keepsVoice _ (s.askThaw_keepsVoice slot).settle).next
  | .discard slot => (s.request_keepsVoice _ (s.askDiscard_keepsVoice slot).settle).next
  | .take _ => (s.request_keepsVoice _ (.of_voice (s.answerEvent_voice _ _ _))).next
  | .poll => (s.request_keepsVoice _ (.of_voice (s.answerEvent_voice _ _ _))).next
  | .setMask mask => (s.request_keepsVoice _ (.of_voice (s.askMask_voice mask))).next
  | .promote first second => (s.request_keepsVoice _ (.of_voice (s.askPromote_voice first second))).next
  | .status => (s.request_keepsVoice _ (.of_voice rfl)).next
  | .readStraps => (s.request_keepsVoice _ (.of_voice rfl)).next
  | .restart =>
    (s.request_keepsVoice _ (Voice.Keep.same (State.keepsVoice_resetLink (t := s.warmReset) rfl) (State.release_voice _))).next
  | .badRequest message => s.badRequest_keepsVoice message
  | .readTransfer clocking => s.readTransfer_keepsVoice clocking
  | .lineIdle => State.whenCan_keepsVoiceIn (s.keepsVoice_framing _ _ _ _)

/-- Every step keeps the voice: a command's, and the passing of a microsecond. -/
theorem step_keepsVoice (s : State) : s.KeepsVoiceIn (step s) := by
  unfold step
  split
  · exact Voice.Keep.next ((State.enterSending_keepsVoice (s.elapse 1)).after rfl)
  · next c rest _ =>
    intro t h
    exact (exec_keepsVoice c (s.withPending rest) t h).after rfl

/-- Settles O5: what any operation queues, asks or serves it does with MUTE clear, and under MUTE there is nothing to send. -/
theorem muteStaysSilent : Obligations.MuteStaysSilent := fun s t hs h =>
  t.muteIsSilent_iff.2 ((step_keepsVoice s t h).silent (s.muteIsSilent_iff.1 hs))

/-- Settles O6: the transmitter wakes and starts in JOINED alone, and each end of an attempt leaves it FREE. -/
theorem transmitterStaysGood : Obligations.TransmitterStaysGood := fun s t hs h =>
  t.transmitterGood_iff.2 ((step_keepsVoice s t h).good (s.transmitterGood_iff.1 hs))

end Sys2Proof.Machine
end

section
/-!
PROOF. Frames on the line: when one can be taken, when it ends, and when the checker gives it up; and the statements
DiscardedFrameReachesNoBlock and OwnNumberFrameMutes.
-/
namespace Sys2Proof.Machine

variable {s : State}

/-! ## When a command of the link acts -/

theorem State.whenCan_of {b : Bool} (h : b = true) (f : State → State) : s.whenCan b f = f s := by
  simp [State.whenCan, h]

theorem State.running_of (run : s.config.state = .run) : s.running = true := by simp [State.running, run]

/-- A frame can be taken that follows an idle, or that is on the line and not driven by this station (R46, R47, R50). -/
theorem Link.canTakeFrame_of {l : Link} (free : l.attempt = none)
    (line : l.framing = .inFrame ∨ l.framing = .idleCount ∧ 12 ≤ l.recessive) : l.canTakeFrame = true := by
  rcases line with h | ⟨h, idle⟩
  · simp [Link.canTakeFrame, free, h]
  · simp [Link.canTakeFrame, free, h, idle]

/-- The frame's end by the model is the arrival that the statements name. -/
theorem State.frameEnd_eq (s : State) (n : Nat) : s.frameEnd n = frameArrival s n := rfl

/-! ## Frames given up (R46 to R48, R52) -/

/-- A frame is given up at a dominant resync bit, or at a length byte above 96 (R47). -/
theorem framingBroken_iff (frame : List Byte) (resync : Bool) : framingBroken frame resync = true ↔
    resync = true ∧ 1 ≤ frame.length ∧
        (frame.length ≤ 2 ∨ (frame.getD 1 0).toNat ≤ 96 ∧ frame.length ≤ (frame.getD 1 0).toNat + 4) ∨
      resync = false ∧ frame.length = 2 ∧ 96 < (frame.getD 1 0).toNat := by
  match frame with
  | [] => simp [framingBroken]
  | [_] => simp [framingBroken]
  | [_, len] => cases resync <;> simp [framingBroken]
  | _ :: len :: _ :: rest => cases resync <;> simp [framingBroken]

/-- A frame has arrived once its second CRC byte is taken, with no resync bit dominant (R47). -/
theorem frameWhole_of {frame : List Byte} (short : (frame.getD 1 0).toNat ≤ 96)
    (whole : frame.length = (frame.getD 1 0).toNat + 4) : frameWhole frame false = true := by
  match frame with
  | [] => simp at whole
  | [_] => simp at whole
  | _ :: len :: rest => simp_all [frameWhole]

theorem State.exec_receiveFrameDiscarded {frame : List Byte} {resync : Bool} (run : s.config.state = .run)
    (can : s.link.canTakeFrame = true) (discarded : frameDiscarded frame resync = true) :
    exec (.receiveFrameDiscarded frame resync) s = .next { s with
      now := s.frameEnd frame.length
      link := if framingBroken frame resync then s.link.frameBroken else s.link.frameArrived } :=
  congrArg _ (State.whenCan_of (by simp [State.running_of run, can, discarded]) _)

theorem State.exec_lineIdle (run : s.config.state = .run)
    (h : s.link.framing = .waitForIdle ∨ s.link.framing = .idleCount ∧ s.link.recessive < 12) :
    exec .lineIdle s = .next { s with now := s.now + 12, link := { s.link with framing := .idleCount, recessive := 12 } } :=
  congrArg _ (State.whenCan_of (by
    rcases h with h | ⟨h, short⟩
    · simp [State.running_of run, Link.idle, h]
    · simp [State.running_of run, Link.idle, h, short]) _)

/-- Settles O40: the checker's verdict on the frame is `framingBroken`, or `frameWhole` with nothing that decodes. -/
theorem discardedFrameReachesNoBlock : Obligations.DiscardedFrameReachesNoBlock := by
  refine fun s run => ⟨fun frame resync free line => ⟨fun broken => ?_, fun clear short whole bad => ?_⟩, State.exec_lineIdle run⟩
  · have given := (framingBroken_iff frame resync).2 broken
    rw [State.exec_receiveFrameDiscarded run (Link.canTakeFrame_of free line) (by simp [frameDiscarded, given]), if_pos given]
    rfl
  · have kept : ¬framingBroken frame resync = true := by
      rw [framingBroken_iff]
      rintro (⟨set, -⟩ | ⟨-, two, -⟩)
      · simp [clear] at set
      · omega
    have arrived : frameDiscarded frame resync = true := by
      simp [frameDiscarded, clear, frameWhole_of short whole, bad]
    rw [State.exec_receiveFrameDiscarded run (Link.canTakeFrame_of free line) arrived, if_neg kept]
    rfl

/-! ## A frame with this station's number (R63, R74, R136) -/

theorem State.exec_ownNumberFrame {frame : List Byte} {f : Frame} (run : s.config.state = .run)
    (can : s.link.canTakeFrame = true) (good : decodeFrame frame = some f) (own : f.sender = s.self) :
    exec (.ownNumberFrame frame) s = .next (s.arrive frame).conflict :=
  congrArg _ (State.whenCan_of (by simp [State.running_of run, can, State.ownNumbered, good, own]) _)

/-- The queued OPENs are settled as DONE, field by field of the record (R82). -/
theorem State.clearOwnOpens_slots_eq (s : State) : s.clearOwnOpens.slots = s.slots.map (fun (p : Nat × Slot) =>
    (p.1, { p.2 with record := { p.2.record with
      ownOpen := if p.2.record.ownOpen = .queued then .done else p.2.record.ownOpen } })) :=
  List.map_congr_left fun p _ => by
    dsimp only
    split <;> rfl

/-- Settles O41: the frame arrives, and the conflict changes what the statement lists, or under MUTE nothing. -/
theorem ownNumberFrameMutes : Obligations.OwnNumberFrameMutes := by
  intro s frame f run free line good own
  have taken := State.exec_ownNumberFrame run (Link.canTakeFrame_of free line) good own
  refine ⟨fun mute => ?_, fun mute => ?_⟩
  · have same : (s.arrive frame).conflict = s.arrive frame := if_pos mute
    rw [taken, same]
    rfl
  · have muted : (s.arrive frame).conflict = ({ (s.arrive frame).clearOwnOpens with
        link := (s.arrive frame).link.setMute
        fetch := { s.fetch with fetches := [], timers := [], bodies := [] } } : State).post .stationConflict 0 :=
      if_neg (by simp [Link.frameArrived, mute])
    rw [taken, muted]
    simp only [State.post, State.clearOwnOpens_slots_eq, Link.setMute, free]
    rfl

end Sys2Proof.Machine
end

section
/-!
PROOF. The tally batch: what queues it, and what a line does to it; the statement BatchIsTallied.
-/
namespace Sys2Proof.Machine

variable {s : State} {b : Batch} {r : ChartRecord}

/-! ## A line and the batch (R112) -/

theorem State.tallyLine_none (h : s.fetch.batch = none) (slot line grade : Nat) (fp : Fingerprint) :
    s.tallyLine slot line grade fp = s.startBatch slot line grade fp := by
  simp [State.tallyLine, h]

theorem State.tallyLine_waiting (h : s.fetch.batch = some b) (waits : b.waiting = true) (slot line grade : Nat) (fp : Fingerprint) :
    s.tallyLine slot line grade fp =
      if (b.slot = slot ∧ line = b.first + b.lines.length) ∧ b.lines.length < 8 then s.joinBatch b grade fp else s := by
  simp [State.tallyLine, h, waits]

theorem State.tallyLine_next (h : s.fetch.batch = some b) (collects : b.waiting = false) {slot line : Nat}
    (next : b.slot = slot ∧ line = b.first + b.lines.length) (grade : Nat) (fp : Fingerprint) :
    s.tallyLine slot line grade fp =
      if b.lines.length = 7 then (s.joinBatch b grade fp).queueBatch else s.joinBatch b grade fp := by
  simp [State.tallyLine, h, collects, next]

theorem State.tallyLine_other (h : s.fetch.batch = some b) (collects : b.waiting = false) {slot line : Nat}
    (other : ¬(b.slot = slot ∧ line = b.first + b.lines.length)) (grade : Nat) (fp : Fingerprint) :
    s.tallyLine slot line grade fp =
      if s.queueBatch.fetch.batch = none then s.queueBatch.startBatch slot line grade fp else s.queueBatch := by
  have gone : (decide (b.slot = slot) && decide (line = b.first + b.lines.length)) = false := by simpa using other
  simp [State.tallyLine, h, collects, gone]

theorem State.queueBatch_linePeriod (s : State) : s.queueBatch.now = s.now ∧ s.queueBatch.linePeriod = s.linePeriod := by
  unfold State.queueBatch
  split
  · exact ⟨rfl, rfl⟩
  · split
    · exact ⟨rfl, rfl⟩
    · split
      · exact ⟨rfl, rfl⟩
      · split <;> exact ⟨rfl, rfl⟩

/-! ## The batch is queued, waits, or is dropped (R57, R113, R114) -/

theorem State.queueBatch_queued (h : s.fetch.batch = some b) (record : s.record? b.slot = some r) (clear : s.link.mute = false)
    (room : s.link.tally.length < 4) : s.queueBatch = { s with
      link := { s.link with tally := s.link.tally ++ [QueuedFrame.fresh (.tally (s.tallyOf b r.key))] }
      fetch := { s.fetch with batch := none } } := by
  simp [State.queueBatch, h, record, clear, Link.queueTally, room, State.setBatch]

theorem State.queueBatch_waits (h : s.fetch.batch = some b) (record : s.record? b.slot = some r) (clear : s.link.mute = false)
    (full : 4 ≤ s.link.tally.length) : s.queueBatch = { s with
      fetch := { s.fetch with batch := some { b with waiting := true, deadline := none } } } := by
  simp [State.queueBatch, h, record, clear, Link.queueTally, Nat.not_lt.2 full, State.setBatch]

theorem State.queueBatch_muted (h : s.fetch.batch = some b) (mute : s.link.mute = true) : s.queueBatch = { s with
    fetch := { s.fetch with batch := none } } := by
  simp [State.queueBatch, h, mute, State.setBatch]

/-! ## The commands -/

theorem State.exec_tallyRequeue (run : s.config.state = .run) (h : s.fetch.batch = some b) (waits : b.waiting = true)
    (room : s.link.tally.length < 4) : exec .tallyRequeue s = .next s.queueBatch.settle :=
  congrArg _ (State.whenCan_of (by simp [State.running_of run, h, waits, room]) _)

theorem State.exec_batchTimerExpiry {t : Nat} (run : s.config.state = .run) (h : s.fetch.batch = some b)
    (deadline : b.deadline = some t) : exec .batchTimerExpiry s = .next (s.reach t).queueBatch.settle := by
  simp [exec, execBatchTimerExpiry, State.whenRunning, State.running_of run, h, deadline]

/-- Settles O36: a line by the batch it finds, a batch by the flag and the queue it finds, its commands at their own times. -/
theorem batchIsTallied : Obligations.BatchIsTallied := by
  refine ⟨fun s slot line grade fp => ⟨fun none => State.tallyLine_none none _ _ _ _, fun b h => ⟨fun waits => ?_,
    fun collects next => ?_, fun collects other => ⟨fun gone => ?_, fun stands => ?_⟩⟩⟩, fun s b r h record => ⟨?_, ?_, ?_, ?_, ?_⟩⟩
  · exact State.tallyLine_waiting h waits _ _ _ _
  · exact State.tallyLine_next h collects next _ _
  · rw [State.tallyLine_other h collects other, if_pos gone]
    obtain ⟨now, period⟩ := s.queueBatch_linePeriod
    simp only [State.startBatch, State.setBatch, now, period]
  · rw [State.tallyLine_other h collects other, if_neg stands]
  · exact fun clear room => State.queueBatch_queued h record clear room
  · exact fun clear full => State.queueBatch_waits h record clear full
  · exact fun mute => State.queueBatch_muted h mute
  · exact fun run waits room => State.exec_tallyRequeue run h waits room
  · intro t run deadline
    have expires := State.exec_batchTimerExpiry run h deadline
    have record' : (s.reach t).record? b.slot = some r := record
    refine ⟨fun clear room => ?_, fun clear full => ?_, fun mute => ?_⟩
    · rw [expires, State.queueBatch_queued (s := s.reach t) h record' clear room]
      rfl
    · rw [expires, State.queueBatch_waits (s := s.reach t) h record' clear full]
      rfl
    · rw [expires, State.queueBatch_muted (s := s.reach t) h mute]
      rfl

end Sys2Proof.Machine
end

section
/-!
PROOF. HAILs queued and heard: the statements HailTimersQueueHails and HailIsKept.
-/
namespace Sys2Proof.Machine

variable {s : State}

/-! ## The HAIL place (R58, R71, R72) -/

theorem Link.queueHail_eq (l : Link) (h : Hail) : l.queueHail h =
    if l.mute then l
    else if l.hail ≠ none ∧ l.attempt = some .hail then { l with hailReplacement := some (QueuedFrame.fresh (.hail h)) }
    else { l with hail := some (QueuedFrame.fresh (.hail h)) } := by
  simp [Link.queueHail, Link.inFlight, Option.isSome_iff_ne_none]

theorem State.exec_listenTimerExpiry {deadline : Nat} (run : s.config.state = .run) (listen : s.roster.state = .listen)
    (running : s.roster.listenDeadline = some deadline) : exec .listenTimerExpiry s = .next (s.endListen deadline).settle := by
  simp [exec, execListenTimerExpiry, State.whenRunning, State.running_of run, listen, running]

theorem State.exec_hailTimerExpiry {deadline : Nat} (run : s.config.state = .run)
    (running : s.roster.hailDeadline = some deadline) :
    exec .hailTimerExpiry s = .next ((s.reach deadline).queueHail deadline).settle := by
  simp [exec, execHailTimerExpiry, State.whenRunning, State.running_of run, running]

/-- Settles O50: each timer's HAIL goes where `queueHail_eq` says, and the next one's deadline follows the one that ran out. -/
theorem hailTimersQueueHails : Obligations.HailTimersQueueHails := by
  refine fun s deadline run => ⟨fun listen running => ?_, fun running => ?_⟩
  · rw [State.exec_listenTimerExpiry run listen running]
    simp only [State.endListen, State.queueHail, Link.queueHail_eq]
    rfl
  · rw [State.exec_hailTimerExpiry run running]
    simp only [State.queueHail, Link.queueHail_eq]
    rfl

/-! ## A peer is heard (R46, R47, R66) -/

/-- The sender is LIVE, its loss timer runs, and PEER_JOINED is posted where it was not LIVE before. -/
theorem State.peerHeard_arrive_eq (s : State) (frame : List Byte) (peer : Station) : (s.arrive frame).peerHeard peer = { s with
    now := frameArrival s frame.length
    link := { s.link with framing := .idleCount, recessive := 0, taken := [] }
    roster := { s.roster with peers := Sparse.put s.roster.peers peer.val { s.rosterEntry peer with
      state := .live, lossDeadline := some (frameArrival s frame.length + 6000000) } }
    attention := { s.attention with
      events := if (s.rosterEntry peer).state = .live then s.attention.events
        else insertEvent ⟨.peerJoined, peer.val⟩ s.attention.events } } := by
  have entry : (s.arrive frame).rosterEntry peer = s.rosterEntry peer := rfl
  unfold State.peerHeard
  by_cases live : (s.rosterEntry peer).state = .live
  · simp only [entry, live, if_true]
    rfl
  · simp only [entry, live, if_false]
    rfl

/-! ## A HAIL is heard (R67, R73) -/

theorem State.exec_hailReceived {frame : List Byte} {f : Frame} {h : Hail} (run : s.config.state = .run)
    (can : s.link.canTakeFrame = true) (good : decodeFrame frame = some f) (hail : f.payload = .hail h) (peer : f.sender ≠ s.self) :
    exec (.hailReceived frame) s = .next (((s.arrive frame).peerHeard f.sender).takeHail h f.sender).settle :=
  congrArg _ (s.receive_eq frame f _ _ h run can good (by rw [hail]; rfl) peer)

/-- A frame is taken while no attempt is in progress (R50, R62). -/
theorem Link.attempt_of_canTakeFrame {l : Link} (can : l.canTakeFrame = true) : l.attempt = none := by
  simp only [Link.canTakeFrame, Bool.and_eq_true, Option.isNone_iff_eq_none] at can
  exact can.1

/-- With no attempt in progress a re-announced OPEN waits wherever it stands (R73). -/
theorem Link.reannouncementWaits_iff {l : Link} (free : l.attempt = none) (k : Key) : l.reannouncementWaits k = true ↔
    ∃ g ∈ l.openClose, ∃ o, g.payload = .chartOpen o ∧ o.key = k ∧ o.reannounce = true := by
  have each : ∀ g : QueuedFrame, g.isOpen k true = true ↔ ∃ o, g.payload = .chartOpen o ∧ o.key = k ∧ o.reannounce = true := by
    intro g
    unfold QueuedFrame.isOpen
    cases g.payload <;> simp
  simp [Link.reannouncementWaits, Link.inFlight, free, each]

/-- A joiner is told of a bound OPEN record whose re-announced OPEN does not wait already (R73). -/
theorem State.reannounce_eq {c : Nat} {r : ChartRecord} (bound : s.reception.binding = some c) (record : s.record? c = some r) :
    s.reannounce = if r.state = .opened ∧ ¬s.link.reannouncementWaits r.key = true then { s with
      link := (s.link.queueOpenClose (.chartOpen (s.openOf r false true (r.highest.getD 0)))).getD s.link } else s := by
  unfold State.reannounce State.queueOpenClose
  rw [bound, Option.bind_some, record]
  by_cases goes : r.state = .opened ∧ ¬s.link.reannouncementWaits r.key = true
  · have : (decide (r.state = .opened) && !s.link.reannouncementWaits r.key) = true := by simpa using goes
    dsimp only
    rw [if_pos goes, this, if_pos rfl]
    cases s.link.queueOpenClose (.chartOpen (s.openOf r false true (r.highest.getD 0))) <;> rfl
  · have : (decide (r.state = .opened) && !s.link.reannouncementWaits r.key) = false := by simpa using goes
    dsimp only
    rw [if_neg goes, this]
    rfl

/-- The sender's entry keeps what its HAIL carries (R67). -/
def State.hailKept (b : State) (h : Hail) (sender : Station) : State :=
  b.setRosterEntry sender { b.rosterEntry sender with
    lastHail := some { width := h.width, rate := h.rate, boundKey := h.boundKey } }

theorem State.takeHail_eq (b : State) (h : Hail) (sender : Station) :
    b.takeHail h sender = if h.joining then (b.hailKept h sender).reannounce else b.hailKept h sender := rfl

theorem State.reannounce_unbound (unbound : s.reception.binding = none) : s.reannounce = s := by
  simp [State.reannounce, unbound]

/-- Settles O42: the ROSTER keeps the HAIL, and `reannounce_eq` says when the bound chart's OPEN goes out again. -/
theorem hailIsKept : Obligations.HailIsKept := by
  refine ⟨fun s frame peer => s.peerHeard_arrive_eq frame peer, fun s frame f h run can good hail peer => ?_⟩
  have taken := State.exec_hailReceived run can good hail peer
  rw [State.takeHail_eq] at taken
  refine ⟨fun quiet => ?_, fun c r joining bound record => ?_⟩
  · rcases quiet with plain | unbound
    · rw [taken, if_neg (by simp [plain])]
      rfl
    · rw [taken, State.reannounce_unbound (by simpa [State.hailKept] using unbound), ite_self]
      rfl
  · have free : s.link.frameArrived.attempt = none :=
      show s.link.attempt = none from Link.attempt_of_canTakeFrame can
    have waits := Link.reannouncementWaits_iff free r.key
    have announced := State.reannounce_eq (s := ((s.arrive frame).peerHeard f.sender).hailKept h f.sender) (c := c) (r := r)
      (by simpa [State.hailKept] using bound) (by simpa [State.hailKept, State.record?, State.slot?] using record)
    rw [State.hailKept, State.setRosterEntry_link, State.peerHeard_arrive_link, ← State.hailKept] at announced
    rw [if_pos joining, announced] at taken
    refine ⟨fun stands => ?_, fun opened fresh => ?_⟩
    · have still : ¬(r.state = .opened ∧ ¬s.link.frameArrived.reannouncementWaits r.key = true) := fun ⟨opened, fresh⟩ =>
        stands.elim (absurd opened) fun waiting => fresh (waits.2 waiting)
      rw [taken, if_neg still]
      rfl
    · rw [taken, if_pos ⟨opened, fun waiting => fresh (waits.1 waiting)⟩]
      simp only [State.openOf, State.hailKept, State.setRosterEntry_config, State.peerHeard_arrive_config,
        State.peerHeard_arrive_link]
      rfl

end Sys2Proof.Machine
end

section
/-!
PROOF. Frames join and leave the queues, and an attempt starts and is lost: the statement AttemptStartsAndLoses.
-/
namespace Sys2Proof.Machine

variable {s : State}

/-! ## The queues (R54 to R56, R60) -/

/-- A frame in flight at the head of its queue is not given up for a new one (R55, R56). -/
theorem joinQueue_eq {places : Nat} (some_place : 0 < places) (gives : QueuedFrame → Bool) (inFlight : Bool) (q : List QueuedFrame)
    (p : Payload) : joinQueue places gives inFlight q p =
      if q.length < places then some (q ++ [QueuedFrame.fresh p])
      else if (q.drop (if inFlight then 1 else 0)).any gives then
        some (q.take (if inFlight then 1 else 0) ++ (q.drop (if inFlight then 1 else 0)).eraseP gives ++ [QueuedFrame.fresh p])
      else none := by
  unfold joinQueue
  by_cases room : q.length < places
  · rw [if_pos room, if_pos room]
  · have filled : q ≠ [] := fun e => room (by simpa [e] using some_place)
    rw [if_neg room, if_neg room, displaceOldest_eq _ _ filled, apply_ite (Option.map (· ++ [QueuedFrame.fresh p]))]
    rfl

theorem Link.queueOpenClose_eq (l : Link) (p : Payload) : l.queueOpenClose p = if l.mute then none else
    (joinQueue 4 QueuedFrame.isClose (l.inFlight .openClose) l.openClose p).map (fun q => { l with openClose := q }) := rfl

/-- Only the frame in flight is marked; the others leave (R60). -/
theorem withdrawFrom_eq (goes : QueuedFrame → Bool) (inFlight : Bool) (q : List QueuedFrame) : withdrawFrom goes inFlight q =
    (q.take (if inFlight then 1 else 0)).map (fun f => if goes f then { f with withdrawn := true } else f) ++
      (q.drop (if inFlight then 1 else 0)).filter (fun f => !goes f) := by
  cases inFlight <;> cases q <;> rfl

theorem Link.inFlight_iff (l : Link) (c : FrameClass) : l.inFlight c = true ↔ l.attempt = some c := by
  simp [Link.inFlight]

theorem QueuedFrame.isOpen_own (k : Key) (f : QueuedFrame) : f.isOpen k false = match f.payload with
    | .chartOpen o => o.key == k && !o.reannounce
    | _ => false := by
  unfold QueuedFrame.isOpen
  cases f.payload <;> simp

/-! ## An attempt starts (R49, R61) -/

theorem Link.lowestClass_eq {l : Link} {c : FrameClass} (waits : l.waiting c ≠ [])
    (lowest : ∀ d : FrameClass, d.number < c.number → l.waiting d = []) : l.lowestClass = some c := by
  have empty : ∀ d : FrameClass, d.number < c.number → (l.waiting d).isEmpty = true := fun d h => by simp [lowest d h]
  have filled : (l.waiting c).isEmpty = false := by simpa using waits
  unfold Link.lowestClass
  cases c with
  | openClose => simp [List.find?, filled]
  | askDecline => simp [List.find?, filled, empty .openClose (by decide)]
  | tally => simp [List.find?, filled, empty .openClose (by decide), empty .askDecline (by decide)]
  | body => simp [List.find?, filled, empty .openClose (by decide), empty .askDecline (by decide), empty .tally (by decide)]
  | hail =>
    simp [List.find?, filled, empty .openClose (by decide), empty .askDecline (by decide), empty .tally (by decide),
      empty .body (by decide)]

theorem Link.lowestClass_none {l : Link} (empty : ∀ c : FrameClass, l.waiting c = []) : l.lowestClass = none := by
  simp [Link.lowestClass, empty]

theorem State.exec_transmitStart (run : s.config.state = .run) (waits : s.link.transmitter = .waiting)
    (clear : s.link.mute = false) (joined : s.roster.state = .joined) (counting : s.link.framing = .idleCount)
    (idle : 12 ≤ s.link.recessive) : exec .transmitStart s = .next { s with link := s.link.start s.now } :=
  congrArg _ (State.whenCan_of
    (by simp [State.running_of run, waits, State.sendingAllowed, clear, joined, Link.idle, counting, idle]) _)

/-! ## An attempt is lost (R50, R58, R60) -/

/-- The head of the class's queue is in flight. -/
theorem Link.current_eq {l : Link} {c : FrameClass} {f : QueuedFrame} {rest : List QueuedFrame} (attempt : l.attempt = some c)
    (head : l.waiting c = f :: rest) : l.current = some f := by
  simp [Link.current, attempt, head]

theorem Link.lose_eq {l : Link} {c : FrameClass} {f : QueuedFrame} {rest : List QueuedFrame} (attempt : l.attempt = some c)
    (head : l.waiting c = f :: rest) : l.lose = (l.replaceHead c (if f.withdrawn then [] else [f])).endAttempt := by
  simp [Link.lose, attempt, Link.current_eq attempt head, Link.keepOrWithdraw]

theorem Link.replaceHead_hail {l : Link} {g : QueuedFrame} (replaced : l.hailReplacement = some g) (new : List QueuedFrame) :
    l.replaceHead .hail new = { l with hail := some g, hailReplacement := none } := by
  simp [Link.replaceHead, replaced]

theorem Link.replaceHead_same {l : Link} {c : FrameClass} {f : QueuedFrame} {rest : List QueuedFrame}
    (head : l.waiting c = f :: rest) (alone : c ≠ .hail ∨ l.hailReplacement = none) : l.replaceHead c [f] = l := by
  cases c with
  | hail =>
    have held : l.hail = some f := by
      cases h : l.hail <;> simp_all [Link.waiting]
    have none_waits : l.hailReplacement = none := alone.resolve_left (by simp)
    simp only [Link.replaceHead, none_waits, List.head?_cons, ← held]
    cases l
    subst none_waits
    rfl
  | _ =>
    simp only [Link.waiting] at head
    simp only [Link.replaceHead, head, List.drop_one, List.tail_cons, List.singleton_append]
    rw [← head]

/-- The head of one queue leaves; the rest of the link stands. -/
theorem Link.replaceHead_leaves {l : Link} {c : FrameClass} {f : QueuedFrame} {rest : List QueuedFrame}
    (head : l.waiting c = f :: rest) (alone : c ≠ .hail ∨ l.hailReplacement = none) :
    (l.replaceHead c []).waiting c = rest ∧ (∀ d, d ≠ c → (l.replaceHead c []).waiting d = l.waiting d) ∧
    l.replaceHead c [] = { l with
      openClose := (l.replaceHead c []).openClose, askDecline := (l.replaceHead c []).askDecline
      tally := (l.replaceHead c []).tally, segments := (l.replaceHead c []).segments, hail := (l.replaceHead c []).hail } := by
  cases c with
  | hail =>
    have none_waits : l.hailReplacement = none := alone.resolve_left (by simp)
    have last : rest = [] := by
      cases h : l.hail <;> simp_all [Link.waiting]
    simp only [Link.replaceHead, none_waits]
    exact ⟨by simp [Link.waiting, last], fun d other => by cases d <;> simp at other <;> rfl, trivial⟩
  | _ =>
    simp only [Link.waiting] at head
    simp only [Link.replaceHead]
    exact ⟨by simp [Link.waiting, head], fun d other => by cases d <;> simp at other <;> rfl, trivial⟩

theorem State.exec_arbitrationLost {c : FrameClass} {f : QueuedFrame} {rest : List QueuedFrame} {bit : Fin 8}
    (run : s.config.state = .run) (arbitrating : s.link.transmitter = .arbitrating) (attempt : s.link.attempt = some c)
    (head : s.link.waiting c = f :: rest) (recessive : (byteZero { sender := s.self, payload := f.payload }).getLsbD bit.val = true)
    (early : s.now < s.link.frameStart + (9 - bit.val)) : exec (.arbitrationLost bit) s = .next (State.settle { s with
      now := s.link.frameStart + (9 - bit.val)
      link := (s.link.replaceHead c (if f.withdrawn then [] else [f])).endAttempt }) := by
  have sends : s.sendsRecessive bit = true := by
    simp [State.sendsRecessive, State.frameInFlight, Link.current_eq attempt head, recessive]
  have flies : s.link.attempting = true := by simp [Link.attempting, arbitrating, Link.current_eq attempt head]
  have ends : max s.now (s.bitEnd bit) = s.link.frameStart + (9 - bit.val) := max_eq_right (Nat.le_of_lt early)
  have can : (s.running && s.link.transmitter = .arbitrating && s.link.attempting && s.sendsRecessive bit &&
      decide (s.now < s.bitEnd bit)) = true := by
    simp [State.running_of run, arbitrating, sends, flies, State.bitEnd, early]
  calc exec (.arbitrationLost bit) s = .next (({ s.reach (s.bitEnd bit) with link := s.link.lose }).settle) :=
        congrArg _ (State.whenCan_of can _)
    _ = _ := by
        rw [Link.lose_eq attempt head, ← ends]
        rfl

/-- Settles O37: the queue laws are `joinQueue_eq` and `withdrawFrom_eq`; an attempt that is lost leaves as `exec_arbitrationLost` says. -/
theorem attemptStartsAndLoses : Obligations.AttemptStartsAndLoses := by
  refine ⟨fun l => ⟨fun p => ?_, fun a => ?_, fun goes inFlight q => withdrawFrom_eq goes inFlight q, fun k n f => rfl,
    fun k n => ?_, fun k => ?_⟩, fun s run waits clear joined counting idle => ⟨fun c filled lowest => ?_, fun empty => ?_⟩,
    fun s c f rest bit run arbitrating attempt head recessive early => ?_, fun s idle arbitrating => ?_, fun s bit sending => ?_⟩
  · simp only [Link.queueOpenClose_eq, joinQueue_eq (Nat.succ_pos 3), Link.inFlight_iff]
    rfl
  · simp only [Link.queueAsk, joinQueue_eq (Nat.succ_pos 7), Link.inFlight_iff]
    rfl
  · simp only [Link.withdrawAsk, withdrawFrom_eq, Link.inFlight_iff]
    rfl
  · simp only [Link.withdrawOpen, withdrawFrom_eq, Link.inFlight_iff, QueuedFrame.isOpen_own] <;> rfl
  · rw [State.exec_transmitStart run waits clear joined counting idle, Link.start, Link.lowestClass_eq filled lowest]
  · rw [State.exec_transmitStart run waits clear joined counting idle, Link.start, Link.lowestClass_none empty]
  · have lost := State.exec_arbitrationLost run arbitrating attempt head recessive early
    refine ⟨fun stands alone => ?_, fun g hail replaced => ?_, fun withdrawn alone => ?_⟩
    · rw [lost, stands, if_neg Bool.false_ne_true, Link.replaceHead_same head alone]
      rfl
    · subst hail
      rw [lost, Link.replaceHead_hail replaced]
      rfl
    · obtain ⟨leaves, others, frame⟩ := Link.replaceHead_leaves head alone
      rw [withdrawn, if_pos rfl] at lost
      refine ⟨_, lost, leaves, others, rfl, rfl, ?_⟩
      rw [frame]
      exact ⟨rfl, rfl, rfl, rfl, rfl, rfl⟩
  · simp [step, idle, State.tick, State.elapse, State.enterSending, arbitrating]
  · have not_now : (s.running && s.link.transmitter = .arbitrating && s.link.attempting && s.sendsRecessive bit &&
        decide (s.now < s.bitEnd bit)) = false := by simp [sending]
    simp [exec, execArbitrationLost, State.whenCan, not_now]

end Sys2Proof.Machine
end

section
/-!
PROOF. A collision fault ends the attempt: the statement CollisionFaultCounts.
-/
namespace Sys2Proof.Machine

variable {s : State} {c : FrameClass} {f : QueuedFrame} {rest : List QueuedFrame}

/-! ## The head of a queue gives way (R54, R58) -/

section
variable {l : Link}

theorem Link.replaceHead_openClose (head : l.openClose = f :: rest) (new : List QueuedFrame) :
    l.replaceHead .openClose new = { l with openClose := new ++ rest } := by
  simp [Link.replaceHead, head]

theorem Link.replaceHead_askDecline (head : l.askDecline = f :: rest) (new : List QueuedFrame) :
    l.replaceHead .askDecline new = { l with askDecline := new ++ rest } := by
  simp [Link.replaceHead, head]

theorem Link.replaceHead_tally (head : l.tally = f :: rest) (new : List QueuedFrame) :
    l.replaceHead .tally new = { l with tally := new ++ rest } := by
  simp [Link.replaceHead, head]

theorem Link.replaceHead_body (head : l.segments = f :: rest) (new : List QueuedFrame) :
    l.replaceHead .body new = { l with segments := new ++ rest } := by
  simp [Link.replaceHead, head]

/-- The replacement goes before the HAIL that was in flight (R58). -/
theorem Link.replaceHead_hail_eq (l : Link) (new : List QueuedFrame) :
    l.replaceHead .hail new = { l with hail := l.hailReplacement.or new.head?, hailReplacement := none } := by
  obtain ⟨_, _, _, _, _, _, _, _, replacement, _, _, _, _⟩ := l
  cases replacement <;> rfl

theorem Link.waiting_hail (held : l.hail = some f) : l.waiting .hail = [f] := by
  simp [Link.waiting, held]

end

/-! ## A collision fault (R50, R54, R60, R62) -/

section
variable (run : s.config.state = .run) (sends : s.link.transmitter = .arbitrating ∨ s.link.transmitter = .sending)
  (attempt : s.link.attempt = some c) (head : s.link.waiting c = f :: rest)
include run sends attempt head

theorem State.exec_collisionFault : exec .collisionFault s = .next s.faultAttempt.settle := by
  have flies : s.link.attempting = true := by simp [Link.attempting, sends, Link.current_eq attempt head]
  exact congrArg _ (State.whenCan_of (by simp [State.running_of run, flies]) _)

theorem State.exec_collisionFault_withdrawn (gone : f.withdrawn = true) : exec .collisionFault s = .next (State.settle { s with
    link := (s.link.replaceHead c []).endAttempt }) := by
  rw [State.exec_collisionFault run sends attempt head]
  simp [State.faultAttempt, attempt, Link.current_eq attempt head, gone]

theorem State.exec_collisionFault_counts (stays : f.withdrawn = false) (few : f.faults < 2) :
    exec .collisionFault s = .next (State.settle { s with
      link := (s.link.replaceHead c [{ f with faults := f.faults + 1 }]).endAttempt }) := by
  have short : f.faults + 1 < 3 := by omega
  rw [State.exec_collisionFault run sends attempt head]
  simp [State.faultAttempt, attempt, Link.current_eq attempt head, stays, short]

theorem State.exec_collisionFault_drops (stays : f.withdrawn = false) (third : 2 ≤ f.faults) :
    exec .collisionFault s = .next (State.settle
      ((({ s with link := (s.link.replaceHead c []).endAttempt } : State).droppedNotice f).post .lineFault 0)) := by
  have last : ¬f.faults + 1 < 3 := by omega
  rw [State.exec_collisionFault run sends attempt head]
  simp [State.faultAttempt, attempt, Link.current_eq attempt head, stays, last]

end

/-! ## The notices (R59, R82, R120) -/

theorem State.slotOfKey_some {k : Key} {n : Nat} (h : s.slotOfKey k = some n) : ∃ sl, (n, sl) ∈ s.slots ∧ sl.record.key = k := by
  obtain ⟨⟨m, sl⟩, found, rfl⟩ := Option.map_eq_some_iff.1 h
  exact ⟨sl, List.mem_of_find?_eq_some found, by simpa using List.find?_some found⟩

theorem State.slotOfKey_none {k : Key} (h : s.slotOfKey k = none) : ∀ p ∈ s.slots, p.2.record.key ≠ k := by
  simpa [State.slotOfKey] using h

/-- An own OPEN is settled as DONE in the one record with its key (R77, R82). -/
theorem State.ownOpenNotice_eq (ordered : s.TablesOrdered)
    (distinct : ∀ p ∈ s.slots, ∀ q ∈ s.slots, p.2.record.key = q.2.record.key → p = q) (k : Key) :
    s.ownOpenNotice k = { s with slots := s.slots.map (fun (p : Nat × Slot) =>
      if p.2.record.key = k ∧ p.2.record.ownOpen = .queued then
        (p.1, { p.2 with record := { p.2.record with ownOpen := .done } })
      else p) } := by
  unfold State.ownOpenNotice
  cases place : s.slotOfKey k with
  | none =>
    have unknown := State.slotOfKey_none place
    have same : s.slots.map (fun (p : Nat × Slot) => if p.2.record.key = k ∧ p.2.record.ownOpen = .queued then
        (p.1, { p.2 with record := { p.2.record with ownOpen := .done } }) else p) = s.slots :=
      (List.map_congr_left fun p hp => if_neg fun h => unknown p hp h.1).trans (List.map_id _)
    rw [same]
  | some n =>
    obtain ⟨sl, mem, key⟩ := State.slotOfKey_some place
    refine congrArg (fun l => { s with slots := l }) (List.map_congr_left fun p hp => ?_)
    by_cases here : p.1 = n
    · have same : p = (n, sl) := by
        have found := Sparse.find_of_mem ordered.slots (n := p.1) (v := p.2) hp
        rw [here, Sparse.find_of_mem ordered.slots mem] at found
        exact Prod.ext here (Option.some.inj found).symm
      subst same
      by_cases queued : sl.record.ownOpen = .queued <;> simp [queued, key]
    · have other : p.2.record.key ≠ k := fun h => here (by rw [distinct p hp _ mem (h.trans key.symm)])
      simp [here, other]

/-- The one fetch that is retired. -/
theorem State.retireWhere_one {e : FetchEntry} {p : FetchEntry → Bool} (one : s.fetch.fetches.filter p = [e]) :
    s.retireWhere p false = s.retire e := by
  simp [State.retireWhere, one, State.retireAll]

/-- With no attempt in progress and no such ASK waiting there is nothing to withdraw (R60). -/
theorem Link.withdrawAsk_same {l : Link} {k : Key} {n : Nat} (free : l.attempt = none)
    (others : ∀ g ∈ l.askDecline, g.isAsk k n = false) : l.withdrawAsk k n = l := by
  have same : withdrawFrom (QueuedFrame.isAsk k n) false l.askDecline = l.askDecline :=
    List.filter_eq_self.2 fun g hg => by rw [others g hg]; rfl
  have grounded : l.inFlight .askDecline = false := by simp [Link.inFlight, free]
  rw [Link.withdrawAsk, grounded, same]

/-- A queued fetch whose ASK has left its queue is retired alone (R119, R120). -/
theorem State.retireWhere_left {e : FetchEntry} {k : Key} {n : Nat} (free : s.link.attempt = none)
    (others : ∀ g ∈ s.link.askDecline, g.isAsk k n = false)
    (one : s.fetch.fetches.filter (fun x => x.isFor k n && x.phase = .askQueued) = [e]) :
    s.retireWhere (fun x => x.isFor k n && x.phase = .askQueued) false =
      { s with fetch := { s.fetch with fetches := s.fetch.fetches.filter (fun x => x != e) } } := by
  obtain ⟨is, queued⟩ : e.isFor k n = true ∧ e.phase = .askQueued := by
    have mem : e ∈ s.fetch.fetches.filter (fun x => x.isFor k n && x.phase = .askQueued) := by simp [one]
    simpa using (List.mem_filter.1 mem).2
  obtain ⟨rfl, rfl⟩ : e.key = k ∧ e.line = n := by simpa [FetchEntry.isFor] using is
  rw [State.retireWhere_one one, State.retire, if_pos queued, Link.withdrawAsk_same free others]

theorem State.formSegments_of_none (none_waits : s.fetch.bodies = []) : s.formSegments = s := by
  unfold State.formSegments
  rw [none_waits]

/-- Settles O38: the head gives way in its queue as the `replaceHead` lemmas say, and its block hears of a third fault. -/
theorem collisionFaultCounts : Obligations.CollisionFaultCounts := by
  refine fun s f rest run sends => ⟨fun gone => ⟨fun flies head => ?_, fun flies head => ?_, fun flies head => ?_⟩, fun stays =>
    ⟨fun flies head => ⟨fun few => ?_, fun t payload third => ?_⟩,
      fun flies head => ⟨fun few => ?_, fun quiet third => ?_, fun o payload own third ordered distinct => ?_⟩,
      fun flies head => ⟨fun few => ?_, fun d payload third => ?_, fun a e payload third others one => ?_⟩,
      fun flies head => ⟨fun few => ?_, fun b x payload third one => ?_, fun b x y more payload third two unformed => ?_⟩,
      fun flies held => ⟨fun few => ?_, fun h payload third => ?_⟩⟩⟩
  · rw [State.exec_collisionFault_withdrawn run sends flies head gone, Link.replaceHead_openClose head]
    rfl
  · rw [State.exec_collisionFault_withdrawn run sends flies head gone, Link.replaceHead_askDecline head]
    rfl
  · rw [State.exec_collisionFault_withdrawn run sends flies head gone, Link.replaceHead_body head]
    rfl
  · rw [State.exec_collisionFault_counts run sends flies head stays few, Link.replaceHead_tally head]
    rfl
  · rw [State.exec_collisionFault_drops run sends flies head stays third, Link.replaceHead_tally head, State.droppedNotice, payload]
    rfl
  · rw [State.exec_collisionFault_counts run sends flies head stays few, Link.replaceHead_openClose head]
    rfl
  · rw [State.exec_collisionFault_drops run sends flies head stays third, Link.replaceHead_openClose head, State.droppedNotice]
    rcases quiet with ⟨x, payload⟩ | ⟨o, payload, again⟩
    · rw [payload]
      rfl
    · simp only [payload, again]
      rfl
  · rw [State.exec_collisionFault_drops run sends flies head stays third, Link.replaceHead_openClose head, State.droppedNotice]
    have settled := State.ownOpenNotice_eq
      (s := { s with link := ({ s.link with openClose := [] ++ rest } : Link).endAttempt })
      ⟨ordered.slots, ordered.entries, ordered.rows, ordered.pool, ordered.peers, ordered.contexts⟩ distinct o.key
    simp only [payload, own, settled]
    rfl
  · rw [State.exec_collisionFault_counts run sends flies head stays few, Link.replaceHead_askDecline head]
    rfl
  · rw [State.exec_collisionFault_drops run sends flies head stays third, Link.replaceHead_askDecline head, State.droppedNotice,
      payload]
    rfl
  · have retired := State.retireWhere_left (e := e) (k := a.key) (n := a.line)
      (s := { s with link := ({ s.link with askDecline := [] ++ rest } : Link).endAttempt }) rfl others one
    rw [State.exec_collisionFault_drops run sends flies head stays third, Link.replaceHead_askDecline head, State.droppedNotice,
      payload]
    dsimp only
    rw [retired]
    rfl
  · rw [State.exec_collisionFault_counts run sends flies head stays few, Link.replaceHead_body head]
    rfl
  · rw [State.exec_collisionFault_drops run sends flies head stays third, Link.replaceHead_body head, State.droppedNotice, payload]
    dsimp only [State.dropBody]
    rw [State.formSegments_of_none (by simp [one])]
    simp only [one]
    rfl
  · refine ⟨fun unmade => ?_, fun snap made => ?_⟩
    · rw [State.exec_collisionFault_drops run sends flies head stays third, Link.replaceHead_body head, State.droppedNotice, payload]
      dsimp only [State.dropBody]
      rw [State.formSegments_of_head (b := y) (l := more) (by simp [two]) (.inl unmade)]
      simp only [two]
      rfl
    · rw [State.exec_collisionFault_drops run sends flies head stays third, Link.replaceHead_body head, State.droppedNotice, payload]
      dsimp only [State.dropBody]
      rw [State.formSegments_head (b := y) (l := more) (by simp [two]) made unformed]
      rfl
  · rw [State.exec_collisionFault_counts run sends flies (Link.waiting_hail held) stays few, Link.replaceHead_hail_eq]
    cases replaced : s.link.hailReplacement <;> rfl
  · rw [State.exec_collisionFault_drops run sends flies (Link.waiting_hail held) stays third, Link.replaceHead_hail_eq,
      State.droppedNotice, payload]
    cases replaced : s.link.hailReplacement <;> rfl

end Sys2Proof.Machine
end

section
/-!
PROOF. A frame that was sent leaves its queue: the statement FrameSentLeavesQueue.
-/
namespace Sys2Proof.Machine

variable {s : State}

/-! ## The notices (R72, R82, R120) -/

theorem State.exec_frameSent {c : FrameClass} {f : QueuedFrame} {rest : List QueuedFrame} (run : s.config.state = .run)
    (sends : s.link.transmitter = .arbitrating ∨ s.link.transmitter = .sending) (flies : s.link.framing = .inFrame)
    (attempt : s.link.attempt = some c) (head : s.link.waiting c = f :: rest) :
    exec .frameSent s = .next (State.settle (({ s with
      now := max s.now (s.link.frameStart + (1 + 9 * (f.payload.bytes.length + 4)))
      link := (s.link.replaceHead c []).endAttempt.frameArrived } : State).sentNotice f)) := by
  have attempting : s.link.attempting = true := by simp [Link.attempting, sends, Link.current_eq attempt head]
  calc exec .frameSent s = .next s.completeAttempt.settle :=
        congrArg _ (State.whenCan_of (by simp [State.running_of run, attempting]) _)
    _ = _ := by
        simp only [State.completeAttempt, attempt, Link.current_eq attempt head, State.frameEnd_eq, frameArrival, flies, if_true,
          Payload.frameBytes]

theorem State.ownOpenNotice_unknown {k : Key} (unknown : s.slotOfKey k = none) : s.ownOpenNotice k = s := by
  simp [State.ownOpenNotice, unknown]

theorem State.ownOpenNotice_known {k : Key} {c : Nat} (known : s.slotOfKey k = some c) : s.ownOpenNotice k = { s with
    slots := Sparse.modify s.slots c (fun sl => { sl with record := { sl.record with
      ownOpen := if sl.record.ownOpen = .queued then .done else sl.record.ownOpen } }) } := by
  have settles : (fun r : ChartRecord => if r.ownOpen = .queued then { r with ownOpen := .done } else r) =
      fun r => { r with ownOpen := if r.ownOpen = .queued then .done else r.ownOpen } := by
    funext r
    by_cases queued : r.ownOpen = .queued <;> simp [queued]
  simp only [State.ownOpenNotice, known, settles]
  rfl

theorem State.askSent_eq {a : Ask} {e : FetchEntry} (found : s.fetchFor a.key a.line = some e) (queued : e.phase = .askQueued) :
    s.askSent a = { s with fetch := { s.fetch with fetches := s.fetch.fetches.map (fun x =>
      if x = e then { e with phase := .awaitingFirst, deadline := some (s.now + 150000) } else x) } } := by
  simp only [State.askSent, found, queued, if_true]
  rfl

/-- Settles O39: the head leaves its queue as the `replaceHead` lemmas say, and its block hears that it was sent. -/
theorem frameSentLeavesQueue : Obligations.FrameSentLeavesQueue := by
  refine fun s f rest run sends inFrame => ⟨fun attempt head t payload => ?_,
    fun attempt head => ⟨fun c payload => ?_, fun o payload quiet => ?_, fun o c payload own known => ?_⟩,
    fun attempt held h payload => ?_,
    fun attempt head b payload stays => ⟨fun more => ?_, fun x last one => ?_⟩,
    fun attempt head => ⟨fun d payload => ?_, fun a e payload stays found queued => ?_⟩⟩
  · rw [State.exec_frameSent run sends inFrame attempt head, Link.replaceHead_tally head, State.sentNotice, payload]
    rfl
  · rw [State.exec_frameSent run sends inFrame attempt head, Link.replaceHead_openClose head, State.sentNotice, payload]
    rfl
  · rw [State.exec_frameSent run sends inFrame attempt head, Link.replaceHead_openClose head, State.sentNotice, payload]
    dsimp only
    rcases quiet with again | unknown
    · rw [if_pos again]
      rfl
    · have nothing := fun n l => State.ownOpenNotice_unknown (s := { s with now := n, link := l }) unknown
      rw [nothing, ite_self]
      rfl
  · rw [State.exec_frameSent run sends inFrame attempt head, Link.replaceHead_openClose head, State.sentNotice, payload]
    have settled := fun n l => State.ownOpenNotice_known (s := { s with now := n, link := l }) known
    dsimp only
    rw [own, if_neg Bool.false_ne_true, settled]
    rfl
  · have sent := State.exec_frameSent run sends inFrame attempt (Link.waiting_hail held)
    rw [Link.replaceHead_hail_eq, State.sentNotice, payload] at sent
    dsimp only at sent
    refine ⟨fun alone => ?_, fun g h' replaced next => ?_⟩
    · rw [sent, alone, payload]
      cases h.joining <;> rfl
    · obtain ⟨_, faults, gone⟩ := g
      cases next
      rw [sent, replaced, payload]
      cases h.joining
      · simp only [Bool.not_false, Bool.and_true]
        rfl
      · simp only [Bool.not_true, Bool.and_false]
        rfl
  · rw [State.exec_frameSent run sends inFrame attempt head, Link.replaceHead_body head, State.sentNotice, payload]
    simp only [more]
    rfl
  · rw [State.exec_frameSent run sends inFrame attempt head, Link.replaceHead_body head, State.sentNotice, payload]
    simp only [last, stays, Bool.not_false, Bool.and_self, if_true, State.dropBody]
    rw [State.formSegments_of_none (by simp [one])]
    simp only [one]
    rfl
  · rw [State.exec_frameSent run sends inFrame attempt head, Link.replaceHead_askDecline head, State.sentNotice, payload]
    rfl
  · rw [State.exec_frameSent run sends inFrame attempt head, Link.replaceHead_askDecline head, State.sentNotice, payload]
    have awaited := fun n l => State.askSent_eq (s := { s with now := n, link := l }) found queued
    dsimp only
    rw [stays, if_neg Bool.false_ne_true, awaited]
    rfl

end Sys2Proof.Machine
end

section
/-!
PROOF. A fallback timer runs out: the statement FallbackTimerServes.
-/
namespace Sys2Proof.Machine

variable {s : State} {before after : List FallbackTimer} {t : FallbackTimer}

/-- The timer that runs out is gone and station time stands at its expiry (R128). -/
def State.timerGone (s : State) (now : Nat) (timers : List FallbackTimer) : State :=
  { s with now := now, fetch := { s.fetch with timers := timers } }

theorem State.exec_fallbackTimerExpiry (run : s.config.state = .run) (timers : s.fetch.timers = before ++ t :: after)
    (one : ∀ x ∈ before ++ after, x.isFor t.key t.line = false) : exec (.fallbackTimerExpiry t.key t.line) s =
      .next ((s.timerGone (max s.now t.expiry) (before ++ after)).serve t.key t.line t.requester).settle := by
  have self : t.isFor t.key t.line = true := by simp [FallbackTimer.isFor]
  have found : s.fetch.timers.find? (fun x => x.isFor t.key t.line) = some t := by
    rw [timers, List.find?_append, List.find?_eq_none.2 fun x hx => by simp [one x (List.mem_append_left _ hx)]]
    simp [self]
  have stays : ∀ x ∈ before ++ after, (!(x == t)) = true := fun x hx => by
    have other : x ≠ t := fun same => absurd self (by simp [← one x hx, same])
    simpa using other
  have gone : s.fetch.timers.filter (fun x => !(x == t)) = before ++ after := by
    rw [timers, List.filter_append, List.filter_cons_of_neg (by simp), ← List.filter_append, List.filter_eq_self.2 stays]
  have expires : s.fallbackExpires t = (s.timerGone (max s.now t.expiry) (before ++ after)).serve t.key t.line t.requester := by
    rw [State.timerGone, ← gone]
    rfl
  simp [exec, execFallbackTimerExpiry, State.whenRunning, State.running_of run, found, expires]

/-- Settles O53: the requester is served by the checks of an ASK to the primary, in their order. -/
theorem fallbackTimerServes : Obligations.FallbackTimerServes := by
  refine fun s before after t run timers one clear => ?_
  have expired := State.exec_fallbackTimerExpiry run timers one
  refine ⟨fun unknown => ?_, fun c r known record opened empty => ?_⟩
  · rw [expired, State.serve_unknown (by exact clear) (by exact unknown), State.declineTo_eq (by exact clear)]
    rfl
  · have served := State.serve_known (s := s.timerGone (max s.now t.expiry) (before ++ after)) (n := t.line) (by exact clear)
      (by exact known) t.requester
    have aligned : ¬((s.timerGone (max s.now t.expiry) (before ++ after)).record? c).any (fun r => r.state = .aligning) := by
      rw [show (s.timerGone (max s.now t.expiry) (before ++ after)).record? c = some r from record]
      simpa using opened
    have unqueued : (s.timerGone (max s.now t.expiry) (before ++ after)).fetch.bodies = [] := empty
    rw [if_neg aligned, if_neg (by simp [unqueued])] at served
    refine ⟨fun low lacks => ?_, fun filled free writes => ?_⟩
    · have absent : decide ((s.entry c t.line).committed ≤ 1) && (s.shadow? c t.line).isNone := by simp [low, lacks]
      rw [expired, served, if_pos (by exact absent), State.declineTo_eq (by exact clear)]
      rfl
    · have present : ¬(decide ((s.entry c t.line).committed ≤ 1) && (s.shadow? c t.line).isNone) := by simp [filled]
      have snap := State.snapshotOf_composite (s := s.timerGone (max s.now t.expiry) (before ++ after)) (c := c) (n := t.line)
        (.inl ((State.hold_of_record (s := s) record).trans free))
      rw [expired, served, if_neg (by exact present), if_neg (by simp [unqueued]),
        State.queueBody_alone unqueued ((State.readDue_iff _ _ _).2 writes), snap]
      rfl

end Sys2Proof.Machine
end

section
/-!
PROOF. A peer is lost: the statement LostPeerLeavesCharts.
-/
namespace Sys2Proof.Machine

variable {s : State} {peer : Station}

/-! ## The highest close order (R92) -/

/-- The slot with its record closed. -/
def Slot.closedAt (order : Nat) (sl : Slot) : Slot := { sl with record := sl.record.close order }

theorem foldl_max_le_iff {α : Type} (f : α → Nat) (l : List α) (a n : Nat) :
    l.foldl (fun acc x => max acc (f x)) a ≤ n ↔ a ≤ n ∧ ∀ x ∈ l, f x ≤ n := by
  induction l generalizing a with
  | nil => simp
  | cons x l ih => rw [List.foldl_cons, ih, max_le_iff, List.forall_mem_cons, and_assoc]

theorem State.highestCloseOrder_le_iff (s : State) (n : Nat) :
    s.highestCloseOrder ≤ n ↔ ∀ p ∈ s.slots, p.2.record.closeOrder.getD 0 ≤ n := by
  simp [State.highestCloseOrder, foldl_max_le_iff]

/-- A record that closes takes the highest close order. -/
theorem State.highestCloseOrder_close {c : Nat} {sl : Slot} (mem : (c, sl) ∈ s.slots) : State.highestCloseOrder { s with
    slots := Sparse.modify s.slots c (Slot.closedAt (s.highestCloseOrder + 1)) } =
      s.highestCloseOrder + 1 := by
  refine le_antisymm ((State.highestCloseOrder_le_iff _ _).2 fun p hp => ?_) ?_
  · obtain ⟨q, hq, rfl⟩ := List.mem_map.1 hp
    have below := (s.highestCloseOrder_le_iff _).1 le_rfl q hq
    by_cases here : q.1 = c
    · simp [here, Slot.closedAt, ChartRecord.close]
    · simp only [here, if_false]
      omega
  · have closed := (State.highestCloseOrder_le_iff { s with
      slots := Sparse.modify s.slots c (Slot.closedAt (s.highestCloseOrder + 1)) } _).1 le_rfl _ (List.mem_map_of_mem mem)
    simpa [Slot.closedAt, ChartRecord.close] using closed

/-! ## The closing test of some slots (R86, R92) -/

/-- The record of a slot meets the closing condition. -/
def State.closesAt (s : State) (c : Nat) : Bool := (s.record? c).any ChartRecord.shouldClose

/-- The slots `l` that close take the next close orders by their numbers. -/
def State.closedAll (s : State) (l : List Nat) : State := { s with
  slots := s.slots.map (fun p => if p.1 ∈ l then
    (p.1, p.2.closedAt (s.highestCloseOrder + 1 + (l.filter (fun d => decide (d < p.1))).length)) else p)
  attention := { s.attention with
    events := l.foldl (fun events c => insertEvent ⟨.chartClosed, c⟩ events) s.attention.events } }

theorem State.closedAll_nil (s : State) : s.closedAll [] = s := by
  simp [State.closedAll]

theorem State.closingTest_closes {c : Nat} (closes : s.closesAt c = true) : s.closingTest c = { s with
    slots := Sparse.modify s.slots c (Slot.closedAt (s.highestCloseOrder + 1))
    attention := { s.attention with events := insertEvent ⟨.chartClosed, c⟩ s.attention.events } } := by
  obtain ⟨r, record, should⟩ := Option.any_eq_true _ _ |>.1 closes
  simp only [State.closingTest, record, should, if_true]
  rfl

theorem State.closingTest_stays {c : Nat} (stays : s.closesAt c = false) : s.closingTest c = s := by
  unfold State.closingTest
  cases record : s.record? c with
  | none => rfl
  | some r =>
    have keeps : r.shouldClose = false := by simpa [State.closesAt, record] using stays
    simp [keeps]

/-- A slot that closes first leaves the others the close orders after its own. -/
theorem State.closedAll_cons {c : Nat} {l : List Nat} (closes : s.closesAt c = true) (after : ∀ d ∈ l, c < d) :
    (s.closingTest c).closedAll l = s.closedAll (c :: l) := by
  obtain ⟨r, record, -⟩ := Option.any_eq_true _ _ |>.1 closes
  obtain ⟨sl, found, -⟩ := State.slot_of_record record
  have highest := s.highestCloseOrder_close (Sparse.mem_of_find found)
  have absent : c ∉ l := fun h => (after c h).ne rfl
  rw [State.closingTest_closes closes]
  have orders : State.highestCloseOrder { s with
      slots := Sparse.modify s.slots c (Slot.closedAt (s.highestCloseOrder + 1))
      attention := { s.attention with events := insertEvent ⟨.chartClosed, c⟩ s.attention.events } } =
        s.highestCloseOrder + 1 := highest
  unfold State.closedAll
  rw [orders]
  simp only [Sparse.modify, List.map_map, List.foldl_cons]
  refine congrArg (fun slots => ({ s with slots := slots, attention := _ } : State)) (List.map_congr_left fun p _ => ?_)
  by_cases here : p.1 = c
  · have none : l.filter (fun d => decide (d < c)) = [] :=
      List.filter_eq_nil_iff.2 fun d hd => by simpa using (after d hd).le
    simp [here, absent, none]
  · by_cases listed : p.1 ∈ l
    · have above := after p.1 listed
      simp only [Function.comp_apply, here, if_false, listed, if_true, List.mem_cons, or_true,
        List.filter_cons_of_pos (p := fun d => decide (d < p.1)) (l := l) (by simpa using above), List.length_cons]
      rw [show s.highestCloseOrder + 1 + 1 + (l.filter fun d => decide (d < p.1)).length =
        s.highestCloseOrder + 1 + ((l.filter fun d => decide (d < p.1)).length + 1) by omega]
    · simp [here, listed]

/-- The closing tests close the slots that meet the condition before any of them is tested. -/
theorem State.closingTests_eq {l : List Nat} (ascending : l.Pairwise (· < ·)) (s : State) :
    s.closingTests l = s.closedAll (l.filter s.closesAt) := by
  induction ascending generalizing s with
  | nil => exact s.closedAll_nil.symm
  | @cons c l after _ ih =>
    have step : s.closingTests (c :: l) = (s.closingTest c).closingTests l := rfl
    cases closes : s.closesAt c with
    | false => rw [step, State.closingTest_stays closes, ih, List.filter_cons_of_neg (by simp [closes])]
    | true =>
      have kept : l.filter (s.closingTest c).closesAt = l.filter s.closesAt := by
        refine List.filter_congr fun d hd => ?_
        have other : d ≠ c := (after d hd).ne'
        rw [State.closingTest_closes closes]
        simp [State.closesAt, State.record?, State.slot?, Sparse.find_modify, other]
      rw [step, ih, kept, List.filter_cons_of_pos closes,
        State.closedAll_cons closes fun d hd => after d (List.mem_filter.1 hd).1]

/-! ## The charts that a lost peer leaves (R86, R92) -/

/-- No contributor but the lost peer is ACTIVE. -/
def ChartRecord.lastIs (peer : Station) (r : ChartRecord) : Bool := r.contributors.all (fun x => x.station == peer || x.ended.isSome)

/-- The record with the peer ENDED by LOSS. -/
def ChartRecord.without (peer : Station) (r : ChartRecord) : ChartRecord :=
  { r with contributors := contributorEnds peer .loss r.contributors }

/-- The slot listed the peer ACTIVE and closes without it. -/
def Slot.closesWithout (peer : Station) (p : Nat × Slot) : Bool :=
  isActive peer p.2.record.contributors && p.2.record.state != .closed && !p.2.record.bound &&
    (p.2.record.lastIs peer || p.2.record.quietFlag)

/-- The record of a slot once the peer is lost: `order` is its close order where it closes (R86, R92). -/
def Slot.recordWithout (peer : Station) (order : Nat) (p : Nat × Slot) : ChartRecord :=
  if Slot.closesWithout peer p then (p.2.record.without peer).close order else p.2.record.without peer

/-- The close order of a slot that closes: those of the lower slots that close come before it (R92). -/
def State.orderWithout (s : State) (peer : Station) (c : Nat) : Nat :=
  s.highestCloseOrder + 1 + (s.slots.filter (fun p => decide (p.1 < c) && Slot.closesWithout peer p)).length

theorem allEnded_without (r : ChartRecord) : allEnded (contributorEnds peer .loss r.contributors) = r.lastIs peer := by
  rw [Bool.eq_iff_iff, allEnded, contributorEnds, List.all_map, ChartRecord.lastIs]
  simp only [List.all_eq_true]
  refine forall₂_congr fun x _ => ?_
  by_cases here : x.station = peer <;> cases ended : x.ended <;> simp [here, ended]

theorem ChartRecord.shouldClose_without (r : ChartRecord) :
    (r.without peer).shouldClose = (r.state != .closed && !r.bound && (r.lastIs peer || r.quietFlag)) := by
  rw [← allEnded_without]
  rfl

/-- The charts with the peer ENDED in each that listed it, those closed that are left to none (R86, R92). -/
theorem State.peerLost_eq (ordered : s.TablesOrdered) (peer : Station) : s.peerLost peer = { s with
    slots := s.slots.map (fun p =>
      (p.1, ({ p.2 with record := Slot.recordWithout peer (s.orderWithout peer p.1) p } : Slot)))
    attention := { s.attention with
      events := (s.slots.filter (Slot.closesWithout peer)).foldl
        (fun events p => insertEvent ⟨.chartClosed, p.1⟩ events) s.attention.events } } := by
  have ascending : ((s.slots.filter (fun p => isActive peer p.2.record.contributors)).map Prod.fst).Pairwise (· < ·) :=
    List.pairwise_map.2 (ordered.slots.filter _)
  have unlisted : State.peerLost s peer = State.closingTests { s with
      slots := s.slots.map (fun p => (p.1, ({ p.2 with record := p.2.record.without peer } : Slot))) }
      ((s.slots.filter (fun p => isActive peer p.2.record.contributors)).map Prod.fst) := rfl
  have closing : ((s.slots.filter (fun p => isActive peer p.2.record.contributors)).map Prod.fst).filter (State.closesAt { s with
      slots := s.slots.map (fun p => (p.1, ({ p.2 with record := p.2.record.without peer } : Slot))) }) =
        (s.slots.filter (Slot.closesWithout peer)).map Prod.fst := by
    rw [List.filter_map, List.filter_filter]
    refine congrArg _ (List.filter_congr fun p hp => ?_)
    have found : Sparse.find s.slots p.1 = some p.2 := Sparse.find_of_mem ordered.slots hp
    have closes : State.closesAt { s with
        slots := s.slots.map (fun p => (p.1, ({ p.2 with record := p.2.record.without peer } : Slot))) } p.1 =
          (p.2.record.without peer).shouldClose := by
      simp [State.closesAt, State.record?, State.slot?, Sparse.find_map, found]
    rw [Function.comp_apply, closes, ChartRecord.shouldClose_without, Bool.and_comm, Slot.closesWithout]
    simp only [Bool.and_assoc]
  have orders : State.highestCloseOrder { s with
      slots := s.slots.map (fun p => (p.1, ({ p.2 with record := p.2.record.without peer } : Slot))) } = s.highestCloseOrder := by
    simp [State.highestCloseOrder, List.foldl_map, ChartRecord.without]
  have listed : ∀ p ∈ s.slots, p.1 ∈ (s.slots.filter (Slot.closesWithout peer)).map Prod.fst ↔ Slot.closesWithout peer p = true := by
    intro p hp
    refine ⟨fun h => ?_, fun h => List.mem_map_of_mem (List.mem_filter.2 ⟨hp, h⟩)⟩
    obtain ⟨q, hq, same⟩ := List.mem_map.1 h
    obtain ⟨mem, closes⟩ := List.mem_filter.1 hq
    have found := Sparse.find_of_mem ordered.slots (n := q.1) (v := q.2) mem
    rw [same, Sparse.find_of_mem ordered.slots (n := p.1) (v := p.2) hp] at found
    rwa [Prod.ext same.symm (Option.some.inj found)]
  have count : ∀ n, (((s.slots.filter (Slot.closesWithout peer)).map Prod.fst).filter (fun d => decide (d < n))).length =
      (s.slots.filter (fun q => decide (q.1 < n) && Slot.closesWithout peer q)).length := fun n => by
    rw [List.filter_map, List.length_map, List.filter_filter]
    rfl
  rw [unlisted, State.closingTests_eq ascending, closing, State.closedAll, orders]
  simp only [List.map_map, List.foldl_map, count]
  refine congrArg (fun slots => ({ s with slots := slots, attention := _ } : State)) (List.map_congr_left fun p hp => ?_)
  by_cases closes : Slot.closesWithout peer p = true
  · simp [Slot.recordWithout, Slot.closedAt, State.orderWithout, closes, (listed p hp).2 closes]
  · simp [Slot.recordWithout, closes, mt (listed p hp).1 closes]

theorem Slot.recordWithout_eq (n : Nat) (p : Nat × Slot) : Slot.recordWithout peer n p = if Slot.closesWithout peer p then
    { p.2.record.without peer with
      state := .closed, expected := none, quietDeadline := none, closeOrder := some n
      closeReason := some (if p.2.record.lastIs peer then p.2.record.lastCloseReason.getD .quiet else .quiet) }
    else p.2.record.without peer := by
  rw [← allEnded_without]
  rfl

/-! ## The fetch and the context of a lost peer (R119, R124, R134) -/

/-- The peer's context is dropped while it is RECEIVING (R134). -/
def State.receivingDropped (s : State) (n : Nat) : State :=
  match Sparse.find s.fetch.contexts n with
  | some c => if c.waitingSlot.isNone then s.setContext n none else s
  | none => s

theorem State.receivingDropped_eq (ordered : Sparse.Rising s.fetch.contexts) (n : Nat) : s.receivingDropped n = { s with
    fetch := { s.fetch with contexts := s.fetch.contexts.filter (fun p => p.1 != n || p.2.waitingSlot.isSome) } } := by
  have keeps (h : ∀ p ∈ s.fetch.contexts, p.1 = n → p.2.waitingSlot.isSome = true) :
      s.fetch.contexts.filter (fun p => p.1 != n || p.2.waitingSlot.isSome) = s.fetch.contexts :=
    List.filter_eq_self.2 fun p hp => by by_cases here : p.1 = n <;> simp [here, h p hp]
  unfold State.receivingDropped
  cases found : Sparse.find s.fetch.contexts n with
  | none => rw [keeps fun p hp here => by simp [← here, Sparse.find_of_mem ordered (n := p.1) (v := p.2) hp] at found]
  | some c =>
    have only : ∀ p ∈ s.fetch.contexts, p.1 = n → p.2 = c := fun p hp here => by
      rw [← here, Sparse.find_of_mem ordered (n := p.1) (v := p.2) hp] at found
      exact Option.some.inj found
    cases waits : c.waitingSlot with
    | none =>
      have same : s.fetch.contexts.filter (fun p => p.1 != n || p.2.waitingSlot.isSome) = Sparse.erase s.fetch.contexts n :=
        List.filter_congr fun p hp => by by_cases here : p.1 = n <;> simp [here, waits, only p hp]
      simp only [waits, Option.isNone_none, if_true, same]
      rfl
    | some slot =>
      rw [keeps fun p hp here => by simp [only p hp here, waits]]
      simp [waits]

/-- An attempt more, at most 3, which exhaust the row (R124). -/
theorem HolderRow.attempt_eq (r : HolderRow) : r.attempt = { r with
    attempts := min 3 (r.attempts + 1), exhausted := r.exhausted || decide (2 ≤ r.attempts) } := by
  have third : (min 3 (r.attempts + 1) = 3) = (2 ≤ r.attempts) := propext ⟨fun h => by omega, fun h => by omega⟩
  simp only [HolderRow.attempt, third]

/-- The one fetch of a peer is retired with an attempt counted (R119, R124). -/
theorem State.retireWhere_counted {e : FetchEntry} {p : FetchEntry → Bool} (one : s.fetch.fetches.filter p = [e]) :
    s.retireWhere p true = { s.retire e with slots := Sparse.modify s.slots e.slot (fun sl => sl.setRow e.line { sl.row e.line with
      attempts := min 3 ((sl.row e.line).attempts + 1)
      exhausted := (sl.row e.line).exhausted || decide (2 ≤ (sl.row e.line).attempts) }) } := by
  have row : s.retireWhere p true = (s.retire e).modifyRow e.slot e.line HolderRow.attempt := by
    simp [State.retireWhere, one, State.retireAll]
  simp only [row, State.modifyRow, HolderRow.attempt_eq]
  rfl

theorem State.retireWhere_nothing {p : FetchEntry → Bool} (none : s.fetch.fetches.filter p = []) (counted : Bool) :
    s.retireWhere p counted = s := by
  rw [State.retireWhere, none]
  rfl

/-- The peer is LOST in the roster, and the charts know it. -/
def State.peerGone (s : State) (peer : Station) (deadline : Nat) : State :=
  (((s.reach deadline).setRosterEntry peer { s.rosterEntry peer with state := .lost, lossDeadline := none }).post
    .peerLost peer.val).peerLost peer

theorem State.exec_lossTimerExpiry {deadline : Nat} (run : s.config.state = .run) (live : (s.rosterEntry peer).state = .live)
    (timed : (s.rosterEntry peer).lossDeadline = some deadline) : exec (.lossTimerExpiry peer) s =
      .next ((((s.peerGone peer deadline).retireWhere (fun e => e.target == peer) true).receivingDropped peer.val).settle) := by
  have lost : s.losePeer peer deadline =
      ((s.peerGone peer deadline).retireWhere (fun e => e.target == peer) true).receivingDropped peer.val := rfl
  simp [exec, execLossTimerExpiry, State.whenRunning, State.running_of run, live, timed, lost]

/-- Settles O49: `peerLost_eq` says which charts close, and the peer's fetch and context follow. -/
theorem lostPeerLeavesCharts : Obligations.LostPeerLeavesCharts := by
  intro s peer e deadline run entry live timed ordered
  subst entry
  have gone := State.peerLost_eq (s := ((s.reach deadline).setRosterEntry peer
    { s.rosterEntry peer with state := .lost, lossDeadline := none }).post .peerLost peer.val)
    ⟨ordered.slots, ordered.entries, ordered.rows, ordered.pool, Sparse.rising_put _ _ ordered.peers, ordered.contexts⟩ peer
  rw [← State.peerGone] at gone
  simp only [Slot.recordWithout_eq] at gone
  rw [State.exec_lossTimerExpiry run live timed, gone]
  refine ⟨fun unfetched => ?_, fun x one => ?_⟩
  · have none : s.fetch.fetches.filter (fun y => y.target == peer) = [] :=
      List.filter_eq_nil_iff.2 (List.find?_eq_none.1 unfetched)
    rw [State.retireWhere_nothing (by exact none), State.receivingDropped_eq (by exact ordered.contexts)]
    rfl
  · rw [State.retireWhere_counted (by exact one), State.receivingDropped_eq (by exact ordered.contexts)]
    rfl

end Sys2Proof.Machine
end

section
/-!
PROOF. An OPEN is heard: the statement OpenMakesOrJoinsChart.
-/
namespace Sys2Proof.Machine

variable {s u v : State} {o : ChartOpen} {sender : Station}

/-! ## The bound record that an OPEN re-keys (R83) -/

/-- A bound OPEN record whose own OPEN waits, whose late flag is clear and which was handed no own line (R83). -/
structure ChartRecord.Rekeyable (r : ChartRecord) : Prop where
  bound : r.bound = true
  opened : r.state = .opened
  waits : r.ownOpen = .queued
  early : r.late = false
  unhanded : r.ownLinesHanded = false

/-- The record bound in slot `c` meets R83. -/
def State.Rekeys (s : State) (c : Nat) (r : ChartRecord) : Prop :=
  s.reception.binding = some c ∧ s.record? c = some r ∧ r.Rekeyable

theorem State.rekeyable_eq {c : Nat} {r : ChartRecord} (h : s.Rekeys c r) : s.rekeyable = some (c, r) := by
  obtain ⟨binding, record, meets⟩ := h
  simp [State.rekeyable, binding, record, meets.bound, meets.opened, meets.waits, meets.early, meets.unhanded]

theorem State.rekeyable_none (fails : ∀ c r, ¬s.Rekeys c r) : s.rekeyable = none := by
  cases binding : s.reception.binding with
  | none => simp [State.rekeyable, binding]
  | some c =>
    cases record : s.record? c with
    | none => simp [State.rekeyable, binding, record]
    | some r =>
      have misses : ¬r.Rekeyable := fun meets => fails c r ⟨binding, record, meets⟩
      simp only [State.rekeyable, binding, record, ite_eq_right_iff, reduceCtorEq, imp_false, Bool.and_eq_true,
        decide_eq_true_eq, Bool.not_eq_true']
      exact fun ⟨⟨⟨⟨bound, opened⟩, waits⟩, early⟩, unhanded⟩ => misses ⟨bound, opened, waits, early, unhanded⟩

/-- The re-keyed record is taken up as an adopted one is (R83, R98). -/
theorem State.openUnknown_rekeys {c n : Nat} {r : ChartRecord} {k : Key} {me : Station} (found : u.rekeyable = some (c, r))
    (key : r.key = k) (now : u.now = n) (self : u.self = me) : u.openUnknown sender o = takenUp { u with
      link := u.link.withdrawOpen k
      slots := Sparse.modify u.slots c (fun sl => { sl with record := { sl.record with
        key := o.key, state := .aligning, expected := some 0, offset := none, late := o.late
        contributors := [({ station := me, ended := none } : Contributor), { station := sender, ended := none }]
        lastOpenHeard := some n, ownOpen := .none
        highest := if o.reannounce then some o.highest else sl.record.highest } })
      fetch := { u.fetch with contexts := u.fetch.contexts.map (fun (p : Nat × Context) =>
        if p.2.waitingSlot = some c then (p.1, { p.2 with key := o.key }) else p) } } c o.key 0 := by
  subst key now self
  rw [← State.takeUp_eq]
  simp only [State.openUnknown, found]
  rfl

/-! ## A record of the heard chart (R77, R78, R84) -/

/-- The record that a heard OPEN makes. -/
def State.heardRecord (s : State) (sender : Station) (o : ChartOpen) : ChartRecord :=
  { key := o.key, state := .opened, hold := .none, bound := false, offset := none, expected := none, late := o.late
    rate := s.config.settings.rate, contributors := [{ station := sender, ended := none }]
    highest := if o.reannounce then some o.highest else none
    lastOwn := none, ownLinesHanded := false, ownOpen := .none, lastOpenHeard := some s.now, lastTally := none
    quietDeadline := some (s.now + 32 * s.linePeriod), quietFlag := false, lastCloseReason := none
    closeReason := none, closeOrder := none }

/-- A record stands alone in slot `c`, and CHART_OPENED is posted (R77). -/
def State.recordMade (v : State) (c : Nat) (r : ChartRecord) : State := { v with
  slots := Sparse.put v.slots c { record := r, entries := [], rows := [] }
  attention := { v.attention with events := insertEvent ⟨.chartOpened, c⟩ v.attention.events } }

theorem State.openUnknown_creates {c : Nat} (unbound : u.rekeyable = none) (slot : u.allocate = some (c, v)) :
    u.openUnknown sender o = v.recordMade c (u.heardRecord sender o) := by
  simp only [State.openUnknown, unbound, State.create, slot]
  rfl

theorem State.openUnknown_full (unbound : u.rekeyable = none) (full : u.allocate = none) :
    u.openUnknown sender o = u.post .directoryFull 0 := by
  simp only [State.openUnknown, unbound, State.create, full]

/-! ## A known chart (R84, R85) -/

theorem raised_eq (highest : Option Nat) (n : Nat) : raised highest n = some (max (highest.getD 0) n) := by
  cases highest <;> simp [raised]

/-- The sender is an ACTIVE contributor, and a re-announcement raises the highest line (R84). -/
def ChartRecord.joinedBy (sender : Station) (o : ChartOpen) (r : ChartRecord) : ChartRecord := { r with
  contributors := contributorActive sender r.contributors
  highest := if o.reannounce then some (max (r.highest.getD 0) o.highest) else r.highest }

theorem ChartRecord.joinedBy_eq (r : ChartRecord) : ({ r with contributors := contributorActive sender r.contributors } :
    ChartRecord).raiseTo (if o.reannounce then some o.highest else none) = r.joinedBy sender o := by
  rw [ChartRecord.joinedBy, ← raised_eq]
  cases o.reannounce <;> rfl

theorem State.openHeard_otherRate (h : o.rate ≠ s.config.settings.rate) : s.openHeard sender o = s := by
  simp [State.openHeard, h]

section
variable (rate : o.rate = s.config.settings.rate)
include rate

theorem State.openHeard_unknown (unknown : s.slotOfKey o.key = none) : s.openHeard sender o = s.openUnknown sender o := by
  simp [State.openHeard, rate, unknown]

variable {c : Nat} {r : ChartRecord} (known : s.slotOfKey o.key = some c) (record : s.record? c = some r)
include known record

theorem State.openHeard_joins (stands : r.state ≠ .closed) : s.openHeard sender o = { s with
    slots := Sparse.modify s.slots c (fun sl =>
      { sl with record := { sl.record.joinedBy sender o with lastOpenHeard := some s.now } }) } := by
  simp only [← ChartRecord.joinedBy_eq]
  simp [State.openHeard, rate, known, record, stands, State.modifyRecord, State.modifySlot]

theorem State.openHeard_reannounced (closed : r.state = .closed) (again : o.reannounce = true) :
    s.openHeard sender o = { s with
      slots := Sparse.modify s.slots c (fun sl => { sl with record := sl.record.joinedBy sender o }) } := by
  simp only [← ChartRecord.joinedBy_eq]
  simp [State.openHeard, rate, known, record, closed, again, State.modifyRecord, State.modifySlot]

theorem State.openHeard_held (closed : r.state = .closed) (anew : o.reannounce = false) (held : r.hold ≠ .none) :
    s.openHeard sender o = s := by
  simp [State.openHeard, rate, known, record, closed, anew, held]

theorem State.openHeard_released (closed : r.state = .closed) (anew : o.reannounce = false) (free : r.hold = .none) :
    s.openHeard sender o = (s.releaseSlot c).openUnknown sender o := by
  simp [State.openHeard, rate, known, record, closed, anew, free]

end

/-! ## A released slot (R95) -/

/-- The record with its close order 1 lower, where it was above `n` (R95). -/
def ChartRecord.orderBelow (n : Nat) (r : ChartRecord) : ChartRecord :=
  { r with closeOrder := r.closeOrder.map (fun o => if n < o then o - 1 else o) }

theorem State.binding_releaseSlot (s : State) (c : Nat) : (s.releaseSlot c).reception.binding = s.reception.binding := by
  rw [State.releaseSlot_reception]

section
variable {c : Nat} {r : ChartRecord} (record : s.record? c = some r)
include record

theorem State.releaseSlot_slots : (s.releaseSlot c).slots = (Sparse.erase s.slots c).map (fun (p : Nat × Slot) =>
    (p.1, { p.2 with record := p.2.record.orderBelow (r.closeOrder.getD 0) })) := by
  obtain ⟨m, i, segments, bodies, released, -⟩ := State.releaseSlot_parts record
  rw [released, State.startNext_slots]
  rfl

theorem State.slot?_releaseSlot (d : Nat) : ((s.releaseSlot c).slot? d).isSome = (decide (d ≠ c) && (s.slot? d).isSome) := by
  rw [State.slot?, State.releaseSlot_slots record, Sparse.find_map]
  by_cases here : d = c
  · simp [here]
  · simp [here, Sparse.find_erase_other, State.slot?]

theorem State.record?_releaseSlot {d : Nat} (other : d ≠ c) : (s.releaseSlot c).record? d = 
    (s.record? d).map (ChartRecord.orderBelow (r.closeOrder.getD 0)) := by
  rw [State.record?, State.slot?, State.releaseSlot_slots record, Sparse.find_map, Sparse.find_erase_other _ _ _ other,
    State.record?, State.slot?]
  simp [Function.comp_def]

/-- The release of a CLOSED record leaves the bound record as R83 asks (R95). -/
theorem State.rekeys_releaseSlot (closed : r.state = .closed) {d : Nat} {x : ChartRecord} (h : s.Rekeys d x) :
    ∃ y, (s.releaseSlot c).Rekeys d y ∧ y.key = x.key := by
  obtain ⟨binding, found, meets⟩ := h
  have other : d ≠ c := by
    rintro rfl
    obtain rfl := Option.some.inj (record.symm.trans found)
    cases closed.symm.trans meets.opened
  refine ⟨x.orderBelow (r.closeOrder.getD 0), ⟨(s.binding_releaseSlot c).trans binding, ?_, ?_⟩, rfl⟩
  · rw [State.record?_releaseSlot record other, found, Option.map_some]
  · exact ⟨meets.bound, meets.opened, meets.waits, meets.early, meets.unhanded⟩

theorem State.not_rekeys_releaseSlot (fails : ∀ d x, ¬s.Rekeys d x) (d : Nat) (y : ChartRecord) :
    ¬(s.releaseSlot c).Rekeys d y := by
  rintro ⟨binding, found, meets⟩
  rw [State.binding_releaseSlot] at binding
  by_cases here : d = c
  · have gone : ((s.releaseSlot c).slot? d).isSome = false := by rw [State.slot?_releaseSlot record, here]; simp
    obtain ⟨sl, listed, -⟩ := State.slot_of_record found
    rw [State.slot?, listed] at gone
    cases gone
  · rw [State.record?_releaseSlot record here] at found
    obtain ⟨x, was, rfl⟩ := Option.map_eq_some_iff.1 found
    exact fails d x ⟨binding, was, ⟨meets.bound, meets.opened, meets.waits, meets.early, meets.unhanded⟩⟩

end

theorem State.heardRecord_stands (h : s.Stands u) : u.heardRecord sender o = s.heardRecord sender o := by
  simp only [State.heardRecord, State.linePeriod, State.period, h.config, h.now]

/-! ## The OPEN taken -/

theorem State.exec_openReceived {frame : List Byte} {f : Frame} (run : s.config.state = .run)
    (can : s.link.canTakeFrame = true) (good : decodeFrame frame = some f) (payload : f.payload = .chartOpen o)
    (peer : f.sender ≠ s.self) :
    exec (.openReceived frame) s = .next (((s.arrive frame).peerHeard f.sender).openHeard f.sender o).settle :=
  congrArg _ (s.receive_eq frame f _ _ o run can good (by rw [payload]; rfl) peer)

/-- Settles O43: the lemmas on `openHeard` and `openUnknown` say what each state of the directory makes of the OPEN. -/
theorem openMakesOrJoinsChart : Obligations.OpenMakesOrJoinsChart := by
  intro s frame f o run can good payload peer b joined fresh made rekeyed qualifies
  have heard : exec (.openReceived frame) s = .next (b.openHeard f.sender o).settle := State.exec_openReceived run can good payload peer
  have slots : b.slots = s.slots := State.peerHeard_arrive_slots ..
  have config : b.config = s.config := State.peerHeard_arrive_config ..
  have reception : b.reception = s.reception := State.peerHeard_arrive_reception ..
  have keys : ∀ k, b.slotOfKey k = s.slotOfKey k := fun k => by rw [State.slotOfKey, slots]; rfl
  have records : ∀ c, b.record? c = s.record? c := fun c => by rw [State.record?, State.slot?, slots]; rfl
  have places : ∀ c, b.slot? c = s.slot? c := fun c => by rw [State.slot?, slots]; rfl
  have self : b.self = s.self := by rw [State.self, config]; rfl
  have count : b.slotCount = s.slotCount := by rw [State.slotCount, config]; rfl
  have made_eq : ∀ v c, made v c = (v.recordMade c (b.heardRecord f.sender o)).settle := fun v c => by
    simp only [State.heardRecord, State.linePeriod, State.period, config]
    rfl
  have qualifies_iff : ∀ c r, qualifies c r ↔ b.Rekeys c r := fun c r => by
    rw [State.Rekeys, reception, records]
    exact ⟨fun ⟨binding, record, bound, opened, waits, early, unhanded⟩ => ⟨binding, record, bound, opened, waits, early, unhanded⟩,
      fun ⟨binding, record, meets⟩ => ⟨binding, record, meets.bound, meets.opened, meets.waits, meets.early, meets.unhanded⟩⟩
  have rekeyed_eq : ∀ u c x y, b.Stands u → u.Rekeys c y → y.key = x.key → (u.openUnknown f.sender o).settle = rekeyed u c x := by
    intro u c x y stands rekeys key
    have same : u.self = s.self := (congrArg (fun x => x.settings.station) stands.config).trans self
    exact congrArg _ (State.openUnknown_rekeys (State.rekeyable_eq rekeys) key stands.now same)
  have makes : ∀ u v c, b.Stands u → (∀ d x, ¬u.Rekeys d x) → u.allocate = some (c, v) →
      (u.openUnknown f.sender o).settle = made v c := fun u v c stands fails slot => by
    rw [State.openUnknown_creates (State.rekeyable_none fails) slot, State.heardRecord_stands stands, made_eq]
  clear_value b
  rw [heard]
  refine ⟨fun other => ?_, fun rate ordered => ?_⟩
  · rw [State.openHeard_otherRate (config ▸ other)]
  have rate : o.rate = b.config.settings.rate := config ▸ rate
  have ordered : Sparse.Rising b.slots := slots ▸ ordered.slots
  refine ⟨fun c r known record => ?_, fun c r unknown meets => ?_, fun unknown fails => ⟨fun c free lower low => ?_,
    fun full => ⟨fun c r record closed loose least => ?_, fun held => ?_⟩⟩⟩
  · have known := (keys o.key).trans known
    have record := (records c).trans record
    refine ⟨fun stands => ?_, fun closed again => ?_, fun closed anew held => ?_, fun closed anew loose => ?_⟩
    · rw [State.openHeard_joins rate known record stands, slots]
      rfl
    · rw [State.openHeard_reannounced rate known record closed again, slots]
      rfl
    · rw [State.openHeard_held rate known record closed anew held]
    · have released := State.releaseSlot_stands b c
      rw [State.openHeard_released rate known record closed anew loose]
      refine ⟨fun d fails free lower low => ?_, fun d x meets => ?_⟩
      · have taken : ((b.releaseSlot c).slot? d).isSome = false := by
          rw [State.slot?_releaseSlot record, places]
          rcases free with rfl | free <;> simp_all
        refine congrArg _ (makes _ _ _ released (State.not_rekeys_releaseSlot record fun k x h => fails k x ((qualifies_iff k x).2 h))
          (State.allocate_free (released.rising ordered) (by simpa using taken) (fun k below => ?_) ?_))
        · obtain ⟨other, used⟩ := lower k below
          rw [State.slot?_releaseSlot record, places]
          simp [other, used]
        · rw [State.slotCount, released.config]
          exact low.trans_eq count.symm
      · obtain ⟨y, rekeys, key⟩ := State.rekeys_releaseSlot record closed ((qualifies_iff d x).1 meets)
        exact congrArg _ (rekeyed_eq _ d x y released rekeys key)
  · rw [State.openHeard_unknown rate ((keys _).trans unknown)]
    exact congrArg _ (rekeyed_eq b c r r (.refl b) ((qualifies_iff c r).1 meets) rfl)
  · rw [State.openHeard_unknown rate ((keys _).trans unknown)]
    exact congrArg _ (makes b b c (.refl b) (fun k x h => fails k x ((qualifies_iff k x).2 h))
      (State.allocate_free ordered ((places c).trans free) (fun d below => places d ▸ lower d below) (count ▸ low)))
  · have allocated := State.allocate_full ordered fun d below => places d ▸ full d (count ▸ below)
    rw [State.evictable_eq ordered ((records c).trans record) closed loose (slots ▸ least)] at allocated
    rw [State.openHeard_unknown rate ((keys _).trans unknown)]
    exact congrArg _ (makes b _ c (.refl b) (fun k x h => fails k x ((qualifies_iff k x).2 h)) allocated)
  · have allocated := State.allocate_full ordered fun d below => places d ▸ full d (count ▸ below)
    rw [State.evictable_none (slots ▸ held)] at allocated
    rw [State.openHeard_unknown rate ((keys _).trans unknown),
      State.openUnknown_full (State.rekeyable_none fun k x h => fails k x ((qualifies_iff k x).2 h)) allocated]
    rfl

end Sys2Proof.Machine
end

section
/-!
PROOF. Frames and their bytes: the statement FramesReadBack.
-/
namespace Sys2Proof.Machine

/-! ## The fields of a payload (R183) -/

theorem stationOfByte_ofNat : ∀ st : Station, stationOfByte (BitVec.ofNat 8 st.val) = st := by decide

/-- Bit 7 of the fallback byte marks a fallback; the station is below it. -/
theorem fallbackByte_fields : ∀ st : Station, (BitVec.ofNat 8 (128 + st.val)).getLsbD 7 = true ∧
    stationOfByte (BitVec.ofNat 8 (128 + st.val)) = st := by decide

theorem keyOfBytes_keyBytes (k : Key) : keyOfBytes (BitVec.ofNat 8 k.origin.val) k.sequence = k := by
  rw [keyOfBytes, stationOfByte_ofNat]

theorem lineOfBytes_bytes16 {n : Nat} (h : n ≤ Config.lastLine) :
    lineOfBytes (BitVec.ofNat 8 (n / 256)) (BitVec.ofNat 8 n) = some n := by
  have word : word16 (BitVec.ofNat 8 (n / 256)) (BitVec.ofNat 8 n) = n := by
    have below : n ≤ 2047 := h
    simp only [word16, BitVec.toNat_ofNat]
    omega
  rw [lineOfBytes, word, if_pos h]

theorem le_lastLine_of_lineOfBytes {hi lo : Byte} {n : Nat} (h : lineOfBytes hi lo = some n) : n ≤ Config.lastLine := by
  unfold lineOfBytes at h
  split at h
  · next le => exact Option.some.inj h ▸ le
  · cases h

theorem codeOfNat_val (c : Code) : codeOfNat c.val = some c := by
  simp [codeOfNat]

theorem codeByte_toNat : ∀ c : Code, (BitVec.ofNat 8 c.val).toNat = c.val := by decide

theorem hailByte_fields : ∀ (joining bound : Bool) (width rate : Code),
    let a := BitVec.ofNat 8 (boolNat joining 128 + boolNat bound 64 + width.val * 16 + rate.val * 4)
    (a.extractLsb' 4 2).toNat = width.val ∧ (a.extractLsb' 2 2).toNat = rate.val ∧ a.getLsbD 7 = joining ∧
      a.getLsbD 6 = bound := by decide

theorem openByte_fields : ∀ (rate width : Code) (late split reannounce : Bool),
    let a := BitVec.ofNat 8 (rate.val * 64 + width.val * 16 + boolNat late 4 + boolNat split 2 + boolNat reannounce 1)
    (a.extractLsb' 6 2).toNat = rate.val ∧ (a.extractLsb' 4 2).toNat = width.val ∧ a.getLsbD 2 = late ∧
      a.getLsbD 1 = split ∧ a.getLsbD 0 = reannounce := by decide

theorem closeByte_fields : ∀ (known : Bool) (code : Fin 7), let a := BitVec.ofNat 8 (boolNat known 128 + code.val)
    (a.extractLsb' 0 3).toNat = code.val ∧ a.getLsbD 7 = known := by decide

theorem tallyByte_fields : ∀ (count : Fin 9) (age : Fin 8), let a := BitVec.ofNat 8 (count.val * 16 + age.val)
    (a.extractLsb' 4 4).toNat = count.val ∧ (a.extractLsb' 0 3).toFin = age := by decide

theorem segmentByte_fields : ∀ (count : Fin 17) (last : Bool), let a := BitVec.ofNat 8 (count.val * 8 + boolNat last 1)
    (a.extractLsb' 3 5).toNat = count.val ∧ a.getLsbD 0 = last := by decide

theorem closeReasonOf_code (r : CloseReason) : closeReasonOf r.code = some r := by
  cases r <;> rfl

theorem CloseReason.code_lt (r : CloseReason) : r.code < 7 := by
  cases r <;> decide

theorem declineReasonOf_code (r : DeclineReason) : declineReasonOf (BitVec.ofNat 8 r.code).toNat = some r := by
  cases r <;> rfl

/-! ## Each payload reads back (R51, R183) -/

theorem hailOfBytes_bytes (h : Hail) : hailOfBytes h.bytes = some h := by
  obtain ⟨j, w, r, key⟩ := h
  cases key with
  | none =>
    obtain ⟨width, rate, joining, bound⟩ := hailByte_fields j false w r
    simp only [Hail.bytes, hailOfBytes, width, rate, joining, bound, codeOfNat_val, Option.isSome_none, Bool.false_eq_true,
      if_false, Option.bind_eq_bind, Option.bind_some]
  | some k =>
    obtain ⟨width, rate, joining, bound⟩ := hailByte_fields j true w r
    simp only [Hail.bytes, hailOfBytes, width, rate, joining, bound, codeOfNat_val, Option.isSome_some, if_true, keyBytes,
      keyOfBytes_keyBytes, Option.bind_eq_bind, Option.bind_some]

theorem chartOpenOfBytes_bytes {o : ChartOpen} (valid : o.highest ≤ Config.lastLine) : chartOpenOfBytes o.bytes = some o := by
  obtain ⟨rate, width, late, split, reannounce⟩ := openByte_fields o.rate o.width o.late o.split o.reannounce
  simp only [ChartOpen.bytes, keyBytes, bytes16, List.cons_append, List.nil_append, chartOpenOfBytes, keyOfBytes_keyBytes,
    lineOfBytes_bytes16 valid, rate, width, late, split, reannounce, codeOfNat_val, Option.bind_eq_bind, Option.bind_some]

theorem chartCloseOfBytes_bytes {c : ChartClose} (valid : ∀ n, c.lastLine = some n → n ≤ Config.lastLine) :
    chartCloseOfBytes c.bytes = some c := by
  obtain ⟨key, why, last⟩ := c
  cases last with
  | none =>
    obtain ⟨reason, known⟩ := closeByte_fields false ⟨why.code, why.code_lt⟩
    simp only [ChartClose.bytes, keyBytes, bytes16, List.cons_append, List.nil_append, chartCloseOfBytes, keyOfBytes_keyBytes,
      reason, known, closeReasonOf_code, Option.isSome_none, Bool.false_eq_true, if_false, Option.bind_eq_bind, Option.bind_some]
  | some n =>
    obtain ⟨reason, known⟩ := closeByte_fields true ⟨why.code, why.code_lt⟩
    simp only [ChartClose.bytes, keyBytes, bytes16, List.cons_append, List.nil_append, chartCloseOfBytes, keyOfBytes_keyBytes,
      reason, known, closeReasonOf_code, Option.isSome_some, if_true, Option.getD_some, lineOfBytes_bytes16 (valid n rfl),
      Option.bind_eq_bind, Option.bind_some]

theorem askOfBytes_bytes {a : Ask} (line : a.line ≤ Config.lastLine) (other : a.fallback ≠ some a.primary) :
    askOfBytes a.bytes = some a := by
  obtain ⟨key, n, primary, fallback⟩ := a
  cases fallback with
  | none =>
    have unmarked : (0 : Byte).getLsbD 7 = false := rfl
    simp only [Ask.bytes, keyBytes, bytes16, List.cons_append, List.nil_append, askOfBytes, keyOfBytes_keyBytes,
      lineOfBytes_bytes16 line, stationOfByte_ofNat, unmarked, Bool.false_eq_true, if_false, Option.bind_eq_bind, Option.bind_some]
  | some st =>
    obtain ⟨marked, named⟩ := fallbackByte_fields st
    have differs : st ≠ primary := fun same => other (congrArg some same)
    simp only [Ask.bytes, keyBytes, bytes16, List.cons_append, List.nil_append, askOfBytes, keyOfBytes_keyBytes,
      lineOfBytes_bytes16 line, stationOfByte_ofNat, marked, named, differs, if_true, if_false, Option.bind_eq_bind, Option.bind_some]

theorem declineOfBytes_bytes {d : Decline} (valid : d.line ≤ Config.lastLine) : declineOfBytes d.bytes = some d := by
  simp only [Decline.bytes, keyBytes, bytes16, List.cons_append, List.nil_append, declineOfBytes, keyOfBytes_keyBytes,
    lineOfBytes_bytes16 valid, stationOfByte_ofNat, declineReasonOf_code, Option.bind_eq_bind, Option.bind_some]

/-- Two bytes, joined, are a word, where they are its high and its low byte. -/
theorem bytes_join_iff (high low : Byte) (w : BitVec 16) :
    high ++ low = w ↔ high = w.extractLsb' 8 8 ∧ low = w.extractLsb' 0 8 := by
  constructor
  · rintro rfl
    exact ⟨BitVec.extractLsb'_append_eq_left.symm, BitVec.extractLsb'_append_eq_right.symm⟩
  · rintro ⟨rfl, rfl⟩
    exact (BitVec.extractLsb'_append_extractLsb'_eq_extractLsb' rfl).trans BitVec.extractLsb'_eq_self

theorem tallyEntriesOf_bytes (l : List TallyEntry) : tallyEntriesOf l.length (l.flatMap TallyEntry.bytes) = some l := by
  induction l with
  | nil => rfl
  | cons e l ih =>
    have fingerprint : e.fingerprint.extractLsb' 8 8 ++ e.fingerprint.extractLsb' 0 8 = e.fingerprint :=
      (bytes_join_iff _ _ _).2 ⟨rfl, rfl⟩
    simp [TallyEntry.bytes, tallyEntriesOf, ih, fingerprint]

theorem tallyOfBytes_bytes {t : Tally} (some_line : 1 ≤ t.entries.length) (few : t.entries.length ≤ 8)
    (last : t.first + t.entries.length - 1 ≤ Config.lastLine) : tallyOfBytes t.bytes = some t := by
  obtain ⟨count, age⟩ := tallyByte_fields ⟨t.entries.length, by omega⟩ t.age
  have first : t.first ≤ Config.lastLine := by omega
  simp only [Tally.bytes, keyBytes, bytes16, List.cons_append, List.nil_append, tallyOfBytes, keyOfBytes_keyBytes,
    lineOfBytes_bytes16 first, count, age, some_line, few, last, and_self, if_true, tallyEntriesOf_bytes, Option.bind_eq_bind,
    Option.bind_some]

/-- What follows the first six bytes of a segment. -/
def Segment.restBytes (b : Segment) : List Byte :=
  (match b.header with
    | some h => h.bytes
    | none => []) ++ b.pixels

theorem segmentRestOf_restBytes {b : Segment} (valid : Payload.Valid (.body b)) :
    segmentRestOf b.number b.count b.restBytes = some (b.header, b.pixels) := by
  obtain ⟨-, -, -, pixels, head⟩ := valid
  obtain ⟨key, line, number, count, last, header, grays⟩ := b
  cases header with
  | none =>
    have later : number ≠ 0 := head
    simp only [segmentRestOf, Segment.restBytes, List.nil_append, later, if_false, pixels, if_true]
  | some h =>
    obtain ⟨first, width⟩ : number = 0 ∧ segmentCountOf h.width = count := head
    simp only [segmentRestOf, Segment.restBytes, BodyHeader.bytes, List.cons_append, List.nil_append, first, if_true,
      stationOfByte_ofNat, codeByte_toNat, codeOfNat_val, width, pixels, and_self, Option.bind_eq_bind, Option.bind_some]

theorem segmentOfBytes_bytes {b : Segment} (valid : Payload.Valid (.body b)) : segmentOfBytes b.bytes = some b := by
  have rest := segmentRestOf_restBytes valid
  obtain ⟨line, counts, below, -, -⟩ := valid
  obtain ⟨count, last⟩ := segmentByte_fields ⟨b.count, by omega⟩ b.endMark
  have number : (BitVec.ofNat 8 b.number).toNat = b.number := by
    simp only [BitVec.toNat_ofNat]
    omega
  have bytes : b.bytes = BitVec.ofNat 8 b.key.origin.val :: b.key.sequence :: BitVec.ofNat 8 (b.line / 256) ::
      BitVec.ofNat 8 b.line :: BitVec.ofNat 8 b.number :: BitVec.ofNat 8 (b.count * 8 + boolNat b.endMark 1) :: b.restBytes := rfl
  simp only [bytes, segmentOfBytes, keyOfBytes_keyBytes, lineOfBytes_bytes16 line, count, last, number, counts, below, and_self,
    if_true, rest, Option.bind_eq_bind, Option.bind_some]

/-! ## A payload, by its class and kind (section 3.3) -/

theorem payloadOfBytes_bytes {p : Payload} (valid : p.Valid) : payloadOfBytes p.frameClass.number p.kind p.bytes = some p := by
  cases p with
  | chartOpen o => exact congrArg (Option.map Payload.chartOpen) (chartOpenOfBytes_bytes valid)
  | chartClose c => exact congrArg (Option.map Payload.chartClose) (chartCloseOfBytes_bytes valid)
  | ask a => exact congrArg (Option.map Payload.ask) (askOfBytes_bytes valid.1 valid.2)
  | decline d => exact congrArg (Option.map Payload.decline) (declineOfBytes_bytes valid)
  | tally t => exact congrArg (Option.map Payload.tally) (tallyOfBytes_bytes valid.1 valid.2.1 valid.2.2)
  | body b => exact congrArg (Option.map Payload.body) (segmentOfBytes_bytes valid)
  | hail h => exact congrArg (Option.map Payload.hail) (hailOfBytes_bytes h)

theorem Payload.length_bytes_le {p : Payload} (valid : p.Valid) : p.bytes.length ≤ 96 := by
  have tally : ∀ l : List TallyEntry, (l.flatMap TallyEntry.bytes).length = 3 * l.length := fun l => by
    induction l with
    | nil => rfl
    | cons e l ih =>
      rw [List.flatMap_cons, List.length_append, ih, List.length_cons, Nat.mul_succ, Nat.add_comm]
      rfl
  cases p with
  | chartOpen o => simp [Payload.bytes, ChartOpen.bytes, keyBytes, bytes16]
  | chartClose c => simp [Payload.bytes, ChartClose.bytes, keyBytes, bytes16]
  | ask a => simp [Payload.bytes, Ask.bytes, keyBytes, bytes16]
  | decline d => simp [Payload.bytes, Decline.bytes, keyBytes, bytes16]
  | tally t =>
    have few : t.entries.length ≤ 8 := valid.2.1
    simp only [Payload.bytes, Tally.bytes, keyBytes, bytes16, List.length_append, tally, List.length_cons, List.length_nil]
    omega
  | body b =>
    obtain ⟨-, -, -, pixels, -⟩ := valid
    cases header : b.header <;>
      simp [Payload.bytes, Segment.bytes, BodyHeader.bytes, keyBytes, bytes16, header, pixels]
  | hail h => cases bound : h.boundKey <;> simp [Payload.bytes, Hail.bytes, keyBytes, bound]

/-! ## The frame (R46, R48) -/

theorem byteZero_fields : ∀ (cls : Fin 5) (st : Station) (kind : Fin 2),
    let b := BitVec.ofNat 8 (cls.val * 32 + st.val * 4 + kind.val)
    b.toNat / 32 = cls.val ∧ b.toNat % 4 = kind.val ∧ (b.extractLsb' 2 3).toFin = st := by decide

theorem FrameClass.number_lt (c : FrameClass) : c.number < 5 := by
  cases c <;> decide

theorem Payload.kind_lt (p : Payload) : p.kind < 2 := by
  cases p <;> simp [Payload.kind]

/-- Bytes are a frame where the length byte and the CRC are right and the payload reads. -/
theorem decodeFrame_eq (b0 len high low : Byte) (p : List Byte) : decodeFrame (b0 :: len :: (p ++ [high, low])) =
    if len.toNat ≤ 96 ∧ p.length = len.toNat ∧ high ++ low = crc (b0 :: len :: p) then
      (payloadOfBytes (b0.toNat / 32) (b0.toNat % 4) p).map (fun q => { sender := (b0.extractLsb' 2 3).toFin, payload := q })
    else none := by
  by_cases fits : len.toNat ≤ 96 ∧ p.length = len.toNat
  · obtain ⟨short, length⟩ := fits
    have short : p.length ≤ 96 := length ▸ short
    simp [decodeFrame, short, ← length, bytes_join_iff]
  · have unfit : ¬(len.toNat ≤ 96 ∧ (p ++ [high, low]).length = len.toNat + 2) := by simpa using fits
    rw [if_neg fun ⟨short, length, _⟩ => fits ⟨short, length⟩, decodeFrame]
    exact if_neg unfit

theorem decodeFrame_encodeFrame {f : Frame} (valid : f.payload.Valid) : decodeFrame (encodeFrame f) = some f := by
  obtain ⟨cls, kind, sender⟩ :=
    byteZero_fields ⟨f.payload.frameClass.number, FrameClass.number_lt _⟩ f.sender ⟨f.payload.kind, f.payload.kind_lt⟩
  have short := Payload.length_bytes_le valid
  have length : (BitVec.ofNat 8 f.payload.bytes.length).toNat = f.payload.bytes.length := by
    simp only [BitVec.toNat_ofNat]
    omega
  have check := (bytes_join_iff _ _ (crc (byteZero f :: BitVec.ofNat 8 f.payload.bytes.length :: f.payload.bytes))).2 ⟨rfl, rfl⟩
  rw [encodeFrame]
  refine (decodeFrame_eq _ _ _ _ _).trans ?_
  rw [if_pos ⟨length.trans_le short, length.symm, check⟩, byteZero, cls, kind, sender, payloadOfBytes_bytes valid]
  rfl

/-! ## What is read is valid (R52) -/

theorem chartOpen_valid {p : List Byte} {o : ChartOpen} (h : chartOpenOfBytes p = some o) : Payload.Valid (.chartOpen o) := by
  unfold chartOpenOfBytes at h
  split at h
  · simp only [Option.bind_eq_bind, Option.bind_eq_some_iff, Option.some.injEq] at h
    obtain ⟨r, -, w, -, n, line, rfl⟩ := h
    exact le_lastLine_of_lineOfBytes line
  · cases h

theorem chartClose_valid {p : List Byte} {c : ChartClose} (h : chartCloseOfBytes p = some c) : Payload.Valid (.chartClose c) := by
  unfold chartCloseOfBytes at h
  split at h
  · simp only [Option.bind_eq_bind, Option.bind_eq_some_iff] at h
    obtain ⟨reason, -, h⟩ := h
    split at h
    · obtain ⟨n, line, read⟩ := Option.bind_eq_some_iff.1 h
      cases read
      rintro _ ⟨⟩
      exact le_lastLine_of_lineOfBytes line
    · cases h
      rintro _ ⟨⟩
  · cases h

theorem ask_valid {p : List Byte} {a : Ask} (h : askOfBytes p = some a) : Payload.Valid (.ask a) := by
  unfold askOfBytes at h
  split at h
  · obtain ⟨n, line, h⟩ := Option.bind_eq_some_iff.1 h
    dsimp only at h
    split at h
    · split at h
      · cases h
      · next other =>
        cases h
        exact ⟨le_lastLine_of_lineOfBytes line, fun same => other (Option.some.inj same)⟩
    · cases h
      exact ⟨le_lastLine_of_lineOfBytes line, nofun⟩
  · cases h

theorem decline_valid {p : List Byte} {d : Decline} (h : declineOfBytes p = some d) : Payload.Valid (.decline d) := by
  unfold declineOfBytes at h
  split at h
  · simp only [Option.bind_eq_bind, Option.bind_eq_some_iff, Option.some.injEq] at h
    obtain ⟨n, line, r, -, rfl⟩ := h
    exact le_lastLine_of_lineOfBytes line
  · cases h

theorem length_tallyEntriesOf {n : Nat} {p : List Byte} {l : List TallyEntry} (h : tallyEntriesOf n p = some l) :
    l.length = n := by
  induction n, p using tallyEntriesOf.induct generalizing l with
  | case1 =>
    cases h
    rfl
  | case2 n g hi lo p ih =>
    obtain ⟨rest, read, rfl⟩ := Option.map_eq_some_iff.1 h
    rw [List.length_cons, ih read]
  | case3 n p empty short => simp_all [tallyEntriesOf]

theorem tally_valid {p : List Byte} {t : Tally} (h : tallyOfBytes p = some t) : Payload.Valid (.tally t) := by
  unfold tallyOfBytes at h
  split at h
  · obtain ⟨first, -, h⟩ := Option.bind_eq_some_iff.1 h
    dsimp only at h
    split at h
    · next counts =>
      obtain ⟨entries, read, made⟩ := Option.bind_eq_some_iff.1 h
      cases made
      rw [← length_tallyEntriesOf read] at counts
      exact counts
    · cases h
  · cases h

theorem segmentRestOf_valid {number count : Nat} {p : List Byte} {rest : Option BodyHeader × List Byte}
    (h : segmentRestOf number count p = some rest) : rest.2.length = 64 ∧
      (match rest.1 with
       | some x => number = 0 ∧ segmentCountOf x.width = count
       | none => number ≠ 0) := by
  unfold segmentRestOf at h
  split at h
  · next first =>
    split at h
    · obtain ⟨w, -, h⟩ := Option.bind_eq_some_iff.1 h
      split at h
      · next fits =>
        cases h
        exact ⟨fits.2, first, fits.1⟩
      · cases h
    · cases h
  · next later =>
    split at h
    · next length =>
      cases h
      exact ⟨length, later⟩
    · cases h

theorem body_valid {p : List Byte} {b : Segment} (h : segmentOfBytes p = some b) : Payload.Valid (.body b) := by
  unfold segmentOfBytes at h
  split at h
  · obtain ⟨n, line, h⟩ := Option.bind_eq_some_iff.1 h
    dsimp only at h
    split at h
    · next counts =>
      obtain ⟨rest, read, made⟩ := Option.bind_eq_some_iff.1 h
      cases made
      obtain ⟨pixels, header⟩ := segmentRestOf_valid read
      exact ⟨le_lastLine_of_lineOfBytes line, counts.1, counts.2, pixels, header⟩
    · cases h
  · cases h

theorem payloadOfBytes_valid {cls kind : Nat} {bytes : List Byte} {p : Payload} (h : payloadOfBytes cls kind bytes = some p) :
    p.Valid := by
  unfold payloadOfBytes at h
  split at h
  case h_8 => cases h
  all_goals obtain ⟨x, read, rfl⟩ := Option.map_eq_some_iff.1 h
  · exact chartOpen_valid read
  · exact chartClose_valid read
  · exact ask_valid read
  · exact decline_valid read
  · exact tally_valid read
  · exact body_valid read
  · trivial

theorem decodeFrame_valid {bytes : List Byte} {f : Frame} (h : decodeFrame bytes = some f) : f.payload.Valid := by
  unfold decodeFrame at h
  split at h
  · dsimp only at h
    split at h
    · split at h
      · obtain ⟨p, read, rfl⟩ := Option.map_eq_some_iff.1 h
        exact payloadOfBytes_valid read
      · cases h
    · cases h
  · cases h

/-! ## The CRC (R48) -/

theorem decodeFrame_of_wrong_crc {covered : List Byte} {high low : Byte} (wrong : high ++ low ≠ crc covered) :
    decodeFrame (covered ++ [high, low]) = none := by
  match covered with
  | [] => simp [decodeFrame]
  | [_] => simp [decodeFrame]
  | b0 :: len :: p => exact (decodeFrame_eq b0 len high low p).trans (if_neg fun ⟨_, _, right⟩ => wrong right)

/-- The register takes a byte from its most significant bit on. -/
theorem crc_append (bytes : List Byte) (b : Byte) : crc (bytes ++ [b]) = crcBits (crc bytes) b 8 := by
  rw [crc, List.foldl_append]
  rfl

/-- Settles O9: each payload's layout reads back field by field, and each reader makes the checks of R52. -/
theorem framesReadBack : Obligations.FramesReadBack :=
  ⟨fun _ valid => decodeFrame_encodeFrame valid, fun _ _ read => decodeFrame_valid read,
    fun _ _ _ wrong => decodeFrame_of_wrong_crc wrong, rfl, fun bytes b => crc_append bytes b⟩

end Sys2Proof.Machine
end

section
/-!
PROOF. How contributors begin and end, and a CLOSE is heard: the statement CloseEndsContributor.
-/
namespace Sys2Proof.Machine

variable {s : State} {c : Nat} {r : ChartRecord}

/-! ## Contributors (R86) -/

theorem listed_iff (st : Station) (l : List Contributor) : listed st l = true ↔ ∃ x ∈ l, x.station = st := by
  simp [listed]

theorem isActive_iff (st : Station) (l : List Contributor) :
    isActive st l = true ↔ ∃ x ∈ l, x.station = st ∧ x.ended = none := by
  simp [isActive]

theorem isEnded_iff (st : Station) (l : List Contributor) :
    isEnded st l = true ↔ ∃ x ∈ l, x.station = st ∧ x.ended ≠ none := by
  simp [isEnded, Option.isSome_iff_ne_none]

/-- The station's own entries with their end changed. -/
def endedBy (st : Station) (f : Option EndCause → Option EndCause) (l : List Contributor) : List Contributor :=
  l.map (fun x => if x.station = st then { x with ended := f x.ended } else x)

theorem contributorActive_listed {st : Station} {l : List Contributor} (h : ∃ x ∈ l, x.station = st) :
    contributorActive st l = endedBy st (fun _ => none) l := if_pos ((listed_iff st l).2 h)

/-- One that ended by CLOSE stays so through a TALLY (R86). -/
theorem contributorTallied_listed {st : Station} {l : List Contributor} (h : ∃ x ∈ l, x.station = st) :
    contributorTallied st l = endedBy st (fun e => if e = some .close then e else none) l := by
  rw [contributorTallied, if_pos ((listed_iff st l).2 h)]
  refine List.map_congr_left fun x _ => ?_
  obtain ⟨station, ended⟩ := x
  by_cases own : station = st <;> by_cases byClose : ended = some .close <;> simp [own, byClose]

theorem contributors_unlisted {st : Station} {l : List Contributor} (h : ∀ x ∈ l, x.station ≠ st) :
    contributorActive st l = l ++ [{ station := st, ended := none }] ∧
    contributorTallied st l = l ++ [{ station := st, ended := none }] := by
  have absent : ¬listed st l = true := fun listed => by
    obtain ⟨x, hx, own⟩ := (listed_iff st l).1 listed
    exact h x hx own
  exact ⟨if_neg absent, if_neg absent⟩

/-- An end with a cause reaches an ACTIVE station only: one that is ENDED keeps its own (R86). -/
theorem contributorEnds_eq (st : Station) (cause : EndCause) (l : List Contributor) :
    contributorEnds st cause l = endedBy st (fun e => some (e.getD cause)) l := by
  refine List.map_congr_left fun x _ => ?_
  obtain ⟨station, ended⟩ := x
  by_cases own : station = st <;> cases ended <;> simp [own]

/-! ## The closing test of a record just changed (R92) -/

theorem State.record?_modifyRecord (record : s.record? c = some r) (g : ChartRecord → ChartRecord) :
    (s.modifyRecord c g).record? c = some (g r) := by
  obtain ⟨sl, found, rfl⟩ := State.slot_of_record record
  simp [State.record?, State.slot?, State.modifyRecord, found]

theorem State.closingTest_changed {g : ChartRecord → ChartRecord} (record : s.record? c = some r)
    (closes : (g r).shouldClose = true) (order : ∀ r, (g r).closeOrder = r.closeOrder) :
    (s.modifyRecord c g).closingTest c = { s with
      slots := Sparse.modify s.slots c (fun sl => { sl with record := (g sl.record).close (s.highestCloseOrder + 1) })
      attention := { s.attention with events := insertEvent ⟨.chartClosed, c⟩ s.attention.events } } := by
  have same : (s.modifyRecord c g).highestCloseOrder = s.highestCloseOrder :=
    s.highestCloseOrder_modify c _ fun sl => order sl.record
  rw [State.closingTest_closes (by simpa [State.closesAt, State.record?_modifyRecord record] using closes), same]
  simp only [State.modifyRecord, State.modifySlot, Sparse.modify_modify]
  rfl

theorem State.closingTest_unmet {g : ChartRecord → ChartRecord} (record : s.record? c = some r)
    (stays : (g r).shouldClose = false) : (s.modifyRecord c g).closingTest c = s.modifyRecord c g :=
  State.closingTest_stays (by simpa [State.closesAt, State.record?_modifyRecord record] using stays)

/-! ## The CLOSE taken (R86, R88, R92) -/

/-- A record that a frame's line raises (R88). -/
theorem ChartRecord.raiseTo_eq (r : ChartRecord) (n : Option Nat) : r.raiseTo n = { r with
    highest := n.elim r.highest (fun n => some (max (r.highest.getD 0) n)) } := by
  cases n with
  | none => rfl
  | some n => exact congrArg (fun h => { r with highest := h }) (raised_eq r.highest n)

/-- The record once its contributor `sender` has ended with the CLOSE `f` (R86). -/
def ChartRecord.endedWith (sender : Station) (f : ChartClose) (r : ChartRecord) : ChartRecord := { r.raiseTo f.lastLine with
  contributors := contributorEnds sender .close r.contributors, lastCloseReason := some f.reason }

theorem ChartRecord.endedWith_shouldClose (sender : Station) (f : ChartClose) (r : ChartRecord) :
    (r.endedWith sender f).shouldClose = (r.state != .closed && !r.bound &&
      (allEnded (contributorEnds sender .close r.contributors) || r.quietFlag)) := by
  rw [ChartRecord.endedWith, ChartRecord.raiseTo_eq]
  rfl

section
variable {sender : Station} {f : ChartClose} (known : s.slotOfKey f.key = some c) (record : s.record? c = some r)
include known record

theorem State.closeHeard_passive (passive : isActive sender r.contributors = false) :
    s.closeHeard sender f = s.modifyRecord c (fun r => r.raiseTo f.lastLine) := by
  simp [State.closeHeard, known, record, passive]

theorem State.closeHeard_active (active : isActive sender r.contributors = true) :
    s.closeHeard sender f = (s.modifyRecord c (ChartRecord.endedWith sender f)).closingTest c := by
  have twice : (s.modifyRecord c (fun r => r.raiseTo f.lastLine)).modifyRecord c (fun r => { r with
      contributors := contributorEnds sender .close r.contributors, lastCloseReason := some f.reason }) =
        s.modifyRecord c (ChartRecord.endedWith sender f) := by
    simp only [State.modifyRecord, State.modifySlot, Sparse.modify_modify, ChartRecord.endedWith, ChartRecord.raiseTo_eq]
  simp only [State.closeHeard, known, record, active, if_true, twice]

end

theorem State.exec_closeReceived {frame : List Byte} {f : Frame} {x : ChartClose} (run : s.config.state = .run)
    (can : s.link.canTakeFrame = true) (good : decodeFrame frame = some f) (payload : f.payload = .chartClose x)
    (peer : f.sender ≠ s.self) :
    exec (.closeReceived frame) s = .next (((s.arrive frame).peerHeard f.sender).closeHeard f.sender x).settle :=
  congrArg _ (s.receive_eq frame f _ _ x run can good (by rw [payload]; rfl) peer)

/-- Settles O44: each change of the contributors is `endedBy`, and the closing test says when the record closes. -/
theorem closeEndsContributor : Obligations.CloseEndsContributor := by
  refine ⟨fun st l => ⟨contributors_unlisted, fun h => ⟨contributorActive_listed h, contributorTallied_listed h⟩,
    fun cause => contributorEnds_eq st cause l, isActive_iff st l, isEnded_iff st l, allEnded_iff l⟩, ?_⟩
  intro s frame f x c r run can good payload peer known record b highest ended
  have slots : b.slots = s.slots := State.peerHeard_arrive_slots ..
  have heard : exec (.closeReceived frame) s = .next (b.closeHeard f.sender x).settle :=
    State.exec_closeReceived run can good payload peer
  have known : b.slotOfKey x.key = some c := by rw [State.slotOfKey, slots]; exact known
  have record : b.record? c = some r := by rw [State.record?, State.slot?, slots]; exact record
  have order : b.highestCloseOrder = s.highestCloseOrder := by rw [State.highestCloseOrder, slots]; rfl
  have raises : ∀ r : ChartRecord, r.raiseTo x.lastLine = { r with highest := highest r.highest } := fun r => by
    rw [ChartRecord.raiseTo_eq]
    cases h : x.lastLine <;> simp [highest, h]
  have ends : ∀ r : ChartRecord, r.endedWith f.sender x = ended r := fun r => by rw [ChartRecord.endedWith, raises]
  clear_value b
  rw [heard, ← slots]
  refine ⟨fun passive => ?_, fun active other loud => ?_, fun active last opened unbound => ?_⟩
  · rw [State.closeHeard_passive known record passive]
    simp only [raises]
    rfl
  · have going : allEnded (contributorEnds f.sender .close r.contributors) = false := by
      obtain ⟨y, hy, another, stays⟩ := other
      refine Bool.eq_false_iff.2 fun all => ?_
      exact ((allEnded_contributorEnds_iff _ _).1 all y hy).elim another fun left => left stays
    rw [State.closeHeard_active known record active,
      State.closingTest_unmet record (by simp [ChartRecord.endedWith_shouldClose, going, loud])]
    simp only [State.modifyRecord, ends]
    rfl
  · have none_left := (allEnded_contributorEnds_iff _ _).2 last
    rw [State.closeHeard_active known record active,
      State.closingTest_changed record (by simp [ChartRecord.endedWith_shouldClose, none_left, opened, unbound]) fun r => by rw [ends], order]
    simp only [ends]
    rfl

end Sys2Proof.Machine
end

section
/-!
PROOF. A quiet timer and a deferral run out: the statement ChartTimersExpire.
-/
namespace Sys2Proof.Machine

variable {s : State} {c deadline : Nat} {r : ChartRecord}

/-- The record once its quiet timer has run out (R93). -/
def ChartRecord.quieted (r : ChartRecord) : ChartRecord := { r with quietFlag := true, quietDeadline := none }

/-- With the quiet flag set a record closes that is neither bound nor CLOSED (R92). -/
theorem ChartRecord.quieted_shouldClose (r : ChartRecord) : r.quieted.shouldClose = (r.state != .closed && !r.bound) := by
  simp [ChartRecord.shouldClose, ChartRecord.quieted]

theorem State.quietExpires_stays (record : s.record? c = some r) (stays : r.bound = true ∨ r.state = .closed) :
    s.quietExpires c deadline = (s.reach deadline).modifyRecord c ChartRecord.quieted :=
  State.closingTest_unmet (s := s.reach deadline) (g := ChartRecord.quieted) record
    (by rcases stays with h | h <;> simp [ChartRecord.quieted_shouldClose, h])

theorem State.quietExpires_closes (record : s.record? c = some r) (free : r.bound = false) (stands : r.state ≠ .closed) :
    s.quietExpires c deadline = { s with
      now := max s.now deadline
      slots := Sparse.modify s.slots c (fun sl => { sl with record := sl.record.quieted.close (s.highestCloseOrder + 1) })
      attention := { s.attention with events := insertEvent ⟨.chartClosed, c⟩ s.attention.events } } :=
  State.closingTest_changed (s := s.reach deadline) (g := ChartRecord.quieted) record
    (by simp [ChartRecord.quieted_shouldClose, free, stands]) fun _ => rfl

theorem State.exec_quietTimerExpiry (run : s.config.state = .run) (record : s.record? c = some r)
    (timed : r.quietDeadline = some deadline) : exec (.quietTimerExpiry c) s = .next (s.quietExpires c deadline).settle := by
  simp [exec, execQuietTimerExpiry, State.whenRunning, State.running_of run, record, timed]

theorem State.exec_deferralExpiry {line : Nat} {row : HolderRow} (run : s.config.state = .run)
    (found : s.row? c line = some row) (deferred : row.deferral = some deadline) : exec (.deferralExpiry c line) s =
      .next ((s.reach deadline).modifyRow c line (fun r => { r with deferral := none })).settle := by
  simp [exec, execDeferralExpiry, State.whenRunning, State.running_of run, found, deferred]

/-- Settles O51: the quiet flag decides the closing test, and a deferral that runs out leaves its row. -/
theorem chartTimersExpire : Obligations.ChartTimersExpire := by
  intro s c deadline r run record
  refine ⟨fun timed => ⟨fun stays => ?_, fun free stands => ?_⟩, fun line row found deferred => ?_⟩
  · rw [State.exec_quietTimerExpiry run record timed, State.quietExpires_stays record stays]
    rfl
  · rw [State.exec_quietTimerExpiry run record timed, State.quietExpires_closes record free stands]
    rfl
  · rw [State.exec_deferralExpiry run found deferred]
    rfl

end Sys2Proof.Machine
end

section
/-!
PROOF. A TALLY in the holder map: what its entries do to the rows, and what each does to its own.
-/
namespace Sys2Proof.Machine

/-! ## One row (R115) -/

section
variable {r : HolderRow} {st : Station} {g : Nat}

/-- The row `r` as `u`: a different best holder clears the attempts and the exhausted flag (R115). -/
def HolderRow.renewed (r u : HolderRow) : HolderRow :=
  if u.best.map Holder.station = r.best.map Holder.station then u else { u with attempts := 0, exhausted := false }

theorem HolderRow.tallied_listed (h : r.lists st = true) : r.tallied st g = r.renewed (r.regrade st g) := by
  rw [HolderRow.tallied, if_pos h]
  rfl

theorem HolderRow.tallied_unlisted (h : ¬r.lists st = true) : r.tallied st g = r.renewed (r.enter st g) := by
  rw [HolderRow.tallied, if_neg h]
  rfl

theorem HolderRow.tallied_empty (best : r.best = none) (second : r.second = none) :
    r.tallied st g = { r with best := some ⟨st, g⟩, attempts := 0, exhausted := false } := by
  rw [HolderRow.tallied_unlisted (by simp [HolderRow.lists, best, second])]
  simp [HolderRow.enter, HolderRow.renewed, best]

section
variable {b : Holder} (best : r.best = some b)
include best

section
variable (other : b.station ≠ st) (others : ∀ x, r.second = some x → x.station ≠ st)
include other others

theorem HolderRow.not_lists : ¬r.lists st = true := by
  rw [HolderRow.lists_iff]
  rintro ⟨x, isBest | isSecond, own⟩
  · obtain rfl := Option.some.inj (best.symm.trans isBest)
    exact other own
  · exact others x isSecond own

theorem HolderRow.tallied_enters_best (better : b.grade < g) : r.tallied st g =
    { r with best := some ⟨st, g⟩, second := some b, attempts := 0, exhausted := false } := by
  rw [HolderRow.tallied_unlisted (HolderRow.not_lists best other others)]
  simp [HolderRow.enter, HolderRow.renewed, best, better, other.symm]

theorem HolderRow.tallied_enters_second (worse : g ≤ b.grade) (room : ∀ x, r.second = some x → x.grade < g) :
    r.tallied st g = { r with second := some ⟨st, g⟩ } := by
  have below : r.second.all (fun x => decide (x.grade < g)) = true :=
    (Option.all_eq_true _ _).2 fun x second => decide_eq_true (room x second)
  rw [HolderRow.tallied_unlisted (HolderRow.not_lists best other others)]
  simp [HolderRow.enter, HolderRow.renewed, best, Nat.not_lt.2 worse, below]

theorem HolderRow.tallied_stands {x : Holder} (worse : g ≤ b.grade) (second : r.second = some x) (full : g ≤ x.grade) :
    r.tallied st g = r := by
  rw [HolderRow.tallied_unlisted (HolderRow.not_lists best other others)]
  simp [HolderRow.enter, HolderRow.renewed, best, Nat.not_lt.2 worse, second, Nat.not_lt.2 full]

end

section
variable (own : b.station = st)
include own

theorem HolderRow.lists_best : r.lists st = true := (HolderRow.lists_iff r st).2 ⟨b, .inl best, own⟩

theorem HolderRow.given_best : Holder.given st g r.best = some ⟨st, g⟩ := by
  subst own
  simp [Holder.given, best]

theorem HolderRow.tallied_best_stays (below : ∀ x, r.second = some x → x.station ≠ st ∧ x.grade ≤ g) :
    r.tallied st g = { r with best := some ⟨st, g⟩ } := by
  have given := HolderRow.given_best (g := g) best own
  rw [HolderRow.tallied_listed (HolderRow.lists_best best own)]
  cases second : r.second with
  | none =>
    rw [HolderRow.regrade_few (.inr second), given, second]
    simp [HolderRow.renewed, Holder.given, best, own]
  | some x =>
    obtain ⟨other, most⟩ := below x second
    rw [HolderRow.regrade_two given (x := x) (by simp [Holder.given, second, other]), if_neg (Nat.not_lt.2 most)]
    simp [HolderRow.renewed, best, own]

theorem HolderRow.tallied_best_falls {x : Holder} (second : r.second = some x) (other : x.station ≠ st) (above : g < x.grade) :
    r.tallied st g = { r with best := some x, second := some ⟨st, g⟩, attempts := 0, exhausted := false } := by
  rw [HolderRow.tallied_listed (HolderRow.lists_best best own),
    HolderRow.regrade_two (HolderRow.given_best best own) (x := x) (by simp [Holder.given, second, other]), if_pos above]
  simp [HolderRow.renewed, best, own, other]

end

section
variable {x : Holder} (second : r.second = some x) (other : b.station ≠ st) (own : x.station = st)
include second other own

theorem HolderRow.tallied_second : r.tallied st g = r.renewed (if b.grade < g then
    { r with best := some ⟨st, g⟩, second := some b } else { r with second := some ⟨st, g⟩ }) := by
  subst own
  rw [HolderRow.tallied_listed ((HolderRow.lists_iff r x.station).2 ⟨x, .inr second, rfl⟩),
    HolderRow.regrade_two (b := b) (x := ⟨x.station, g⟩) (by simp [Holder.given, best, other]) (by simp [Holder.given, second]),
    ← best]

theorem HolderRow.tallied_second_stays (worse : g ≤ b.grade) : r.tallied st g = { r with second := some ⟨st, g⟩ } := by
  rw [HolderRow.tallied_second best second other own, if_neg (Nat.not_lt.2 worse)]
  simp [HolderRow.renewed]

theorem HolderRow.tallied_second_rises (better : b.grade < g) : r.tallied st g =
    { r with best := some ⟨st, g⟩, second := some b, attempts := 0, exhausted := false } := by
  rw [HolderRow.tallied_second best second other own, if_pos better]
  simp [HolderRow.renewed, best, other.symm]

end

end

end

/-! ## The rows of a TALLY's lines (R115) -/

@[simp] theorem Slot.row_setRow_same (sl : Slot) (n : Nat) (r : HolderRow) : (sl.setRow n r).row n = r := by
  unfold Slot.setRow Slot.row
  split
  · rename_i empty
    simp [empty]
  · simp

theorem Slot.row_setRow_other (sl : Slot) (r : HolderRow) {n m : Nat} (other : m ≠ n) : (sl.setRow n r).row m = sl.row m := by
  unfold Slot.setRow Slot.row
  split
  · simp only [Sparse.find_erase_other _ _ _ other]
  · simp only [Sparse.find_put_other _ _ _ _ other]

/-- The rows after one entry, for line `n` (R115). -/
def Slot.tallyRow (sl : Slot) (st : Station) (n : Nat) (x : TallyEntry) : Slot :=
  if x.grade = 0 then sl else sl.setRow n ((sl.row n).tallied st x.grade.toNat)

theorem Slot.tallyRows_cons (sl : Slot) (st : Station) (n : Nat) (x : TallyEntry) (l : List TallyEntry) :
    sl.tallyRows st n (x :: l) = (sl.tallyRow st n x).tallyRows st (n + 1) l := rfl

theorem Slot.row_tallyRow_same (sl : Slot) (st : Station) (n : Nat) (x : TallyEntry) :
    (sl.tallyRow st n x).row n = if x.grade = 0 then sl.row n else (sl.row n).tallied st x.grade.toNat := by
  unfold Slot.tallyRow
  split <;> simp

theorem Slot.row_tallyRow_other (sl : Slot) (st : Station) {n m : Nat} (x : TallyEntry) (other : m ≠ n) :
    (sl.tallyRow st n x).row m = sl.row m := by
  unfold Slot.tallyRow
  split
  · rfl
  · exact sl.row_setRow_other _ other

/-- The entries change the rows alone. -/
theorem Slot.tallyRows_eq (sl : Slot) (st : Station) (n : Nat) (l : List TallyEntry) :
    sl.tallyRows st n l = { sl with rows := (sl.tallyRows st n l).rows } := by
  induction l generalizing sl n with
  | nil => rfl
  | cons x l ih =>
    have kept : (sl.tallyRow st n x).record = sl.record ∧ (sl.tallyRow st n x).entries = sl.entries := by
      unfold Slot.tallyRow
      split <;> exact ⟨rfl, rfl⟩
    rw [Slot.tallyRows_cons, ih, kept.1, kept.2]

theorem Slot.row_tallyRows_outside (sl : Slot) (st : Station) {n m : Nat} {l : List TallyEntry} (outside : m < n ∨ n + l.length ≤ m) :
    (sl.tallyRows st n l).row m = sl.row m := by
  induction l generalizing sl n with
  | nil => rfl
  | cons x l ih =>
    rw [List.length_cons] at outside
    rw [Slot.tallyRows_cons, ih _ (by omega), Slot.row_tallyRow_other _ _ _ (by omega)]

theorem Slot.row_tallyRows (sl : Slot) (st : Station) {n i : Nat} {l : List TallyEntry} {x : TallyEntry} (entry : l[i]? = some x) :
    (sl.tallyRows st n l).row (n + i) =
      if x.grade = 0 then sl.row (n + i) else (sl.row (n + i)).tallied st x.grade.toNat := by
  induction l generalizing sl n i with
  | nil => simp at entry
  | cons y l ih =>
    rw [Slot.tallyRows_cons]
    cases i with
    | zero =>
      obtain rfl : y = x := by simpa using entry
      rw [Slot.row_tallyRows_outside _ _ (by omega), Nat.add_zero, Slot.row_tallyRow_same]
    | succ i =>
      rw [show n + (i + 1) = n + 1 + i by omega, ih _ (by simpa using entry), Slot.row_tallyRow_other _ _ _ (by omega)]

end Sys2Proof.Machine
end

section
/-!
PROOF. A TALLY in the ALIGNMENT UNIT: the references that its entries become, the distances of the held lines, and the decision.
-/
namespace Sys2Proof.Machine

/-! ## References (R101) -/

section
variable {e threshold : Nat} {st : Station}

/-- Entry `i` of a TALLY whose first line is `n` becomes a reference: its line lies in the window, its grade at the threshold (R101). -/
def refersIn (e threshold n : Nat) (l : List TallyEntry) (i : Nat) (x : TallyEntry) : Prop :=
  l[i]? = some x ∧ threshold ≤ x.grade.toNat ∧ e ≤ n + i + 2 ∧ n + i ≤ e + 65 ∧ n + i ≤ 2047

/-- The reference that an entry for line `n` becomes. -/
def referenceOf (st : Station) (n : Nat) (x : TallyEntry) : Reference :=
  { line := n, station := st, grade := x.grade.toNat, fingerprint := x.fingerprint }

theorem refersIn_zero_iff (n : Nat) (x y : TallyEntry) (l : List TallyEntry) : refersIn e threshold n (x :: l) 0 y ↔
    x = y ∧ (inWindow e n && decide (threshold ≤ x.grade.toNat)) = true := by
  simp only [refersIn, inWindow, List.getElem?_cons_zero, Option.some.injEq, Nat.add_zero, Bool.and_eq_true, decide_eq_true_eq]
  constructor
  · rintro ⟨rfl, grade, window⟩
    exact ⟨rfl, ⟨⟨window.1, window.2.1⟩, window.2.2⟩, grade⟩
  · rintro ⟨rfl, ⟨⟨low, high⟩, last⟩, grade⟩
    exact ⟨rfl, grade, low, high, last⟩

theorem refersIn_succ_iff (n i : Nat) (x y : TallyEntry) (l : List TallyEntry) :
    refersIn e threshold n (x :: l) (i + 1) y ↔ refersIn e threshold (n + 1) l i y := by
  simp only [refersIn, List.getElem?_cons_succ, show n + (i + 1) = n + 1 + i by omega]

/-- What an entry of a list that becomes a reference is: the first, or one behind it. -/
theorem exists_refersIn_cons {P : Nat → TallyEntry → Prop} (n : Nat) (x : TallyEntry) (l : List TallyEntry) :
    (∃ i y, refersIn e threshold n (x :: l) i y ∧ P (n + i) y) ↔
      ((inWindow e n && decide (threshold ≤ x.grade.toNat)) = true ∧ P n x) ∨
        ∃ i y, refersIn e threshold (n + 1) l i y ∧ P (n + 1 + i) y := by
  constructor
  · rintro ⟨_ | i, y, refers, holds⟩
    · obtain ⟨rfl, here⟩ := (refersIn_zero_iff n x y l).1 refers
      exact .inl ⟨here, holds⟩
    · exact .inr ⟨i, y, (refersIn_succ_iff n i x y l).1 refers, by rwa [show n + 1 + i = n + (i + 1) by omega]⟩
  · rintro (⟨here, holds⟩ | ⟨i, y, refers, holds⟩)
    · exact ⟨0, x, (refersIn_zero_iff n x x l).2 ⟨rfl, here⟩, holds⟩
    · exact ⟨i + 1, y, (refersIn_succ_iff n i x y l).2 refers, by rwa [show n + (i + 1) = n + 1 + i by omega]⟩

theorem tallyRelevant_iff (n : Nat) (l : List TallyEntry) :
    tallyRelevant e threshold n l = true ↔ ∃ i x, refersIn e threshold n l i x := by
  induction l generalizing n with
  | nil => simp [tallyRelevant, refersIn]
  | cons x l ih =>
    have first := exists_refersIn_cons (e := e) (threshold := threshold) (P := fun _ _ => True) n x l
    simp only [and_true] at first
    rw [tallyRelevant, Bool.or_eq_true, ih, first]

theorem mem_setReference (refs : List Reference) (x y : Reference) :
    y ∈ setReference refs x ↔ (y ∈ refs ∧ ¬(y.station = x.station ∧ y.line = x.line)) ∨ y = x := by
  simp only [setReference, List.mem_append, List.mem_filter, List.mem_singleton, Bool.not_eq_true', Bool.and_eq_false_iff,
    decide_eq_false_iff_not]
  tauto

/-- An entry that refers replaces its sender's reference for its line, and all others stand (R101). -/
theorem mem_tallyReferences (n : Nat) (l : List TallyEntry) (refs : List Reference) (y : Reference) :
    y ∈ tallyReferences e threshold st n l refs ↔
      (y ∈ refs ∧ ¬(y.station = st ∧ ∃ i x, refersIn e threshold n l i x ∧ y.line = n + i)) ∨
        ∃ i x, refersIn e threshold n l i x ∧ y = referenceOf st (n + i) x := by
  induction l generalizing n refs with
  | nil => simp [tallyReferences, refersIn]
  | cons x l ih =>
    rw [exists_refersIn_cons (P := fun k _ => y.line = k), exists_refersIn_cons (P := fun k x => y = referenceOf st k x)]
    simp only [tallyReferences]
    rw [ih]
    by_cases here : (inWindow e n && decide (threshold ≤ x.grade.toNat)) = true
    · have apart : y = referenceOf st n x → ¬∃ i x, refersIn e threshold (n + 1) l i x ∧ y.line = n + 1 + i := by
        rintro rfl ⟨i, x, -, same⟩
        simp only [referenceOf] at same
        omega
      rw [if_pos here, mem_setReference]
      simp only [here, true_and]
      change ((_ ∧ ¬(_ ∧ y.line = n)) ∨ y = referenceOf st n x) ∧ _ ∨ _ ↔ _
      generalize (y = referenceOf st n x) = new, (∃ i x, refersIn e threshold (n + 1) l i x ∧ y.line = n + 1 + i) = later at *
      tauto
    · rw [if_neg here]
      simp only [here, Bool.false_eq_true, false_and, false_or]

/-- With no entry that refers the references stand. -/
theorem tallyReferences_none {n : Nat} {l : List TallyEntry} (none_refers : ∀ i x, ¬refersIn e threshold n l i x)
    (refs : List Reference) : tallyReferences e threshold st n l refs = refs := by
  induction l generalizing n refs with
  | nil => rfl
  | cons x l ih =>
    have here : ¬(inWindow e n && decide (threshold ≤ x.grade.toNat)) = true := fun here =>
      none_refers 0 x ((refersIn_zero_iff n x x l).2 ⟨rfl, here⟩)
    rw [tallyReferences, if_neg here]
    exact ih (fun i y refers => none_refers (i + 1) y ((refersIn_succ_iff n i x y l).2 refers)) refs

end

/-! ## Distances (R6, R103) -/

theorem differingBits_eq (a b : Fingerprint) (n : Nat) :
    differingBits a b n = ((List.range n).filter (fun i => a.getLsbD i != b.getLsbD i)).length := by
  induction n with
  | zero => rfl
  | succ n ih =>
    rw [differingBits, ih, List.range_succ, List.filter_append, List.length_append]
    by_cases same : a.getLsbD n = b.getLsbD n <;> simp [same, Nat.add_comm]

theorem trialDistances_eq (threshold : Nat) (held : List HeldLine) (refs : List Reference) (d : Int) :
    trialDistances threshold held refs d = held.filterMap (fun h =>
      if threshold ≤ h.grade ∧ 0 ≤ h.ownIndex + d ∧ h.ownIndex + d ≤ 2047 then
        (bestReference refs (h.ownIndex + d).toNat).map (fun r =>
          ((List.range 16).filter (fun i => h.fingerprint.getLsbD i != r.fingerprint.getLsbD i)).length)
      else none) := by
  refine List.filterMap_congr fun h _ => ?_
  by_cases good : threshold ≤ h.grade <;> by_cases line : 0 ≤ h.ownIndex + d ∧ h.ownIndex + d ≤ 2047 <;>
    simp [good, line, chartLine, hamming, differingBits_eq]

theorem firstGreatest_le {α : Type} {f : α → Nat} {l : List α} {x : α} (h : firstGreatest f l = some x) : ∀ y ∈ l, f y ≤ f x := by
  induction l generalizing x with
  | nil => cases h
  | cons z l ih =>
    simp only [firstGreatest] at h
    cases rest : firstGreatest f l with
    | none =>
      obtain rfl := (firstGreatest_eq_none f l).1 rest
      obtain rfl : z = x := by simpa [rest] using h
      simp
    | some u =>
      have below := ih rest
      rw [rest] at h
      dsimp only at h
      by_cases wins : f u ≤ f z
      · obtain rfl : z = x := by simpa [wins] using h
        exact List.forall_mem_cons.2 ⟨le_rfl, fun y hy => (below y hy).trans wins⟩
      · obtain rfl : u = x := by simpa [wins] using h
        exact List.forall_mem_cons.2 ⟨(Nat.lt_of_not_le wins).le, below⟩

theorem bestReference_none_iff (refs : List Reference) (n : Nat) : bestReference refs n = none ↔ ∀ x ∈ refs, x.line ≠ n := by
  simp [bestReference, firstGreatest_eq_none]

/-- The best reference has the highest grade, and the lowest station among those of that grade (R103). -/
theorem bestReference_best {refs : List Reference} {n : Nat} {r : Reference} (best : bestReference refs n = some r) :
    r ∈ refs ∧ r.line = n ∧ ∀ x ∈ refs, x.line = n → x.grade < r.grade ∨ x.grade = r.grade ∧ r.station.val ≤ x.station.val := by
  obtain ⟨mem, line⟩ := List.mem_filter.1 (mem_of_firstGreatest best)
  refine ⟨mem, of_decide_eq_true line, fun x hx same => ?_⟩
  have rank := firstGreatest_le best x (List.mem_filter.2 ⟨hx, decide_eq_true same⟩)
  have high := x.station.isLt
  have low := r.station.isLt
  omega

/-! ## The decision (R103, R104) -/

section
variable {e : Nat}

theorem Trial.beats_iff (a b : Trial) : a.beats e b = true ↔ a.sum * b.count < b.sum * a.count ∨
    a.sum * b.count = b.sum * a.count ∧ ((a.offset - e).natAbs < (b.offset - e).natAbs ∨
      (a.offset - e).natAbs = (b.offset - e).natAbs ∧ a.offset < b.offset) := by
  simp [Trial.beats]

theorem Trial.not_beats {a b : Trial} (wins : a.beats e b = true) : ¬b.beats e a = true := by
  rw [Trial.beats_iff] at wins ⊢
  omega

theorem mem_of_bestTrial {l : List Trial} {t : Trial} (best : bestTrial e l = some t) : t ∈ l := by
  induction l generalizing t with
  | nil => cases best
  | cons u l ih =>
    simp only [bestTrial] at best
    cases rest : bestTrial e l with
    | none =>
      obtain rfl : u = t := by simpa [rest] using best
      exact List.mem_cons_self
    | some v =>
      rw [rest] at best
      dsimp only at best
      split at best
      · obtain rfl := Option.some.inj best
        exact List.mem_cons_of_mem _ (ih rest)
      · obtain rfl := Option.some.inj best
        exact List.mem_cons_self

theorem bestTrial_eq {l : List Trial} {t : Trial} (mem : t ∈ l) (wins : ∀ u ∈ l, u ≠ t → t.beats e u = true) :
    bestTrial e l = some t := by
  induction l with
  | nil => cases mem
  | cons u l ih =>
    obtain ⟨first, others⟩ := List.forall_mem_cons.1 wins
    simp only [bestTrial]
    by_cases here : u = t
    · subst here
      cases rest : bestTrial e l with
      | none => rfl
      | some v =>
        by_cases same : v = u
        · simp [same]
        · exact if_neg (Trial.not_beats (others v (mem_of_bestTrial rest) same))
    · rw [ih ((List.mem_cons.1 mem).resolve_left (Ne.symm here)) others]
      exact if_pos (first here)

end

theorem mem_trialOffsets_iff {e : Nat} {d : Int} : d ∈ trialOffsets e ↔ (d - e).natAbs ≤ 2 := by
  refine ⟨fun mem => ?_, mem_trialOffsets⟩
  simp only [trialOffsets, List.mem_cons, List.not_mem_nil, or_false] at mem
  omega

section
variable {s : State} {c : Nat}

/-- The distances of the held lines at an offset, as the unit has them (R103). -/
def State.distances (s : State) (d : Int) : List Nat :=
  trialDistances s.alignThreshold s.alignment.provisional s.alignment.references d

/-- The trial at an offset. -/
def State.trialAt (s : State) (d : Int) : Trial :=
  trialOf s.alignThreshold s.alignment.provisional s.alignment.references d

theorem State.forall_trials_iff (P : Trial → Prop) : (∀ t ∈ s.trials, P t) ↔
    ∀ d : Int, (d - s.alignment.expected).natAbs ≤ 2 → P (s.trialAt d) := by
  simp only [State.trials, List.forall_mem_map, mem_trialOffsets_iff]
  rfl

theorem State.trialAt_eligible_iff (d : Int) : (s.trialAt d).eligible = true ↔ 6 ≤ (s.distances d).length :=
  decide_eq_true_iff

/-- 64 lines were handed, or every trial offset is eligible (R103). -/
def State.decisionDue (s : State) : Prop :=
  64 ≤ s.alignment.handed ∨ ∀ d : Int, (d - s.alignment.expected).natAbs ≤ 2 → 6 ≤ (s.distances d).length

theorem State.decides_iff : (s.trials.all Trial.eligible || decide (64 ≤ s.alignment.handed)) = true ↔ s.decisionDue := by
  rw [Bool.or_eq_true, List.all_eq_true, State.forall_trials_iff, decide_eq_true_eq, or_comm, State.decisionDue]
  simp only [State.trialAt_eligible_iff]

section
variable (collecting : s.alignment.state = .collecting) (unit : s.alignment.slot = some c)
include collecting unit

/-- In COLLECTING the decision comes when every offset is eligible or 64 lines were handed (R103). -/
theorem State.evaluate_due (due : s.decisionDue) : s.evaluate = s.alignDecision c := by
  simp [State.evaluate, collecting, unit, State.decides_iff.2 due]

theorem State.evaluate_early (early : ¬s.decisionDue) : s.evaluate = s := by
  simp [State.evaluate, collecting, unit, mt State.decides_iff.1 early]

end

/-- With no eligible offset the chart is split (R104). -/
theorem State.alignDecision_none (few : ∀ d : Int, (d - s.alignment.expected).natAbs ≤ 2 → (s.distances d).length < 6) :
    s.alignDecision c = s.askSplit c := by
  have none_eligible : s.trials.filter Trial.eligible = [] := List.filter_eq_nil_iff.2 <|
    (State.forall_trials_iff _).2 fun d near => by rw [State.trialAt_eligible_iff]; exact Nat.not_le.2 (few d near)
  rw [State.alignDecision, none_eligible]
  rfl

/-- The eligible offset that beats the other eligible ones is judged by its mean distance (R104). -/
theorem State.alignDecision_best {d : Int} (near : (d - s.alignment.expected).natAbs ≤ 2) (enough : 6 ≤ (s.distances d).length)
    (wins : ∀ d' : Int, (d' - s.alignment.expected).natAbs ≤ 2 → d' ≠ d → 6 ≤ (s.distances d').length →
      (s.trialAt d).beats s.alignment.expected (s.trialAt d') = true) :
    s.alignDecision c = if (s.distances d).sum ≤ 3 * (s.distances d).length then s.acceptOffset c d else s.askSplit c := by
  have best : bestTrial s.alignment.expected (s.trials.filter Trial.eligible) = some (s.trialAt d) := by
    refine bestTrial_eq (List.mem_filter.2
      ⟨List.mem_map_of_mem (mem_trialOffsets near), (State.trialAt_eligible_iff d).2 enough⟩) fun u hu other => ?_
    obtain ⟨mem, eligible⟩ := List.mem_filter.1 hu
    obtain ⟨d', hd', rfl⟩ := List.mem_map.1 mem
    exact wins d' (mem_trialOffsets_iff.1 hd') (fun same => other (same ▸ rfl)) ((State.trialAt_eligible_iff d').1 eligible)
  rw [State.alignDecision, best]
  rfl

/-! ## The accepted offset (R90, R105) -/

/-- The held line's chart line at offset `d` lies in the chart. -/
def HeldLine.inChart (d : Int) (h : HeldLine) : Bool := decide (0 ≤ h.ownIndex + d ∧ h.ownIndex + d ≤ 2047)

/-- The held lines that move, each with its target (R105). -/
def movingTo (d : Int) (held : List HeldLine) : List (HeldLine × Nat) :=
  (held.filter (HeldLine.inChart d)).map (fun h => (h, (h.ownIndex + d).toNat))

theorem chartLine_eq (d : Int) (h : HeldLine) :
    chartLine (h.ownIndex + d) = if h.inChart d then some (h.ownIndex + d).toNat else none := by
  simp [chartLine, HeldLine.inChart]

theorem movingTo_eq (d : Int) (held : List HeldLine) :
    held.filterMap (fun h => (chartLine (h.ownIndex + d)).map (fun n => (h, n))) = movingTo d held := by
  rw [movingTo, ← List.filterMap_eq_map', List.filterMap_filter]
  refine List.filterMap_congr fun h _ => ?_
  cases inside : h.inChart d <;> simp [chartLine_eq, inside]

/-- The pool entries of the held lines beyond the chart (R105). -/
def entriesBeyond (d : Int) (held : List HeldLine) : List Nat := (held.filter (fun h => !h.inChart d)).map HeldLine.entry

theorem entriesBeyond_eq (d : Int) (held : List HeldLine) :
    (held.filter (fun h => (chartLine (h.ownIndex + d)).isNone)).map HeldLine.entry = entriesBeyond d held := by
  refine congrArg _ (List.filter_congr fun h _ => ?_)
  cases inside : h.inChart d <;> simp [chartLine_eq, inside]

/-- The unit moves the held lines at offset `d`; with none to move it is IDLE (R105, R106). -/
def Alignment.movedTo (a : Alignment) (c : Nat) (d : Int) : Alignment :=
  { a with
    state := if movingTo d a.provisional = [] then .idle else .migrating
    slot := if movingTo d a.provisional = [] then none else some c
    key := if movingTo d a.provisional = [] then none else a.key
    provisional := [], references := [], migration := movingTo d a.provisional }

theorem State.settleMigration_moved {a : Alignment} (unit : a.slot = some c) (d : Int) : State.settleMigration { s with
    alignment := { a with
      state := .migrating, provisional := [], references := [], migration := movingTo d a.provisional } } =
        { s with alignment := a.movedTo c d } := by
  unfold State.settleMigration Alignment.movedTo
  by_cases none_moves : movingTo d a.provisional = []
  · rw [if_pos (by simp [none_moves])]
    simp only [if_pos none_moves]
  · rw [if_neg (by simp [none_moves])]
    simp only [if_neg none_moves, ← unit]

/-- The record is OPEN with the offset, CHART_ALIGNED is posted, and the lines beyond the chart are freed (R90, R105). -/
def State.alignedAt (s : State) (c : Nat) (d : Int) : State :=
  ((s.modifyRecord c (fun r => { r with state := .opened, offset := some d, expected := none })).post .chartAligned c).freePools
    (entriesBeyond d s.alignment.provisional)

theorem State.acceptOffset_eq (unit : s.alignment.slot = some c) (d : Int) :
    s.acceptOffset c d = { s.alignedAt c d with alignment := s.alignment.movedTo c d } := by
  rw [← State.settleMigration_moved unit]
  unfold State.acceptOffset State.alignedAt
  simp only [State.freePools_eq, State.post_alignment, State.modifyRecord_alignment, entriesBeyond_eq, movingTo_eq]

end

end Sys2Proof.Machine
end

section
/-!
PROOF. A TALLY is heard: what the blocks make of it in turn, and the statement TallyUpdatesChart.
-/
namespace Sys2Proof.Machine

variable {s b x : State} {c : Nat} {sender : Station} {t : Tally}

/-! ## The directory and the holder map (R86 to R88, R93, R115) -/

/-- The slot of a key, after a change that keeps every key. -/
theorem State.slotOfKey_modifySlot (s : State) (c : Nat) {f : Slot → Slot} (keeps : ∀ sl, (f sl).record.key = sl.record.key)
    (k : Key) : (s.modifySlot c f).slotOfKey k = s.slotOfKey k := by
  have same : ∀ p : Nat × Slot, (if p.1 = c then (p.1, f p.2) else p).2.record.key = p.2.record.key ∧
      (if p.1 = c then (p.1, f p.2) else p).1 = p.1 := fun p => by
    by_cases here : p.1 = c <;> simp [here, keeps]
  simp only [State.slotOfKey, State.modifySlot_slots, Sparse.modify, List.find?_map, Option.map_map, Function.comp_def, same]

/-- The record once a TALLY is heard at time `now` and sample `sample` (R86 to R88, R93). -/
def ChartRecord.talliedBy (sender : Station) (t : Tally) (now sample quiet : Nat) (r : ChartRecord) : ChartRecord := { r with
  contributors := contributorTallied sender r.contributors
  lastTally := some { time := now, sample := sample, lastLine := t.first + t.entries.length - 1, age := t.age.val }
  highest := some (max (r.highest.getD 0) (t.first + t.entries.length - 1))
  quietDeadline := if r.state = .closed then r.quietDeadline else some (now + quiet)
  quietFlag := if r.state = .closed then r.quietFlag else false }

theorem State.tallyHeard_known (known : s.slotOfKey t.key = some c) : s.tallyHeard sender t =
    s.modifyRecord c (ChartRecord.talliedBy sender t s.now s.reception.sampleCount s.quietTime) := by
  simp only [State.tallyHeard, known]
  congr 1
  funext r
  simp only [ChartRecord.restartQuiet, ChartRecord.raise, raised_eq, ChartRecord.talliedBy]
  by_cases closed : r.state = .closed <;> simp [closed]

/-- The slot with its record and then its rows updated. -/
def Slot.talliedBy (sender : Station) (t : Tally) (now sample quiet : Nat) (sl : Slot) : Slot :=
  ({ sl with record := sl.record.talliedBy sender t now sample quiet } : Slot).tallyRows sender t.first t.entries

theorem Slot.talliedBy_hold (now sample quiet : Nat) (sl : Slot) :
    (sl.talliedBy sender t now sample quiet).record.hold = sl.record.hold := by
  rw [Slot.talliedBy, Slot.tallyRows_eq]
  rfl

/-- The state once the directory and the holder map have the TALLY. -/
def State.tallyTaken (s : State) (c : Nat) (sender : Station) (t : Tally) : State :=
  s.modifySlot c (Slot.talliedBy sender t s.now s.reception.sampleCount s.quietTime)

theorem State.tally_known (known : s.slotOfKey t.key = some c) :
    (s.tallyHeard sender t).tallyHolders sender t = s.tallyTaken c sender t := by
  have still : (s.tallyHeard sender t).slotOfKey t.key = some c := by
    rw [State.tallyHeard_known known]
    exact (s.slotOfKey_modifySlot c (f := fun sl => { sl with
      record := sl.record.talliedBy sender t s.now s.reception.sampleCount s.quietTime }) (fun _ => rfl) t.key).trans known
  simp only [State.tallyHolders, still]
  rw [State.tallyHeard_known known]
  simp only [State.modifyRecord, State.modifySlot, Sparse.modify_modify, State.tallyTaken]
  rfl

theorem State.tally_unknown (unknown : s.slotOfKey t.key = none) : (s.tallyHeard sender t).tallyHolders sender t = s := by
  have same : s.tallyHeard sender t = s := by simp [State.tallyHeard, unknown]
  simp [same, State.tallyHolders, unknown]

/-- A TALLY makes nothing wait for the LINE TABLE (R31). -/
theorem State.candidateWaits_tallyTaken (s : State) (c : Nat) (sender : Station) (t : Tally) :
    (s.tallyTaken c sender t).candidateWaits = s.candidateWaits :=
  State.candidateWaits_congr rfl rfl rfl rfl rfl rfl <| State.nextMerge_congr rfl <|
    State.hold_modify s.slots c _ (fun sl => sl.talliedBy_hold s.now s.reception.sampleCount s.quietTime) rfl rfl

theorem State.candidateWaits_peerHeard_arrive (s : State) (frame : List Byte) (p : Station) :
    ((s.arrive frame).peerHeard p).candidateWaits = s.candidateWaits :=
  State.candidateWaits_congr (by simp) (by simp) (by simp) (by simp) (by simp) (by simp) <|
    State.nextMerge_congr (by simp) fun d => by rw [State.hold, State.record?, State.slot?, State.peerHeard_arrive_slots]; rfl

/-! ## The ALIGNMENT UNIT (R101, R103) -/

/-- The unit collects nothing for the key, and no split clear that waits can be carried out. -/
def State.unserved (s : State) (k : Key) : Prop :=
  s.alignment.state = .idle ∨ s.alignment.state = .migrating ∨
    s.alignment.state = .splitWait ∧ (∀ d, s.alignment.slot = some d → s.quiet d = false) ∨
    s.alignment.state = .collecting ∧ s.alignment.key ≠ some k

theorem State.splitAtOnce_of_busy (busy : ∀ d, x.alignment.slot = some d → x.quiet d = false) : x.splitAtOnce = x := by
  unfold State.splitAtOnce
  split
  · rename_i d _ unit
    exact if_neg (by simp [busy d unit])
  · rfl

theorem State.alignTally_unserved (h : x.unserved t.key) : x.alignTally sender t = x := by
  refine if_neg fun serves => ?_
  obtain ⟨collecting, key⟩ : x.alignment.state = .collecting ∧ x.alignment.key = some t.key := by simpa using serves
  rcases h with idle | migrating | ⟨waits, -⟩ | ⟨-, other⟩
  · cases collecting.symm.trans idle
  · cases collecting.symm.trans migrating
  · cases collecting.symm.trans waits
  · exact other key

theorem State.splitAtOnce_unserved {k : Key} (h : x.unserved k) : x.splitAtOnce = x := by
  rcases h with idle | migrating | ⟨-, busy⟩ | ⟨collecting, -⟩
  · exact State.splitAtOnce_of_not_splitWait (by simp [idle])
  · exact State.splitAtOnce_of_not_splitWait (by simp [migrating])
  · exact State.splitAtOnce_of_busy busy
  · exact State.splitAtOnce_of_not_splitWait (by simp [collecting])

section
variable (collecting : x.alignment.state = .collecting) (key : x.alignment.key = some t.key)
include collecting key

theorem State.alignTally_collecting : x.alignTally sender t =
    let aligned : State := { x with alignment := { x.alignment with
      references := tallyReferences x.alignment.expected x.alignThreshold sender t.first t.entries x.alignment.references } }
    if tallyRelevant x.alignment.expected x.alignThreshold t.first t.entries then aligned.evaluate else aligned :=
  if_pos (by simp [collecting, key])

theorem State.alignTally_irrelevant (none_refers : ∀ i y, ¬refersIn x.alignment.expected x.alignThreshold t.first t.entries i y) :
    x.alignTally sender t = x := by
  have irrelevant : ¬tallyRelevant x.alignment.expected x.alignThreshold t.first t.entries = true := fun relevant => by
    obtain ⟨i, y, refers⟩ := (tallyRelevant_iff _ _).1 relevant
    exact none_refers i y refers
  rw [State.alignTally_collecting collecting key, tallyReferences_none none_refers]
  exact if_neg irrelevant

theorem State.alignTally_relevant {i : Nat} {y : TallyEntry}
    (refers : refersIn x.alignment.expected x.alignThreshold t.first t.entries i y) : x.alignTally sender t =
      State.evaluate { x with alignment := { x.alignment with
        references := tallyReferences x.alignment.expected x.alignThreshold sender t.first t.entries x.alignment.references } } := by
  rw [State.alignTally_collecting collecting key]
  exact if_pos ((tallyRelevant_iff _ _).2 ⟨i, y, refers⟩)

end

/-! ## The TALLY taken -/

/-- The blocks in turn, from what the directory and the holder map leave. -/
theorem State.takeTally_eq (taken : (b.tallyHeard sender t).tallyHolders sender t = x) :
    b.takeTally t sender = (x.alignTally sender t).splitAtOnce.takeArrival b.candidateWaits := by
  rw [State.takeTally, taken]

/-- Where the unit changes nothing and nothing newly waits, the TALLY does no more. -/
theorem State.takeTally_same (taken : (b.tallyHeard sender t).tallyHolders sender t = x) (aligned : x.alignTally sender t = x)
    (unsplit : x.splitAtOnce = x) (waits : x.candidateWaits = b.candidateWaits) : b.takeTally t sender = x := by
  rw [State.takeTally_eq taken, aligned, unsplit]
  exact State.takeArrival_of_same fun none_waited => waits.trans none_waited

theorem State.exec_tallyReceived {frame : List Byte} {f : Frame} (run : s.config.state = .run)
    (can : s.link.canTakeFrame = true) (good : decodeFrame frame = some f) (payload : f.payload = .tally t)
    (peer : f.sender ≠ s.self) :
    exec (.tallyReceived frame) s = .next (((s.arrive frame).peerHeard f.sender).takeTally t f.sender).settle :=
  congrArg _ (s.receive_eq frame f _ _ t run can good (by rw [payload]; rfl) peer)

/-- The command's part of TallyUpdatesChart: the blocks take the TALLY one after the other. -/
theorem State.exec_tallyReceived_cases {frame : List Byte} {f : Frame} (run : s.config.state = .run)
    (can : s.link.canTakeFrame = true) (good : decodeFrame frame = some f) (payload : f.payload = .tally t)
    (peer : f.sender ≠ s.self) (hb : (s.arrive frame).peerHeard f.sender = b) :
    (s.unserved t.key → s.slotOfKey t.key = none → exec (.tallyReceived frame) s = .next b.settle) ∧
    (s.slotOfKey t.key = some c →
      (s.unserved t.key → exec (.tallyReceived frame) s = .next (b.tallyTaken c f.sender t).settle) ∧
      (s.alignment.state = .collecting → s.alignment.key = some t.key →
        ((∀ i y, ¬refersIn s.alignment.expected s.alignThreshold t.first t.entries i y) →
          exec (.tallyReceived frame) s = .next (b.tallyTaken c f.sender t).settle) ∧
        ∀ i y, refersIn s.alignment.expected s.alignThreshold t.first t.entries i y →
          exec (.tallyReceived frame) s = .next (State.settle (State.takeArrival (State.splitAtOnce (State.evaluate
            { b.tallyTaken c f.sender t with alignment := { s.alignment with
              references := tallyReferences s.alignment.expected s.alignThreshold f.sender t.first t.entries
                s.alignment.references } })) s.candidateWaits)))) := by
  have slots : b.slots = s.slots := hb ▸ State.peerHeard_arrive_slots ..
  have alignment : b.alignment = s.alignment := hb ▸ State.peerHeard_arrive_alignment ..
  have lineTable : b.lineTable = s.lineTable := hb ▸ State.peerHeard_arrive_lineTable ..
  have config : b.config = s.config := hb ▸ State.peerHeard_arrive_config ..
  have waits : b.candidateWaits = s.candidateWaits := hb ▸ s.candidateWaits_peerHeard_arrive frame f.sender
  have threshold : b.alignThreshold = s.alignThreshold := by rw [State.alignThreshold, config]; rfl
  have keys : b.slotOfKey t.key = s.slotOfKey t.key := by rw [State.slotOfKey, slots]; rfl
  have serves : b.unserved t.key ↔ s.unserved t.key := by
    simp only [State.unserved, State.quiet, alignment, lineTable]
  rw [State.exec_tallyReceived run can good payload peer, hb, ← keys, ← serves, ← alignment, ← threshold, ← waits]
  clear hb
  refine ⟨fun idle unknown => ?_, fun known => ⟨fun idle => ?_, fun collecting key => ⟨fun none_refers => ?_, fun i y refers => ?_⟩⟩⟩
  · rw [State.takeTally_same (State.tally_unknown unknown) (State.alignTally_unserved idle) (State.splitAtOnce_unserved idle) rfl]
  · have idle : (b.tallyTaken c f.sender t).unserved t.key := idle
    rw [State.takeTally_same (State.tally_known known) (State.alignTally_unserved idle) (State.splitAtOnce_unserved idle)
      (b.candidateWaits_tallyTaken c f.sender t)]
  · rw [State.takeTally_same (State.tally_known known)
      (State.alignTally_irrelevant (x := b.tallyTaken c f.sender t) collecting key none_refers)
      (State.splitAtOnce_of_not_splitWait (x := b.tallyTaken c f.sender t) (fun split => by cases collecting.symm.trans split))
      (b.candidateWaits_tallyTaken c f.sender t)]
  · rw [State.takeTally_eq (State.tally_known known),
      State.alignTally_relevant (x := b.tallyTaken c f.sender t) collecting key refers]
    rfl

/-! ## The statement -/

/-- The evaluation's part of TallyUpdatesChart (R103 to R105, R107). -/
theorem State.evaluate_cases (collecting : s.alignment.state = .collecting) (unit : s.alignment.slot = some c) :
    (¬s.decisionDue → s.evaluate = s) ∧
    (s.decisionDue → (∀ d : Int, (d - s.alignment.expected).natAbs ≤ 2 → (s.distances d).length < 6) →
      s.evaluate = s.askSplit c) ∧
    ∀ d : Int, s.decisionDue → (d - s.alignment.expected).natAbs ≤ 2 → 6 ≤ (s.distances d).length →
      (∀ d' : Int, (d' - s.alignment.expected).natAbs ≤ 2 → d' ≠ d → 6 ≤ (s.distances d').length →
        (s.trialAt d).beats s.alignment.expected (s.trialAt d') = true) →
      (3 * (s.distances d).length < (s.distances d).sum → s.evaluate = s.askSplit c) ∧
      ((s.distances d).sum ≤ 3 * (s.distances d).length →
        s.evaluate = { s.alignedAt c d with alignment := s.alignment.movedTo c d }) := by
  refine ⟨State.evaluate_early collecting unit, fun due few => ?_, fun d due near enough wins => ?_⟩
  · rw [State.evaluate_due collecting unit due, State.alignDecision_none few]
  · rw [State.evaluate_due collecting unit due, State.alignDecision_best near enough wins]
    exact ⟨fun far => if_neg (Nat.not_le.2 far), fun close => (if_pos close).trans (State.acceptOffset_eq unit d)⟩

/-- Settles O45: the command by `exec_tallyReceived_cases`, the decision by `evaluate_cases`, the rest by the laws of its functions. -/
theorem tallyUpdatesChart : Obligations.TallyUpdatesChart := by
  refine ⟨?_, ?_, trialDistances_eq, ?_, ?_, ?_⟩
  · intro s frame f t c run can good payload peer b last unserved
    have command := State.exec_tallyReceived_cases (c := c) run can good payload peer (rfl : _ = b)
    have slots : b.slots = s.slots := State.peerHeard_arrive_slots ..
    have reception : b.reception = s.reception := State.peerHeard_arrive_reception ..
    have config : b.config = s.config := State.peerHeard_arrive_config ..
    clear_value b
    obtain ⟨unknown, known⟩ := command
    have period : b.quietTime = 32 * s.linePeriod := by rw [State.quietTime, State.linePeriod, State.period, config]; rfl
    refine ⟨unknown, ?_⟩
    intro found record taken
    have same : b.tallyTaken c f.sender t = taken := by
      rw [State.tallyTaken, period, reception]
      show { b with slots := Sparse.modify b.slots c _ } = _
      rw [slots]
      rfl
    rw [same] at known
    obtain ⟨idle, served⟩ := known found
    refine ⟨idle, ?_⟩
    intro collecting key refers
    obtain ⟨irrelevant, relevant⟩ := served collecting key
    exact ⟨irrelevant, fun i x here => ⟨_, mem_tallyReferences t.first t.entries s.alignment.references, relevant i x here⟩⟩
  · intro s c collecting unit a near distances due split better
    obtain ⟨early, none_eligible, decided⟩ := State.evaluate_cases collecting unit
    refine ⟨early, none_eligible, fun d isDue isNear enough wins => ?_⟩
    obtain ⟨far, close⟩ := decided d isDue isNear enough fun d' near' other enough' =>
      (Trial.beats_iff _ _).2 (wins d' near' other enough')
    refine ⟨far, ?_⟩
    intro mean inChart moving gone
    rw [close mean, State.alignedAt, State.freePools_eq]
    rfl
  · exact fun references n => ⟨bestReference_none_iff references n, fun r best => bestReference_best best⟩
  · exact fun sl st first entries rising => ⟨sl.tallyRows_eq st first entries, (sl.tallyRows_tame st first entries).rows rising,
      fun i x entry => sl.row_tallyRows st entry, fun n outside => sl.row_tallyRows_outside st outside⟩
  · intro r st g
    refine ⟨HolderRow.tallied_empty, fun b best other others => ⟨?_, ?_, ?_⟩, fun b best own => ⟨?_, ?_⟩,
      fun b x best second other own => ⟨?_, ?_⟩⟩
    · exact HolderRow.tallied_enters_best best other others
    · exact HolderRow.tallied_enters_second best other others
    · exact fun x worse second full => HolderRow.tallied_stands best other others worse second full
    · exact HolderRow.tallied_best_stays best own
    · exact fun x second => HolderRow.tallied_best_falls best own second
    · exact HolderRow.tallied_second_stays best second other own
    · exact HolderRow.tallied_second_rises best second other own

end Sys2Proof.Machine
end

section
/-!
PROOF. A fetch whose ASK was sent times out: the statement FetchTimersExpire.
-/
namespace Sys2Proof.Machine

variable {s : State} {target : Station} {e : FetchEntry} {deadline : Nat}

/-- An entry whose ASK was sent has none to withdraw: it only leaves the list (R119). -/
theorem State.retire_sent (s : State) (sent : e.phase ≠ .askQueued) : s.retire e = { s with
    fetch := { s.fetch with fetches := s.fetch.fetches.filter (fun x => x != e) } } := by
  rw [State.retire, if_neg sent]

theorem State.timeOut_sent (s : State) (sent : e.phase ≠ .askQueued) : s.timeOut e = { s with
    fetch := { s.fetch with fetches := s.fetch.fetches.filter (fun x => x != e) }
    slots := Sparse.modify s.slots e.slot (fun sl => sl.setRow e.line { sl.row e.line with
      attempts := min 3 ((sl.row e.line).attempts + 1)
      exhausted := (sl.row e.line).exhausted || decide (2 ≤ (sl.row e.line).attempts) }) } := by
  have counted : s.timeOut e = (s.retire e).modifyRow e.slot e.line HolderRow.attempt := rfl
  simp only [counted, s.retire_sent sent, State.modifyRow, HolderRow.attempt_eq]
  rfl

theorem State.firstDeadlinePasses_fallback (s : State) (fallback : e.fallback ≠ none) : s.firstDeadlinePasses e =
    s.updateFetch e { e with phase := .awaitingFallback, deadline := some (s.now + 150000) } :=
  if_pos (Option.isSome_iff_ne_none.2 fallback)

theorem State.firstDeadlinePasses_alone (s : State) (alone : e.fallback = none) : s.firstDeadlinePasses e = s.timeOut e :=
  if_neg (by simp [alone])

theorem State.exec_fetchFirstDeadline (run : s.config.state = .run) (found : s.fetchOf target = some e)
    (first : e.phase = .awaitingFirst) (timed : e.deadline = some deadline) :
    exec (.fetchFirstDeadline target) s = .next ((s.reach deadline).firstDeadlinePasses e).settle := by
  simp [exec, execFetchFirstDeadline, State.whenRunning, State.running_of run, found, first, timed]

theorem State.exec_fetchTimeout (run : s.config.state = .run) (found : s.fetchOf target = some e)
    (late : e.phase = .awaitingFallback ∨ e.phase = .receiving) (timed : e.deadline = some deadline) :
    exec (.fetchTimeout target) s = .next ((s.reach deadline).timeOut e).settle := by
  rcases late with phase | phase <;>
    simp [exec, execFetchTimeout, State.whenRunning, State.running_of run, found, phase, timed]

/-- Settles O52: the fallback decides the first deadline, and an entry that times out, its ASK sent, only leaves the list. -/
theorem fetchTimersExpire : Obligations.FetchTimersExpire := by
  intro s target e deadline run found timed
  refine ⟨fun first fallback => ?_, fun first alone => ?_, fun late => ?_⟩
  · rw [State.exec_fetchFirstDeadline run found first timed, State.firstDeadlinePasses_fallback _ fallback]
    rfl
  · rw [State.exec_fetchFirstDeadline run found first timed, State.firstDeadlinePasses_alone _ alone,
      State.timeOut_sent _ (by simp [first])]
    rfl
  · rw [State.exec_fetchTimeout run found late timed, State.timeOut_sent _ (by rcases late with h | h <;> simp [h])]
    rfl

end Sys2Proof.Machine
end

section
/-!
PROOF. A DECLINE is heard: the row of its line, the fetch that it ends, and the statement DeclineRetiresFetch.
-/
namespace Sys2Proof.Machine

variable {s b : State} {r : HolderRow} {d : Decline} {sender : Station} {e : FetchEntry} {c : Nat}

/-! ## The row of the line (R116, R123 to R125) -/

theorem HolderRow.remove_best {x : Holder} (best : r.best = some x) (own : x.station = sender) :
    r.remove sender = { r with best := r.second, second := none } :=
  if_pos (by simp [best, own])

theorem not_any_station_of_ne {h : Option Holder} (other : ∀ x, h = some x → x.station ≠ sender) :
    ¬h.any (fun x => x.station == sender) = true := by
  simpa [Option.any_eq_true] using other

section
variable (other : ∀ x, r.best = some x → x.station ≠ sender)
include other

theorem HolderRow.remove_not_best : r.remove sender =
    if r.second.any (fun h => h.station == sender) then { r with second := none } else r :=
  if_neg (not_any_station_of_ne other)

theorem HolderRow.remove_second {y : Holder} (second : r.second = some y) (own : y.station = sender) :
    r.remove sender = { r with second := none } :=
  (HolderRow.remove_not_best other).trans (if_pos (by simp [second, own]))

theorem HolderRow.remove_unlisted (others : ∀ y, r.second = some y → y.station ≠ sender) : r.remove sender = r :=
  (HolderRow.remove_not_best other).trans (if_neg (not_any_station_of_ne others))

end

theorem HolderRow.remove_attempts (r : HolderRow) (st : Station) :
    (r.remove st).attempts = r.attempts ∧ (r.remove st).exhausted = r.exhausted := by
  unfold HolderRow.remove
  split
  · exact ⟨rfl, rfl⟩
  · split <;> exact ⟨rfl, rfl⟩

/-- The row of a declined line: deferred after BUSY, else without the sender, and `counted` with an attempt more. -/
def HolderRow.declined (reason : DeclineReason) (sender : Station) (counted : Bool) (expiry : Nat) (r : HolderRow) : HolderRow :=
  if reason = .busy then { r with deferral := some (max (r.deferral.getD 0) expiry) }
  else if counted then { r.remove sender with
    attempts := min 3 (r.attempts + 1), exhausted := r.exhausted || decide (2 ≤ r.attempts) }
  else r.remove sender

theorem State.declineRow_unknown (unknown : s.slotOfKey d.key = none) (counted : Bool) : s.declineRow d sender counted = s := by
  rw [State.declineRow, unknown]

theorem State.declineRow_known (known : s.slotOfKey d.key = some c) (counted : Bool) : s.declineRow d sender counted =
    s.modifyRow c d.line (HolderRow.declined d.reason sender counted (s.now + 550000)) := by
  rw [State.declineRow, known]
  refine congrArg (s.modifyRow c d.line) (funext fun r => ?_)
  obtain ⟨attempts, exhausted⟩ := r.remove_attempts sender
  cases d.reason with
  | busy => rfl
  | unknownChart | noLine => cases counted <;> simp [HolderRow.declined, HolderRow.attempt_eq, attempts, exhausted]

/-! ## The fetch that the DECLINE ends (R123) -/

/-- A DECLINE of this sender ends the entry: its ASK was sent, to the sender as target or fallback (R123). -/
def FetchEntry.DeclinedBy (e : FetchEntry) (sender : Station) : Prop :=
  e.phase ≠ .askQueued ∧ (e.target = sender ∨ e.fallback = some sender)

theorem State.declinedFetch_eq_some (found : s.fetchFor d.key d.line = some e) (ends : e.DeclinedBy sender) :
    s.declinedFetch d sender = some e := by
  obtain ⟨sent, asked⟩ := ends
  simp [State.declinedFetch, found, sent, asked]

theorem State.declinedFetch_eq_none (late : ∀ e, s.fetchFor d.key d.line = some e → ¬e.DeclinedBy sender) :
    s.declinedFetch d sender = none := by
  rw [State.declinedFetch, Option.filter_eq_none_iff]
  exact fun e found => by simpa [FetchEntry.DeclinedBy] using late e found

/-! ## The DECLINE taken (R123, R128) -/

/-- The fallback timers that the DECLINE leaves: one of its line goes whose primary sent it (R128). -/
def State.declineTimers (s : State) (d : Decline) (sender : Station) : State :=
  s.cancelTimers (fun t => t.isFor d.key d.line && t.primary == sender)

theorem State.takeDecline_other (other : d.requester ≠ s.self) : s.takeDecline d sender = s.declineTimers d sender :=
  if_neg other

section
variable (own : d.requester = s.self)
include own

theorem State.takeDecline_late (late : ∀ e, s.fetchFor d.key d.line = some e → ¬e.DeclinedBy sender) :
    s.takeDecline d sender = (s.declineTimers d sender).declineRow d sender false := by
  have none_ends : (s.declineTimers d sender).declinedFetch d sender = none := State.declinedFetch_eq_none late
  refine (if_pos own).trans ?_
  rw [← State.declineTimers, none_ends]

theorem State.takeDecline_ends (found : s.fetchFor d.key d.line = some e) (ends : e.DeclinedBy sender) :
    s.takeDecline d sender = ((s.declineTimers d sender).retire e).declineRow d sender true := by
  have ended : (s.declineTimers d sender).declinedFetch d sender = some e := State.declinedFetch_eq_some found ends
  refine (if_pos own).trans ?_
  rw [← State.declineTimers, ended]

end

theorem State.exec_declineReceived {frame : List Byte} {f : Frame} (run : s.config.state = .run)
    (can : s.link.canTakeFrame = true) (good : decodeFrame frame = some f) (payload : f.payload = .decline d)
    (peer : f.sender ≠ s.self) :
    exec (.declineReceived frame) s = .next (((s.arrive frame).peerHeard f.sender).takeDecline d f.sender).settle :=
  congrArg _ (s.receive_eq frame f _ _ d run can good (by rw [payload]; rfl) peer)

/-- Settles O47: the frame's arrival leaves slots and fetches as they were; then the DECLINE ends an entry or comes too late. -/
theorem declineRetiresFetch : Obligations.DeclineRetiresFetch := by
  refine ⟨fun r st => ⟨fun x => HolderRow.remove_best, fun other => ⟨fun y => HolderRow.remove_second other,
    HolderRow.remove_unlisted other⟩⟩, ?_⟩
  intro s frame f d run can good payload peer b timers
  have taken : exec (.declineReceived frame) s = .next (b.takeDecline d f.sender).settle :=
    State.exec_declineReceived run can good payload peer
  have same : s.SameTables b := s.sameTables_arrived frame f.sender
  clear_value b
  have left : b.declineTimers d f.sender = { b with fetch := { s.fetch with timers := timers } } := by
    rw [State.declineTimers, State.cancelTimers, same.fetch]
  refine ⟨fun other => ?_, fun own too_late => ?_, fun own e c found sent asked known => ?_⟩
  · rw [taken, State.takeDecline_other (same.self ▸ other), left]
  · rw [taken, State.takeDecline_late (own.trans same.self.symm) (by rw [same.fetchFor]; exact too_late), ← same.slots]
    refine ⟨fun unknown => ?_, fun c known => ?_⟩
    · rw [State.declineRow_unknown (by exact (same.slotOfKey _).trans unknown), left]
    · rw [State.declineRow_known (by exact (same.slotOfKey _).trans known), left]
      rfl
  · have ended : b.takeDecline d f.sender = { b with
        fetch := { s.fetch with timers := timers, fetches := s.fetch.fetches.filter (fun x => x != e) }
        slots := Sparse.modify s.slots c (fun sl => sl.setRow d.line
          (HolderRow.declined d.reason f.sender true (b.now + 550000) (sl.row d.line))) } := by
      rw [State.takeDecline_ends (own.trans same.self.symm) ((same.fetchFor _ _).trans found) ⟨sent, asked⟩, left,
        State.retire_sent _ sent, State.declineRow_known (by exact (same.slotOfKey _).trans known), ← same.slots]
      rfl
    rw [taken, ended]
    refine ⟨fun busy => ?_, fun refused => ?_⟩
    · simp only [HolderRow.declined, if_pos busy]
    · simp only [HolderRow.declined, if_neg refused, if_true]

end Sys2Proof.Machine
end

section
/-!
PROOF. Chart memory keeps its canonical form: an operation leaves memory as it is or writes a run of bytes into it. First the
operations of the LINE TABLE, the FETCH UNIT, the ALIGNMENT UNIT and the CHART DIRECTORY, in the order of their definitions.

An update of other fields leaves the form as it is by definition, so `h` itself proves it; `by exact h` does so where the state
updated is to be read off the goal first.
-/
namespace Sys2Proof.Machine

/-- Chart memory stands in its canonical form (R163). -/
def State.Canonical (s : State) : Prop := Memory.wf s.memory

variable {s t u : State}

/-! ## Writes into chart memory -/

theorem State.Canonical.of_memory (h : s.Canonical) (same : t.memory = s.memory) : t.Canonical :=
  (congrArg Memory.wf same).mpr h

theorem State.Canonical.ite {c : Prop} [Decidable c] (h : t.Canonical) (k : u.Canonical) : (if c then t else u).Canonical := by
  split
  · exact h
  · exact k

theorem State.Canonical.post (h : s.Canonical) (k : EventKind) (n : Nat) : (s.post k n).Canonical := h

theorem State.Canonical.respond (h : s.Canonical) (r : Response) : (s.respond r).Canonical := h

theorem State.Canonical.modifySlot (h : s.Canonical) (c : Nat) (f : Slot → Slot) : (s.modifySlot c f).Canonical := h

theorem State.Canonical.cancelTimers (h : s.Canonical) (p : FallbackTimer → Bool) : (s.cancelTimers p).Canonical := h

theorem State.Canonical.setAlignment (h : s.Canonical) (a : Alignment) : State.Canonical { s with alignment := a } := h

theorem State.Canonical.removeSlot (h : s.Canonical) (c order : Nat) : (s.removeSlot c order).Canonical := h

theorem State.Canonical.removeSlotEvents (h : s.Canonical) (c : Nat) : (s.removeSlotEvents c).Canonical := h

/-- A write that completes keeps the form. -/
theorem State.Canonical.storeWrite (h : s.Canonical) (w : Write) : (s.storeWrite w).Canonical := Memory.wf_write _ _ h

/-- A write cut short keeps the form, whichever of its bytes are new (R41). -/
theorem State.Canonical.interruptWrite (h : s.Canonical) (w : Write) : (s.interruptWrite w).Canonical := Memory.wf_write _ _ h

theorem State.Canonical.cancelWrites (h : s.Canonical) (p : Write → Bool) : (s.cancelWrites p).Canonical := by
  unfold State.cancelWrites
  dsimp only
  split
  · exact State.Canonical.ite (h.interruptWrite _) h
  · exact h

theorem State.Canonical.cutWrite (h : s.Canonical) : s.cutWrite.Canonical := by
  unfold State.cutWrite
  split
  · exact State.Canonical.ite (h.interruptWrite _) h
  · exact h

theorem State.Canonical.tearWrite (h : s.Canonical) : s.tearWrite.Canonical := by
  unfold State.tearWrite
  split
  · exact h
  · next w _ _ =>
    refine State.Canonical.ite ?_ h
    have torn := h.interruptWrite w
    dsimp only
    split
    · exact torn.ite torn
    · exact torn
    · exact torn

/-! ## Pool entries and the write queue (R28, R139, R147) -/

theorem State.Canonical.startNext (h : s.Canonical) : s.startNext.Canonical := h.of_memory s.startNext_memory

theorem State.Canonical.freePools (h : s.Canonical) (l : List Nat) : (s.freePools l).Canonical := by
  rw [State.freePools_eq]
  exact h

theorem State.Canonical.freeNamed (h : s.Canonical) (n : Option Nat) : (s.freeNamed n).Canonical := by
  rw [State.freeNamed_eq]
  exact h

theorem State.Canonical.freeAndCancel (h : s.Canonical) (l : List Nat) : (s.freeAndCancel l).Canonical :=
  (h.cancelWrites _).freePools l

theorem State.Canonical.unmerge (h : s.Canonical) (l : List Nat) : (s.unmerge l).Canonical := by
  induction l generalizing s with
  | nil => exact h
  | cons n l ih => exact ih (s := s.modifyPool n _) h

theorem State.Canonical.thawEnd (h : s.Canonical) (c : Nat) : (s.thawEnd c).Canonical := State.Canonical.ite h h

/-! ## The batch and the candidates (R24 to R31, R112 to R114) -/

theorem State.Canonical.queueBatch (h : s.Canonical) : s.queueBatch.Canonical := h.of_memory s.queueBatch_memory.1

theorem State.Canonical.tallyLine (h : s.Canonical) (c n g : Nat) (fp : Fingerprint) : (s.tallyLine c n g fp).Canonical := by
  unfold State.tallyLine
  split
  · exact h
  · next b _ =>
    have joined : (s.joinBatch b g fp).Canonical := h
    have flushed : (if s.queueBatch.fetch.batch.isNone then s.queueBatch.startBatch c n g fp else s.queueBatch).Canonical :=
      State.Canonical.ite (by exact h.queueBatch) h.queueBatch
    exact (joined.ite h).ite ((joined.queueBatch.ite joined).ite flushed)

theorem State.Canonical.tallyCandidate (h : s.Canonical) (c : Candidate) : (s.tallyCandidate c).Canonical := by
  unfold State.tallyCandidate
  split
  · exact h.tallyLine _ _ _ _
  · exact h

theorem State.Canonical.queueWrite (h : s.Canonical) (w : Write) : (s.queueWrite w).Canonical :=
  h.of_memory (State.startNext_memory _)

theorem State.Canonical.holdCandidate (h : s.Canonical) (c : Candidate) (shadow : Option Nat) :
    (s.holdCandidate c shadow).Canonical := by
  have rejected : (s.rejectCandidate c).Canonical := h.freeNamed _
  refine State.Canonical.ite ?_ rejected
  split
  · next n u assigned =>
    have taken : u.Canonical := h.of_memory (by rw [State.assignShadow_eq assigned])
    exact (State.Canonical.queueWrite (s := u.modifyPool n _) taken _).tallyCandidate c
  · exact State.Canonical.freeNamed (s := s.post _ _) h _

theorem State.Canonical.takeCandidate (h : s.Canonical) (c : Candidate) : (s.takeCandidate c).Canonical := by
  have rejected : (s.rejectCandidate c).Canonical := h.freeNamed _
  refine rejected.ite ?_
  split
  · exact h.holdCandidate c _
  · have queued : ∀ w, (s.queueWrite w).Canonical := h.queueWrite
    exact State.Canonical.ite (State.Canonical.tallyCandidate (s := (s.queueWrite _).modifyEntry _ _ _) (queued _) c) rejected

theorem State.Canonical.queueStore (h : s.Canonical) (st : ProvisionalStore) : (s.queueStore st).Canonical :=
  State.Canonical.queueWrite (s := s.modifyPool _ _) h _

theorem State.Canonical.takeBody (h : s.Canonical) (n : Nat) (c : Context) (k : Nat) : (s.takeBody n c k).Canonical := by
  unfold State.takeBody
  dsimp only
  split
  · exact State.Canonical.ite (State.Canonical.takeCandidate (by exact h) _) h
  · exact h

theorem State.Canonical.settleMigration (h : s.Canonical) : s.settleMigration.Canonical := State.Canonical.ite h h

theorem State.Canonical.takeMerge (h : s.Canonical) (n : Nat) (e : PoolEntry) : (s.takeMerge n e).Canonical :=
  State.Canonical.queueWrite (s := s.modifyPool n _) h _

/-- The candidate taken, of whatever source, is at most queued (R31). -/
theorem State.Canonical.takeNext (h : s.Canonical) : s.takeNext.Canonical := by
  unfold State.takeNext
  split
  · exact State.Canonical.queueStore (by exact h) _
  · split
    · exact State.Canonical.takeCandidate (by exact h) _
    · split
      · exact h.takeBody _ _ _
      · split
        · exact (State.Canonical.takeCandidate (by exact h) _).settleMigration
        · split
          · exact h.takeMerge _ _
          · exact h

/-! ## Reads and completions (R29, R30, R33) -/

theorem State.Canonical.makeRead (h : s.Canonical) : s.makeRead.Canonical := by
  unfold State.makeRead
  split <;> exact h

theorem State.Canonical.formSegments (h : s.Canonical) : s.formSegments.Canonical := by
  unfold State.formSegments
  split
  · split <;> exact h
  · exact h

theorem State.Canonical.makeDueReads (h : s.Canonical) : s.makeDueReads.Canonical := by
  have read : (if s.linesDue then s.makeRead else s).Canonical := h.makeRead.ite h
  exact State.Canonical.formSegments (by exact read)

theorem State.Canonical.completeComposite (h : s.Canonical) (w : Write) : (s.completeComposite w).Canonical := by
  have stored : ((s.popWrite.storeWrite w).modifyEntry w.slot w.target (fun e => e.completed w)).Canonical :=
    State.Canonical.storeWrite (s := s.popWrite) h w
  have freed := stored.freeNamed w.frees
  exact (State.Canonical.thawEnd (by exact freed) _).startNext

theorem State.Canonical.completePool (h : s.Canonical) (w : Write) : (s.completePool w).Canonical := by
  have stored : (s.popWrite.storeWrite w).Canonical := State.Canonical.storeWrite (s := s.popWrite) h w
  exact ((State.Canonical.ite stored (by exact stored)).freeNamed _).startNext

/-! ## Fetches and bodies (R117 to R129) -/

theorem State.Canonical.settle (h : s.Canonical) : s.settle.Canonical := h.of_memory s.settle_memory

theorem State.Canonical.retireAll (h : s.Canonical) (counted : Bool) (l : List FetchEntry) :
    (s.retireAll counted l).Canonical := by
  induction l generalizing s with
  | nil => exact h
  | cons e l ih =>
    have retired : (s.retire e).Canonical := h
    exact ih (State.Canonical.ite (by exact retired) retired)

theorem State.Canonical.retireWhere (h : s.Canonical) (p : FetchEntry → Bool) (counted : Bool) :
    (s.retireWhere p counted).Canonical := h.retireAll counted _

/-- A body is queued or an ASK declined; neither is in chart memory (R126). -/
theorem State.Canonical.serve (h : s.Canonical) (k : Key) (n : Nat) (r : Station) : (s.serve k n r).Canonical := by
  have declined : ∀ x, (s.declineTo k n r x).Canonical := fun _ => h
  have queued : ∀ c, (s.queueBody c k n r).Canonical := fun _ => State.Canonical.formSegments (by exact h)
  refine h.ite ?_
  split
  · exact declined _
  · exact (declined _).ite (h.ite ((declined _).ite ((declined _).ite (queued _))))

theorem State.Canonical.startFallback (h : s.Canonical) (a : Ask) (r : Station) : (s.startFallback a r).Canonical :=
  h.ite (State.Canonical.ite h (State.Canonical.ite h h))

theorem State.Canonical.segmentZeroHeard (h : s.Canonical) (st : Station) (b : Segment) (x : BodyHeader) :
    (s.segmentZeroHeard st b x).Canonical := by
  unfold State.segmentZeroHeard
  dsimp only
  split
  · exact State.Canonical.ite h h
  · exact h

theorem State.Canonical.bodyComplete (h : s.Canonical) (st : Station) (c : Context) (k : Nat) :
    (s.bodyComplete st c k).Canonical := by
  have retired := h.retireWhere (fun e => e.isFor c.key c.line) false
  exact State.Canonical.ite (State.Canonical.takeBody (by exact retired) _ _ _) retired

/-! ## Alignment (R98 to R109) -/

theorem State.Canonical.takeUp (h : s.Canonical) (c : Nat) (k : Key) (e : Nat) : (s.takeUp c k e).Canonical :=
  State.Canonical.freePools (by exact h.retireWhere (fun x => x.slot = c) false) _

theorem State.Canonical.acceptOffset (h : s.Canonical) (c : Nat) (d : Int) : (s.acceptOffset c d).Canonical :=
  (State.Canonical.freePools (by exact h) _).settleMigration

theorem State.Canonical.evaluate (h : s.Canonical) : s.evaluate.Canonical := by
  unfold State.evaluate State.alignDecision
  split
  · refine State.Canonical.ite ?_ h
    split
    · exact (h.acceptOffset _ _).ite h
    · exact h
  · exact h

theorem State.Canonical.alignTally (h : s.Canonical) (st : Station) (x : Tally) : (s.alignTally st x).Canonical :=
  State.Canonical.ite (State.Canonical.ite (State.Canonical.evaluate (by exact h)) h) h

theorem State.Canonical.handStore (h : s.Canonical) (st : ProvisionalStore) : (s.handStore st).Canonical := by
  unfold State.handStore
  refine (h.queueStore st).ite ?_
  split <;> exact h

theorem State.Canonical.alignLine (h : s.Canonical) (c n g : Nat) (fp : Fingerprint) (x : Pixels) :
    (s.alignLine c n g fp x).Canonical := by
  have held : ∀ y : State, y.Canonical → (y.holdLine c n g fp x).Canonical := fun y hy => by
    unfold State.holdLine
    split
    · exact State.Canonical.ite (State.Canonical.handStore (by exact hy) _) hy
    · exact hy
  exact State.Canonical.ite (held _ (by exact h)).evaluate h

theorem State.Canonical.abandon (h : s.Canonical) (c : Nat) : (s.abandon c).Canonical :=
  State.Canonical.startNext (by exact State.Canonical.freeAndCancel (by exact h) _)

/-! ## Frames, closing, release and creation (R40, R77 to R82, R90 to R95) -/

theorem State.Canonical.queueOpenClose (h : s.Canonical) (p : Payload) : (s.queueOpenClose p).Canonical := by
  unfold State.queueOpenClose
  split <;> exact h

theorem State.Canonical.queueOwnOpen (h : s.Canonical) (c : Nat) (split : Bool) : (s.queueOwnOpen c split).Canonical := by
  unfold State.queueOwnOpen
  split
  · split <;> exact h
  · exact h

theorem State.Canonical.ownOpenNotice (h : s.Canonical) (k : Key) : (s.ownOpenNotice k).Canonical := by
  unfold State.ownOpenNotice
  split <;> exact h

theorem State.Canonical.closingTest (h : s.Canonical) (c : Nat) : (s.closingTest c).Canonical := by
  unfold State.closingTest
  split
  · exact State.Canonical.ite h h
  · exact h

theorem State.Canonical.closingTests (h : s.Canonical) (l : List Nat) : (s.closingTests l).Canonical := by
  induction l generalizing s with
  | nil => exact h
  | cons c l ih => exact ih (h.closingTest c)

/-- A release cuts short at most the write in progress (R40). -/
theorem State.Canonical.releaseLines (h : s.Canonical) (c : Nat) : (s.releaseLines c).Canonical := by
  have read : (if s.port.read.any (fun r => r.slot = c) then s.makeRead else s).Canonical := h.makeRead.ite h
  exact State.Canonical.cancelWrites (by exact read) _

theorem State.Canonical.releaseFetch (h : s.Canonical) (c : Nat) (k : Key) : (s.releaseFetch c k).Canonical := by
  have retired := h.retireWhere (fun e => e.slot = c) false
  have withdrawn : (((s.retireWhere (fun e => e.slot = c) false).cancelTimers (fun t => t.key == k)).withdrawBodies c).Canonical :=
    State.Canonical.formSegments (by exact retired)
  exact State.Canonical.ite (by exact withdrawn) withdrawn

theorem State.Canonical.releaseAlignment (h : s.Canonical) (c : Nat) : (s.releaseAlignment c).Canonical :=
  State.Canonical.ite h h

theorem State.Canonical.releasePool (h : s.Canonical) (c : Nat) : (s.releasePool c).Canonical := State.Canonical.ite h h

theorem State.Canonical.releaseSlot (h : s.Canonical) (c : Nat) : (s.releaseSlot c).Canonical := by
  unfold State.releaseSlot
  split
  · exact h
  · next r _ =>
    have freed := (((h.releaseLines c).releaseFetch c r.key).releaseAlignment c).releasePool c
    have removed := (freed.removeSlot c (r.closeOrder.getD 0)).removeSlotEvents c
    exact (State.Canonical.ite (removed.respond _) removed).startNext

theorem State.Canonical.create (h : s.Canonical) (r : ChartRecord) : (s.create r).2.Canonical := by
  unfold State.create
  split
  · next c u allocated =>
    unfold State.allocate at allocated
    dsimp only at allocated
    split at allocated
    · cases allocated; exact h
    · obtain ⟨d, -, hd⟩ := Option.map_eq_some_iff.1 allocated
      cases hd
      exact h.releaseSlot _
  · exact h

theorem State.Canonical.originKey (h : s.Canonical) : s.originKey.2.Canonical := by
  unfold State.originKey
  dsimp only
  split
  · exact h.releaseSlot _
  · exact h

theorem State.Canonical.originate (h : s.Canonical) (late : Bool) : (s.originate late).2.Canonical := by
  have created := h.originKey.create
  unfold State.originate
  dsimp only
  split
  · next made => exact State.Canonical.queueOwnOpen (made ▸ created _ :) _ _
  · next made => exact (made ▸ created _ :)

theorem State.Canonical.bind (h : s.Canonical) (c e : Nat) (late : Bool) : (s.bind c e late).Canonical := by
  unfold State.bind
  split
  · exact State.Canonical.takeUp (by exact h) _ _ _
  · exact h

theorem State.Canonical.requestStarted (h : s.Canonical) : s.requestStarted.2.Canonical := by
  unfold State.requestStarted
  split
  · exact h.bind _ _ _
  · exact h.originate _

theorem State.Canonical.requestLate (h : s.Canonical) (n : Nat) : (s.requestLate n).2.Canonical := by
  unfold State.requestLate
  split
  · exact h.bind _ _ _
  · exact h.originate _

/-! ## What the directory hears and reports (R83 to R87, R91) -/

theorem State.Canonical.endReport (h : s.Canonical) (c : Nat) (reason : CloseReason) : (s.endReport c reason).Canonical := by
  unfold State.endReport
  split
  · exact h
  · have closed := fun f p => State.Canonical.queueOpenClose (s := s.modifyRecord c f) h p
    refine State.Canonical.closingTest (State.Canonical.ite (State.Canonical.queueBatch ?_) ?_) c
    all_goals exact State.Canonical.ite ((closed _ _).abandon c) (closed _ _)

theorem State.Canonical.openUnknown (h : s.Canonical) (st : Station) (o : ChartOpen) : (s.openUnknown st o).Canonical := by
  unfold State.openUnknown
  split
  · exact State.Canonical.takeUp (by exact h) _ _ _
  · exact h.create _

theorem State.Canonical.openHeard (h : s.Canonical) (st : Station) (o : ChartOpen) : (s.openHeard st o).Canonical := by
  refine h.ite ?_
  split
  · exact h.openUnknown _ _
  · dsimp only
    split
    · exact State.Canonical.ite h (State.Canonical.ite h (((h.releaseSlot _).openUnknown _ _).ite h))
    · exact h

theorem State.Canonical.closeHeard (h : s.Canonical) (st : Station) (f : ChartClose) : (s.closeHeard st f).Canonical := by
  unfold State.closeHeard
  split
  · exact h
  · split
    · exact h
    · exact State.Canonical.ite (State.Canonical.closingTest (by exact h) _) h

/-! ## The split and the freeze (R38, R39, R108, R143) -/

theorem State.Canonical.clearPeerLines (h : s.Canonical) (c : Nat) : (s.clearPeerLines c).Canonical :=
  (State.Canonical.unmerge (by exact h) _).freePools _

theorem State.Canonical.clearPeerShadows (h : s.Canonical) (c : Nat) : (s.clearPeerShadows c).Canonical :=
  (h.freeAndCancel _).thawEnd c

theorem State.Canonical.splitRecord (h : s.Canonical) (c : Nat) (k : Key) : (s.splitRecord c k).Canonical := by
  unfold State.splitRecord
  dsimp only
  exact (State.Canonical.queueOpenClose (by exact h.originKey) _).queueOwnOpen c true

theorem State.Canonical.carryOutSplit (h : s.Canonical) (c : Nat) : (s.carryOutSplit c).Canonical := by
  unfold State.carryOutSplit
  split
  · exact h
  · next r _ =>
    have taken : State.Canonical { s with lineTable := { s.lineTable with
        requests := s.lineTable.requests.filter (fun q => q != QuietRequest.splitClear c) } } := h
    have cleared := (taken.clearPeerLines c).makeDueReads
    have emptied := (cleared.modifySlot c (fun sl => { sl with rows := [] })).cancelTimers (fun t => t.key == r.key)
    have split := ((emptied.clearPeerShadows c).splitRecord c r.key).post .alignSplit c
    exact (split.setAlignment _).settleMigration.startNext

theorem State.Canonical.redirectWrite (h : s.Canonical) (c : Nat) (w : Write) : (s.redirectWrite c w).Canonical := by
  refine State.Canonical.ite h ((h.unmerge _).ite (State.Canonical.ite ?_ (h.freeNamed _)))
  split
  · next assigned => exact h.of_memory (by rw [State.assignShadow_eq assigned]; rfl)
  · exact State.Canonical.freeNamed (by exact h) _

theorem State.Canonical.redirectWrites (h : s.Canonical) (c : Nat) (l : List Write) : (s.redirectWrites c l).Canonical := by
  induction l generalizing s with
  | nil => exact h
  | cons w l ih => exact ih (State.Canonical.makeDueReads (by exact h.redirectWrite c w))

theorem State.Canonical.carryOutFreeze (h : s.Canonical) (c : Nat) : (s.carryOutFreeze c).Canonical :=
  State.Canonical.startNext (by exact State.Canonical.redirectWrites (by exact h) c _)

end Sys2Proof.Machine
end

section
/-!
PROOF. Every command, and so every step, keeps chart memory in its canonical form: the statement MemoryStaysCanonical.
-/
namespace Sys2Proof.Machine

variable {s : State}

/-! ## Requests and reads that are due (R33, R37) -/

theorem State.Canonical.carryOutAll (h : s.Canonical) (l : List QuietRequest) : (s.carryOutAll l).Canonical := by
  induction l generalizing s with
  | nil => exact h
  | cons q l ih =>
    have carried : (s.carryOut q).Canonical := by
      refine State.Canonical.ite ?_ h
      cases q with
      | splitClear c => exact (h.carryOutSplit c).ite h
      | freeze c => exact (h.carryOutFreeze c).ite h
    exact ih carried.makeDueReads

theorem State.Canonical.takeDueSteps (h : s.Canonical) : s.takeDueSteps.Canonical := h.makeDueReads.carryOutAll _

theorem State.Canonical.takeArrival (h : s.Canonical) (waited : Bool) : (s.takeArrival waited).Canonical :=
  h.takeDueSteps.takeNext.ite h

theorem State.Canonical.splitAtOnce (h : s.Canonical) : s.splitAtOnce.Canonical := by
  unfold State.splitAtOnce
  split
  · exact (h.makeDueReads.carryOutSplit _).ite h
  · exact h

/-! ## The RECEPTION UNIT (chapter 1) -/

theorem State.Canonical.modifyReception (h : s.Canonical) (f : Reception → Reception) : (s.modifyReception f).Canonical := h

theorem State.Canonical.endReception (h : s.Canonical) (reason : CloseReason) : (s.endReception reason).Canonical := by
  unfold State.endReception
  split
  · exact (h.modifyReception _).endReport _ _
  · exact h.modifyReception _

theorem State.Canonical.startReception (h : s.Canonical) : s.startReception.Canonical :=
  (h.modifyReception _).requestStarted.modifyReception _

theorem State.Canonical.lengthTest (h : s.Canonical) : s.lengthTest.Canonical := (h.endReception _).ite h

theorem State.Canonical.enterImage (h : s.Canonical) (o : Nat) : (s.enterImage o).Canonical :=
  (h.modifyReception _).lengthTest.ite (h.modifyReception _)

theorem State.Canonical.lateEntry (h : s.Canonical) : s.lateEntry.Canonical :=
  (((h.modifyReception _).requestLate _).modifyReception _).enterImage 0

theorem State.Canonical.offerOwnLine (h : s.Canonical) (b : BufferedLine) : (s.offerOwnLine b).Canonical :=
  (h.takeDueSteps.takeCandidate _).ite (h.takeDueSteps.modifyReception _)

theorem State.Canonical.handOn (h : s.Canonical) (l : FinishedLine) : (s.handOn l).Canonical := by
  have reported : ∀ c n, (s.reportOwnLine c n).Canonical := fun _ _ => h
  unfold State.handOn
  split
  · exact h
  · split
    · exact h
    · refine ((reported _ _).alignLine _ _ _ _ _).ite ?_
      split
      · exact h
      · split
        · exact (reported _ _).offerOwnLine _
        · exact h

theorem State.Canonical.nextPeriod (h : s.Canonical) : s.nextPeriod.Canonical := h

theorem State.Canonical.searchEnds (h : s.Canonical) : s.searchEnds.Canonical := by
  have counted := h.nextPeriod.modifyReception
  exact (counted _).lateEntry.ite (counted _)

theorem State.Canonical.phasingEnds (h : s.Canonical) : s.phasingEnds.Canonical := by
  have recorded := h.nextPeriod.modifyReception
  exact (((recorded _).modifyReception _).enterImage _).ite (recorded _)

/-- The line is handed on, and what it makes due is taken, before the tests of R14 and R15. -/
theorem State.Canonical.imageLineEnds (h : s.Canonical) : s.imageLineEnds.Canonical := by
  have arrived := fun f => (((h.nextPeriod.handOn s.finishedLine).modifyReception f).splitAtOnce).takeArrival s.candidateWaits
  have next := fun f g => (arrived f).modifyReception g
  exact (next _ _).ite (((arrived _).endReception _).ite (next _ _).lengthTest)

theorem State.Canonical.startConfirmed (h : s.Canonical) : s.startConfirmed.Canonical := by
  unfold State.startConfirmed
  have flagged := h.modifyReception (fun r => { r with startRun := ToneRun.confirm r.startRun })
  have again := (flagged.endReception .newStart).startReception
  dsimp only
  split
  · exact flagged.startReception
  · exact again
  · exact again
  · exact flagged

theorem State.Canonical.stopConfirmed (h : s.Canonical) : s.stopConfirmed.Canonical := by
  unfold State.stopConfirmed
  have flagged := h.modifyReception (fun r => { r with stopRun := ToneRun.confirm r.stopRun })
  dsimp only
  split
  · exact flagged.endReception .stop
  · exact flagged.endReception .stop
  · exact flagged
  · exact flagged

theorem State.Canonical.takePeriodEnd (h : s.Canonical) : s.takePeriodEnd.Canonical := by
  refine State.Canonical.ite ?_ h
  split
  · exact h.searchEnds
  · exact h.phasingEnds
  · exact h.imageLineEnds
  · exact h

theorem State.Canonical.settleReception (h : s.Canonical) : s.settleReception.Canonical := by
  have ended := h.takePeriodEnd
  have started := State.Canonical.ite (c := s.takePeriodEnd.reception.startDue = true) ended.startConfirmed ended
  have stopped := fun (c : Prop) [Decidable c] => State.Canonical.ite (c := c) started.stopConfirmed started
  exact (State.Canonical.ite ((stopped _).modifyReception _) (stopped _)).modifyReception _

theorem State.Canonical.takeSample (h : s.Canonical) (audio : BitVec 16) (quadrature : Int) :
    (s.takeSample audio quadrature).Canonical := by
  have sampled := h.modifyReception (fun r => r.sample s.width s.samples audio quadrature)
  exact sampled.lengthTest.settle.ite sampled

/-! ## Frames from peers (R53) -/

theorem State.Canonical.whenCan (h : s.Canonical) (b : Bool) {f : State → State} (k : (f s).Canonical) :
    (s.whenCan b f).Canonical := k.ite h

theorem State.Canonical.whenRunning (h : s.Canonical) {f : State → State} (k : (f s).Canonical) :
    (s.whenRunning f).Canonical := k.ite h

/-- A frame keeps the form where the blocks of its kind do. -/
theorem State.Canonical.receive {α : Type} (h : s.Canonical) (frame : List Byte) (pick : Payload → Option α)
    (act : α → Station → State → State) (k : ∀ a st x, State.Canonical x → (act a st x).Canonical) :
    (s.receive frame pick act).Canonical := by
  refine h.whenCan _ ?_
  split
  · split
    · exact h.ite (k _ _ _ (h.of_memory (State.peerHeard_arrive_memory _ _ _))).settle
    · exact h
  · exact h

theorem State.Canonical.takeHail (x : Hail) (st : Station) (s : State) (h : s.Canonical) : (s.takeHail x st).Canonical := by
  have heard : ∀ e, (s.setRosterEntry st e).Canonical := fun _ => h
  have announced : ∀ y : State, y.Canonical → y.reannounce.Canonical := fun y hy => by
    unfold State.reannounce
    split
    · exact (hy.queueOpenClose _).ite hy
    · exact hy
  exact (announced _ (heard _)).ite (heard _)

theorem State.Canonical.takeTally (x : Tally) (st : Station) (s : State) (h : s.Canonical) : (s.takeTally x st).Canonical := by
  have directory : (s.tallyHeard st x).Canonical := by
    unfold State.tallyHeard
    split <;> exact h
  have holders : ((s.tallyHeard st x).tallyHolders st x).Canonical := by
    unfold State.tallyHolders
    split <;> exact directory
  exact (holders.alignTally st x).splitAtOnce.takeArrival _

theorem State.Canonical.takeAsk (a : Ask) (st : Station) (s : State) (h : s.Canonical) : (s.takeAsk a st).Canonical := by
  have deferred : (s.deferAsked a).Canonical := by
    unfold State.deferAsked
    split
    · exact State.Canonical.ite h h
    · exact h
  exact (deferred.serve _ _ _).ite ((deferred.startFallback _ _).ite deferred)

theorem State.Canonical.declineRow (h : s.Canonical) (d : Decline) (st : Station) (counted : Bool) :
    (s.declineRow d st counted).Canonical := by
  unfold State.declineRow
  split <;> exact h

theorem State.Canonical.takeDecline (d : Decline) (st : Station) (s : State) (h : s.Canonical) : (s.takeDecline d st).Canonical := by
  have cancelled := h.cancelTimers (fun t => t.isFor d.key d.line && t.primary == st)
  refine State.Canonical.ite ?_ cancelled
  split
  · exact State.Canonical.declineRow (by exact cancelled) d st true
  · exact cancelled.declineRow d st false

theorem State.Canonical.takeSegment (b : Segment) (st : Station) (s : State) (h : s.Canonical) : (s.takeSegment b st).Canonical := by
  unfold State.takeSegment State.takeLaterSegment
  cases b.header with
  | some x =>
    have heard := h.segmentZeroHeard st b x
    exact heard.ite heard
  | none =>
    refine h.ite ?_
    dsimp only
    split
    · exact h
    · split
      · exact h
      · exact h
      · split
        · exact h
        · exact h.takeDueSteps.bodyComplete _ _ _

/-! ## The link (R50, R54, R62) -/

theorem State.Canonical.sentNotice (h : s.Canonical) (f : QueuedFrame) : (s.sentNotice f).Canonical := by
  have asked : ∀ a, (s.askSent a).Canonical := fun a => by
    unfold State.askSent
    split
    · exact State.Canonical.ite h h
    · exact h
  have dropped : (s.dropBody 0).Canonical := State.Canonical.formSegments (by exact h)
  unfold State.sentNotice
  split
  · exact h.ite (h.ownOpenNotice _)
  · exact h
  · exact h
  · exact h
  · exact h.ite (asked _)
  · exact dropped.ite h
  · exact State.Canonical.ite h h

theorem State.Canonical.droppedNotice (h : s.Canonical) (f : QueuedFrame) : (s.droppedNotice f).Canonical := by
  unfold State.droppedNotice
  split
  · exact h.ite (h.ownOpenNotice _)
  · exact h
  · exact h
  · exact h
  · exact h
  · exact h.retireWhere _ _
  · exact State.Canonical.formSegments (by exact h)

theorem State.Canonical.completeAttempt (h : s.Canonical) : s.completeAttempt.Canonical := by
  unfold State.completeAttempt
  split
  · exact State.Canonical.sentNotice (by exact h) _
  · exact h

theorem State.Canonical.faultAttempt (h : s.Canonical) : s.faultAttempt.Canonical := by
  unfold State.faultAttempt
  split
  · exact State.Canonical.ite h (State.Canonical.ite h ((State.Canonical.droppedNotice (by exact h) _).post _ _))
  · exact h

/-! ## Resets (R41, R156 to R159) -/

/-- A warm reset writes at most what the write in progress had reached (R41). -/
theorem State.Canonical.warmReset (h : s.Canonical) : s.warmReset.Canonical := h.tearWrite

theorem State.Canonical.release (h : s.Canonical) : s.release.Canonical := by
  have posted : ∀ (x : State) k l, x.Canonical → (x.postAll k l).Canonical := fun x k l hx => by
    rw [State.postAll_eq]
    exact hx
  exact posted _ .thawDone _ (State.Canonical.ite (posted _ _ _ (by exact h)) h)

/-! ## Requests (R177 to R181) -/

theorem State.Canonical.request (h : s.Canonical) (n : Nat) {f : State → State} (k : (f s).Canonical) :
    (s.request n f).Canonical := by
  have taken : (if s.portReady then f s else s).Canonical := k.ite h
  exact h.whenCan _ taken

theorem State.Canonical.ack (h : s.Canonical) (b : Byte) (r : Result) : (s.ack b r).Canonical := h

theorem State.Canonical.askLines (h : s.Canonical) (slot : Byte) (first count : Nat) : (s.askLines slot first count).Canonical :=
  State.Canonical.ite h (State.Canonical.ite h (State.Canonical.ite h (State.Canonical.ite
    (State.Canonical.makeRead (by exact h)) h)))

theorem State.Canonical.askFreeze (h : s.Canonical) (slot : Byte) : (s.askFreeze slot).Canonical := by
  have asked : State.Canonical { s with lineTable := { s.lineTable with
      requests := s.lineTable.requests ++ [QuietRequest.freeze slot.toNat] } } := h
  exact (h.ack _ _).ite ((h.ack _ _).ite ((asked.makeDueReads.carryOutFreeze _).ite asked))

theorem State.Canonical.askThaw (h : s.Canonical) (slot : Byte) : (s.askThaw slot).Canonical := by
  have thawing : ((s.setHold slot.toNat .thawing).ack 0x04 .ok).Canonical := h
  have thawed : (((s.setHold slot.toNat .none).post .thawDone slot.toNat).ack 0x04 .ok).Canonical := h
  exact (h.ack _ _).ite ((h.ack _ _).ite ((thawing.takeArrival _).ite thawed))

theorem State.Canonical.askDiscard (h : s.Canonical) (slot : Byte) : (s.askDiscard slot).Canonical :=
  (h.ack _ _).ite ((h.ack _ _).ite ((h.ack _ _).ite ((h.releaseSlot _).ack _ _)))

theorem State.Canonical.answerEvent (h : s.Canonical) (b : Byte) (e : Option Event) (x : EventAnswer) :
    (s.answerEvent b e x).Canonical := by
  cases e <;> exact h

theorem State.Canonical.askMask (h : s.Canonical) (mask : Byte) : (s.askMask mask).Canonical := State.Canonical.ite h h

theorem State.Canonical.askPromote (h : s.Canonical) (a b : Byte) : (s.askPromote a b).Canonical := by
  unfold State.askPromote
  split <;> exact h

/-! ## Every command, every step -/

/-- Where an outcome is a next state, chart memory stands in its canonical form there. -/
def CanonicalAfter (o : Host.Outcome State Fault Refusal) : Prop := ∀ t : State, o = .next t → t.Canonical

theorem State.Canonical.next (h : s.Canonical) : CanonicalAfter (.next s) := by
  rintro t ht
  cases ht
  exact h

theorem State.Canonical.strapStreamRead (h : s.Canonical) (stream : BitVec 64) : CanonicalAfter (execStrapStreamRead stream s) := by
  have latched : ∀ c, State.Canonical { s with config := c } := fun _ => h
  refine (h.whenCan _ ?_).next
  exact State.Canonical.ite (latched _) (latched _).release

theorem State.Canonical.resetAsserted (h : s.Canonical) : CanonicalAfter (execResetAsserted s) := by
  have reset := State.Canonical.ite (c := s.running = true) h.warmReset h
  exact State.Canonical.next (by exact reset)

theorem State.Canonical.resetDeasserted (h : s.Canonical) : CanonicalAfter (execResetDeasserted s) := by
  have lowered : State.Canonical { s with config := { s.config with resetPin := false } } := h
  exact (lowered.release.ite lowered).next

theorem State.Canonical.audioSample (h : s.Canonical) (audio : BitVec 16) (quadrature : Int) :
    CanonicalAfter (execAudioSample audio quadrature s) :=
  (h.whenRunning ((h.settleReception.settle.ite h).takeSample _ _)).next

theorem State.Canonical.splitClear (h : s.Canonical) : CanonicalAfter (execSplitClear s) := by
  refine (h.whenRunning ?_).next
  split
  · exact ((h.makeDueReads.carryOutSplit _).takeArrival _).settle
  · exact h

theorem State.Canonical.compositeWriteComplete (h : s.Canonical) : CanonicalAfter (execCompositeWriteComplete s) := by
  refine (h.whenRunning ?_).next
  split
  · exact h.ite (h.makeDueReads.completeComposite _).settle
  · exact h

theorem State.Canonical.poolWriteComplete (h : s.Canonical) : CanonicalAfter (execPoolWriteComplete s) := by
  refine (h.whenRunning ?_).next
  split
  · exact (h.makeDueReads.completePool _).settle.ite h
  · exact h

theorem State.Canonical.arbitrationLost (h : s.Canonical) (bit : Fin 8) : CanonicalAfter (execArbitrationLost bit s) := by
  have lost : ∀ d, State.Canonical { s.reach d with link := s.link.lose } := fun _ => h
  exact (h.whenCan _ (lost _).settle).next

theorem State.Canonical.ownNumberFrame (h : s.Canonical) (frame : List Byte) : CanonicalAfter (execOwnNumberFrame frame s) := by
  have arrived : (s.arrive frame).Canonical := h
  refine (h.whenCan _ ?_).next
  exact State.Canonical.ite arrived arrived

theorem State.Canonical.lossTimerExpiry (h : s.Canonical) (p : Station) : CanonicalAfter (execLossTimerExpiry p s) := by
  have lost : ∀ d, (s.losePeer p d).Canonical := fun d => by
    have ended : ((((s.reach d).setRosterEntry p { (s.reach d).rosterEntry p with state := .lost, lossDeadline := none }).post
        .peerLost p.val).peerLost p).Canonical := State.Canonical.closingTests (by exact h) _
    have retired := ended.retireWhere (fun e => e.target == p) true
    unfold State.losePeer
    dsimp only
    split
    · exact State.Canonical.ite retired retired
    · exact retired
  refine (h.whenRunning ?_).next
  split
  · exact (lost _).settle
  · exact h

theorem State.Canonical.listenTimerExpiry (h : s.Canonical) : CanonicalAfter (execListenTimerExpiry s) := by
  have ended : ∀ d, (s.endListen d).Canonical := fun _ => h
  refine (h.whenRunning ?_).next
  split
  · exact (ended _).settle
  · exact h

theorem State.Canonical.hailTimerExpiry (h : s.Canonical) : CanonicalAfter (execHailTimerExpiry s) := by
  have queued : ∀ d, ((s.reach d).queueHail d).Canonical := fun _ => h
  refine (h.whenRunning ?_).next
  split
  · exact (queued _).settle
  · exact h

theorem State.Canonical.quietTimerExpiry (h : s.Canonical) (c : Nat) : CanonicalAfter (execQuietTimerExpiry c s) := by
  have expired : ∀ d, (s.quietExpires c d).Canonical := fun _ => State.Canonical.closingTest (by exact h) c
  refine (h.whenRunning ?_).next
  split
  · exact (expired _).settle
  · exact h

theorem State.Canonical.reach (h : s.Canonical) (d : Nat) : (s.reach d).Canonical := h

theorem State.Canonical.batchTimerExpiry (h : s.Canonical) : CanonicalAfter (execBatchTimerExpiry s) := by
  refine (h.whenRunning ?_).next
  split
  · exact (h.reach _).queueBatch.settle
  · exact h

theorem State.Canonical.timeOut (h : s.Canonical) (e : FetchEntry) : (s.timeOut e).Canonical := h.retireAll _ _

theorem State.Canonical.fetchFirstDeadline (h : s.Canonical) (p : Station) : CanonicalAfter (execFetchFirstDeadline p s) := by
  have passes : ∀ d e, ((s.reach d).firstDeadlinePasses e).Canonical := fun d e =>
    State.Canonical.ite h ((h.reach d).timeOut e)
  refine (h.whenRunning ?_).next
  split
  · split
    · exact (passes _ _).settle
    · exact h
  · exact h

theorem State.Canonical.fetchTimeout (h : s.Canonical) (p : Station) : CanonicalAfter (execFetchTimeout p s) := by
  refine (h.whenRunning ?_).next
  split
  · split
    · exact ((h.reach _).timeOut _).settle
    · exact ((h.reach _).timeOut _).settle
    · exact h
  · exact h

theorem State.Canonical.deferralExpiry (h : s.Canonical) (c n : Nat) : CanonicalAfter (execDeferralExpiry c n s) := by
  have ended : ∀ d f, ((s.reach d).modifyRow c n f).Canonical := fun _ _ => h
  refine (h.whenRunning ?_).next
  split
  · exact (ended _ _).settle
  · exact h

theorem State.Canonical.fallbackTimerExpiry (h : s.Canonical) (k : Key) (n : Nat) :
    CanonicalAfter (execFallbackTimerExpiry k n s) := by
  refine (h.whenRunning ?_).next
  split
  · exact (((h.reach _).cancelTimers _).serve _ _ _).settle
  · exact h

theorem State.Canonical.badRequest (h : s.Canonical) (message : List Byte) : CanonicalAfter (execBadRequest message s) := by
  cases message with
  | nil => exact (h.whenCan _ h).next
  | cons kind l => exact (h.whenCan _ (h.request _ (f := fun s => s.refuseForm kind) h)).next

theorem State.Canonical.readTransfer (h : s.Canonical) (clocking : Clocking) : CanonicalAfter (execReadTransfer clocking s) := by
  refine (h.whenCan _ ?_).next
  split
  · exact State.Canonical.ite (t := { s with port := { s.port with queue := s.port.queue.drop 1 } }) h h
  · exact h
  · exact h
  · exact h

/-- Every command keeps chart memory in its canonical form. -/
theorem exec_canonical (c : Instr) {s : State} (h : s.Canonical) : CanonicalAfter (exec c s) :=
  match c with
  | .powerGoodRising => (h.whenCan _ h).next
  | .powerGoodFalling => State.Canonical.next h.cutWrite
  | .strapStreamRead stream => h.strapStreamRead stream
  | .resetAsserted => h.resetAsserted
  | .resetDeasserted => h.resetDeasserted
  | .audioSample audio quadrature => h.audioSample audio quadrature
  | .startToneConfirmed => (h.whenCan _ h.startConfirmed.settle).next
  | .stopToneConfirmed => (h.whenCan _ h.stopConfirmed.settle).next
  | .endOfStartTone => (h.whenCan _ h).next
  | .searchPeriodEnd => (h.whenCan _ h.searchEnds.settle).next
  | .phasingPeriodEnd => (h.whenCan _ h.phasingEnds.settle).next
  | .imageLineEnd => (h.whenCan _ h.imageLineEnds.settle).next
  | .splitClear => h.splitClear
  | .freezeCarriedOut slot => (h.whenCan _ (h.makeDueReads.carryOutFreeze slot).settle).next
  | .compositeWriteComplete => h.compositeWriteComplete
  | .poolWriteComplete => h.poolWriteComplete
  | .candidateTaken => (h.whenCan _ h.takeDueSteps.takeNext.settle).next
  | .readLinesRead => (h.whenCan _ h.makeRead).next
  | .bodySnapshot place => (h.whenCan _ (State.Canonical.formSegments (by exact h)).settle).next
  | .tallyRequeue => (h.whenCan _ h.queueBatch.settle).next
  | .transmitStart => (h.whenCan _ h).next
  | .arbitrationLost bit => h.arbitrationLost bit
  | .collisionFault => (h.whenCan _ h.faultAttempt.settle).next
  | .frameSent => (h.whenCan _ h.completeAttempt.settle).next
  | .receiveFrameDiscarded _ _ => (h.whenCan _ h).next
  | .ownNumberFrame frame => h.ownNumberFrame frame
  | .hailReceived frame => (h.receive frame _ _ State.Canonical.takeHail).next
  | .openReceived frame => (h.receive frame _ _ fun o st _ k => k.openHeard st o).next
  | .closeReceived frame => (h.receive frame _ _ fun f st _ k => k.closeHeard st f).next
  | .tallyReceived frame => (h.receive frame _ _ State.Canonical.takeTally).next
  | .askReceived frame => (h.receive frame _ _ State.Canonical.takeAsk).next
  | .declineReceived frame => (h.receive frame _ _ State.Canonical.takeDecline).next
  | .bodySegmentReceived frame => (h.receive frame _ _ State.Canonical.takeSegment).next
  | .lossTimerExpiry peer => h.lossTimerExpiry peer
  | .listenTimerExpiry => h.listenTimerExpiry
  | .hailTimerExpiry => h.hailTimerExpiry
  | .quietTimerExpiry slot => h.quietTimerExpiry slot
  | .batchTimerExpiry => h.batchTimerExpiry
  | .fetchFirstDeadline target => h.fetchFirstDeadline target
  | .fetchTimeout target => h.fetchTimeout target
  | .deferralExpiry slot line => h.deferralExpiry slot line
  | .fallbackTimerExpiry key line => h.fallbackTimerExpiry key line
  | .readLines slot first count => (h.request _ (h.askLines slot first.toNat count.toNat)).next
  | .readDirectory => (h.request _ (h.respond _)).next
  | .freeze slot => (h.request _ (h.askFreeze slot).settle).next
  | .thaw slot => (h.request _ (h.askThaw slot).settle).next
  | .discard slot => (h.request _ (h.askDiscard slot).settle).next
  | .take _ => (h.request _ (h.answerEvent _ _ _)).next
  | .poll => (h.request _ (h.answerEvent _ _ _)).next
  | .setMask mask => (h.request _ (h.askMask mask)).next
  | .promote first second => (h.request _ (h.askPromote first second)).next
  | .status => (h.request _ (h.respond _)).next
  | .readStraps => (h.request _ (h.respond _)).next
  | .restart => (h.request _ h.warmReset.release).next
  | .badRequest message => h.badRequest message
  | .readTransfer clocking => h.readTransfer clocking
  | .lineIdle => (h.whenCan _ h).next

/-- Every step keeps the form: a command's, and the passing of a microsecond. -/
theorem step_canonical {s : State} (h : s.Canonical) : CanonicalAfter (step s) := by
  unfold step
  split
  · exact State.Canonical.next h
  · exact exec_canonical _ (by exact h)

/-- Settles O3: memory changes by `Memory.write` alone, which keeps the form. -/
theorem memoryStaysCanonical : Obligations.MemoryStaysCanonical := fun _ t hs h => step_canonical hs t h

end Sys2Proof.Machine
end

section
/-!
PROOF. The sizing of memory (SizingGivesTwoSlots).
-/
namespace Sys2Proof.Machine

/-- M in KB is the banks fitted times 4 MB, doubled with each depth code (R162). -/
theorem memorySize_eq (bank : Nat) (depth : Code) : memorySize bank depth = (bank + 1) * (4096 * 2 ^ depth.val) := by
  fin_cases depth <;> rfl

/-- One bank of the least depth is fitted at least (R162). -/
theorem le_memorySize (bank : Nat) (depth : Code) : 4096 ≤ memorySize bank depth := by
  rw [memorySize_eq]
  calc 4096 = 1 * (4096 * 1) := rfl
    _ ≤ (bank + 1) * (4096 * 2 ^ depth.val) :=
      Nat.mul_le_mul (Nat.le_add_left 1 bank) (Nat.mul_le_mul_left 4096 Nat.one_le_two_pow)

theorem widthOfCode_le : ∀ w : Code, widthOfCode w ≤ 2048 := by decide

theorem eq_zero_of_widthOfCode : ∀ {w : Code}, widthOfCode w = 1024 → w = 0 := by decide

/-- C at a width, with M, S and P in bytes: each is a whole number of KB (R162). -/
theorem slotCountAt_eq (m : Nat) (w : Code) :
    slotCountAt m w = min 16 ((m * 1024 - 512 * (widthOfCode w / 2)) / (2048 * (widthOfCode w / 2))) := by
  have kilobytes : ∀ p d : Nat, (m * 1024 - p * 1024) / (d * 1024) = (m - p) / d := fun p d => by
    rw [← Nat.sub_mul, Nat.mul_div_mul_right _ _ (by decide)]
  fin_cases w
  · exact congrArg (min 16) (kilobytes 256 1024).symm
  · exact congrArg (min 16) (kilobytes 384 1536).symm
  · exact congrArg (min 16) (kilobytes 512 2048).symm

section
variable {m : Nat} (least : 4096 ≤ m)
include least

theorem three_le_slotCountAt_zero : 3 ≤ slotCountAt m 0 := by
  show 3 ≤ min 16 ((m - 256) / 1024)
  omega

theorem two_le_slotCountAt_one : 2 ≤ slotCountAt m 1 := by
  show 2 ≤ min 16 ((m - 384) / 1536)
  omega

/-- The width in force is the widest, up to the strap's, at which two slots fit: the least memory holds two at 1536 (R162). -/
theorem sizedWidth_spec (w : Code) : 2 ≤ slotCountAt m (sizedWidth m w) ∧ (sizedWidth m w).val ≤ w.val ∧
    ∀ v : Code, (sizedWidth m w).val < v.val → v.val ≤ w.val → slotCountAt m v < 2 := by
  by_cases fits : 2 ≤ slotCountAt m w
  · rw [sizedWidth, if_pos fits]
    exact ⟨fits, Nat.le_refl _, fun v above below => absurd below (Nat.not_le.2 above)⟩
  · have widest : w = 2 := by
      fin_cases w
      · exact absurd (Nat.le_of_succ_le (three_le_slotCountAt_zero least)) fits
      · exact absurd (two_le_slotCountAt_one least) fits
      · rfl
    subst widest
    have stepped : sizedWidth m 2 = 1 := by
      rw [sizedWidth, if_neg fits]
      exact if_pos (two_le_slotCountAt_one least)
    rw [stepped]
    refine ⟨two_le_slotCountAt_one least, by decide, fun v above below => ?_⟩
    obtain rfl : v = 2 := Fin.ext (Nat.le_antisymm below above)
    exact Nat.not_le.1 fits

end

/-- Settles O10: each clause is one about `sizedWidth` at the memory that the straps name. -/
theorem sizingGivesTwoSlots : Obligations.SizingGivesTwoSlots := by
  intro stream st m size pool strapWidth
  obtain ⟨kb, hkb⟩ : ∃ kb, memorySize st.bankCode st.depthCode = kb := ⟨_, rfl⟩
  have least : 4096 ≤ kb := hkb ▸ le_memorySize _ _
  have bytes : m = kb * 1024 := by rw [← hkb, memorySize_eq]
  have width : st.width = sizedWidth kb strapWidth := by rw [← hkb]; rfl
  have count : st.slotCount = slotCountAt kb st.width := by rw [← hkb]; rfl
  have cause : .widthReduced ∈ causesOf stream ↔ sizedWidth kb strapWidth ≠ strapWidth := by
    rw [← hkb]
    simp [causesOf, st, settingsOf, strapWidth]
  have formula : st.slotCount = min 16 ((m - pool) / size) := by rw [count, slotCountAt_eq, bytes]
  obtain ⟨two, narrower, widest⟩ := sizedWidth_spec least strapWidth
  rw [← width] at two narrower widest cause
  have poolFits : pool ≤ m := by
    have := widthOfCode_le st.width
    omega
  refine ⟨count ▸ two, formula, ?_, fun narrowest => ?_, narrower, cause, fun w above below => ?_⟩
  · calc st.slotCount * size + pool ≤ (m - pool) / size * size + pool := by
          rw [formula]
          exact Nat.add_le_add_right (Nat.mul_le_mul_right _ (Nat.min_le_right _ _)) _
      _ ≤ m - pool + pool := Nat.add_le_add_right (Nat.div_mul_le_self _ _) _
      _ = m := Nat.sub_add_cancel poolFits
  · rw [count, eq_zero_of_widthOfCode narrowest]
    exact three_le_slotCountAt_zero least
  · have := widest w above below
    rw [slotCountAt_eq, ← bytes] at this
    omega

end Sys2Proof.Machine
end

section
/-!
PROOF. Lines in chart memory (ChartMemoryHoldsLines).
-/
namespace Sys2Proof.Machine

variable {s : State}

/-! ## The places of lines and pool entries (R163) -/

/-- Entry `i` of a table of entries of `b` bytes ends before a later one starts. -/
theorem entry_ends_before {i j : Nat} (b : Nat) (h : i < j) : i * b + b ≤ j * b :=
  calc i * b + b = (i + 1) * b := (Nat.succ_mul i b).symm
    _ ≤ j * b := Nat.mul_le_mul_right b h

/-- The lines of all slots follow one another: line `n` of slot `c` is the entry 2048c + n of one table (R163). -/
theorem State.lineAddress_eq (s : State) (c n : Nat) : s.lineAddress c n = (c * 2048 + n) * s.lineBytes := by
  rw [State.lineAddress, Nat.add_mul, Nat.mul_assoc]

/-- The pool follows the last slot in the same table (R163). -/
theorem State.poolAddress_eq (s : State) (i : Nat) : s.poolAddress i = (s.slotCount * 2048 + i) * s.lineBytes := by
  rw [State.poolAddress, Nat.add_mul, Nat.mul_assoc]

theorem State.lines_apart {c n c' n' : Nat} (hn : n ≤ 2047) (hn' : n' ≤ 2047) (h : (c, n) ≠ (c', n')) :
    s.lineAddress c n + s.lineBytes ≤ s.lineAddress c' n' ∨ s.lineAddress c' n' + s.lineBytes ≤ s.lineAddress c n := by
  have differ : ¬(c = c' ∧ n = n') := fun ⟨slot, line⟩ => h (by rw [slot, line])
  rw [s.lineAddress_eq, s.lineAddress_eq]
  rcases Nat.lt_or_gt_of_ne (show c * 2048 + n ≠ c' * 2048 + n' by omega) with before | after
  · exact .inl (entry_ends_before _ before)
  · exact .inr (entry_ends_before _ after)

theorem State.line_before_pool {c n : Nat} (hn : n ≤ 2047) (h : c < s.slotCount) (i : Nat) :
    s.lineAddress c n + s.lineBytes ≤ s.poolAddress i := by
  rw [s.lineAddress_eq, s.poolAddress_eq]
  exact entry_ends_before _ (by omega)

theorem State.poolEntries_apart {i j : Nat} (h : i ≠ j) :
    s.poolAddress i + s.lineBytes ≤ s.poolAddress j ∨ s.poolAddress j + s.lineBytes ≤ s.poolAddress i := by
  rw [s.poolAddress_eq, s.poolAddress_eq]
  rcases Nat.lt_or_gt_of_ne h with before | after
  · exact .inl (entry_ends_before _ (Nat.add_lt_add_left before _))
  · exact .inr (entry_ends_before _ (Nat.add_lt_add_left after _))

/-! ## A line stored (R163) -/

theorem State.writeAddress_of_not_pool {w : Write} (h : w.kind ≠ .pool) : s.writeAddress w = s.lineAddress w.slot w.target := by
  unfold State.writeAddress
  split
  · next pool => exact absurd pool h
  · rfl
  · rfl

theorem State.writeAddress_of_pool {w : Write} (h : w.kind = .pool) : s.writeAddress w = s.poolAddress w.target := by
  rw [State.writeAddress, h]

theorem State.length_writeBytes_le (s : State) (w : Write) : (s.writeBytes w).length ≤ s.lineBytes := List.length_take_le _ _

/-- Settles O14: lines and pool entries are entries of one table, and a write fills its own entry alone. -/
theorem chartMemoryHoldsLines : Obligations.ChartMemoryHoldsLines := by
  refine ⟨fun s c n c' n' i i' hn hn' => ⟨State.lines_apart hn hn', fun h => State.line_before_pool hn h i,
    State.poolEntries_apart⟩, fun s w p content whole => ⟨fun kind => ?_, fun kind => ?_, fun a outside => ?_⟩⟩
  · show unpackGrays (Memory.read (Memory.write s.memory (s.writeAddress w) (s.writeBytes w)) (s.lineAddress w.slot w.target)
      s.lineBytes) = p
    rw [State.writeAddress_of_not_pool kind, unpackGrays_read_write content whole]
  · show unpackGrays (Memory.read (Memory.write s.memory (s.writeAddress w) (s.writeBytes w)) (s.poolAddress w.target)
      s.lineBytes) = p
    rw [State.writeAddress_of_pool kind, unpackGrays_read_write content whole]
  · have := s.length_writeBytes_le w
    exact Memory.readByte_write_outside _ _ _ _ (outside.imp_right fun above => by omega)

end Sys2Proof.Machine
end

section
/-!
PROOF. Power-good and the release of the part (PowerGoodGovernsThePart, ResetDeassertedReleases, RestartReleasesAtOnce,
StrapStreamStartsThePart).
-/
namespace Sys2Proof.Machine

variable {s : State}

/-! ## A write cut short (R41, R165) -/

/-- Each byte of a mix is the old or the new one of its place. -/
theorem getElem?_mixBytes (k i : Nat) (old new : List Byte) (j : Nat) {b : Byte} (h : (mixBytes k i old new)[j]? = some b) :
    old[j]? = some b ∨ new[j]? = some b := by
  induction new generalizing i old j with
  | nil => cases old <;> cases h
  | cons n ns ih =>
    cases old with
    | nil => cases h
    | cons o os =>
      cases j with
      | zero =>
        simp only [mixBytes, List.getElem?_cons_zero, Option.some.injEq] at h ⊢
        split at h
        · exact .inr h
        · exact .inl h
      | succ j => exact ih (i + 1) os j h

theorem length_mixBytes (k i : Nat) {old new : List Byte} (h : old.length = new.length) :
    (mixBytes k i old new).length = new.length := by
  induction new generalizing i old with
  | nil => cases old <;> rfl
  | cons n ns ih =>
    cases old with
    | nil => cases h
    | cons o os => exact congrArg (· + 1) (ih (i + 1) (Nat.succ.inj h))

/-- Outside the place of a write cut short every byte reads as before. -/
theorem State.readByte_interruptWrite_outside {w : Write} {a : Nat}
    (h : a < s.writeAddress w ∨ s.writeAddress w + (s.writeBytes w).length ≤ a) :
    Memory.readByte (s.interruptWrite w).memory a = Memory.readByte s.memory a := by
  have short := length_mixBytes_le s.interruptedWrites 0 (Memory.read s.memory (s.writeAddress w) (s.writeBytes w).length)
    (s.writeBytes w)
  exact Memory.readByte_write_outside _ _ _ _ (h.imp_right fun above => by omega)

/-- Inside it every byte is the old or the new one (R41). -/
theorem State.readByte_interruptWrite_inside {w : Write} {i : Nat} (h : i < (s.writeBytes w).length) :
    Memory.readByte (s.interruptWrite w).memory (s.writeAddress w + i) = Memory.readByte s.memory (s.writeAddress w + i) ∨
      Memory.readByte (s.interruptWrite w).memory (s.writeAddress w + i) = (s.writeBytes w)[i] := by
  have whole := length_mixBytes s.interruptedWrites 0 (new := s.writeBytes w)
    (old := Memory.read s.memory (s.writeAddress w) (s.writeBytes w).length) (by simp [Memory.read])
  have reads := Memory.readByte_write_inside s.memory (s.writeAddress w) _ i (by rw [whole]; exact h)
  have stood : (Memory.read s.memory (s.writeAddress w) (s.writeBytes w).length)[i]? =
      some (Memory.readByte s.memory (s.writeAddress w + i)) := by simp [Memory.read, h]
  exact (getElem?_mixBytes _ 0 _ _ i (List.getElem?_eq_getElem (by rw [whole]; exact h))).imp
    (fun old => reads.trans (Option.some.inj (old.symm.trans stood)))
    fun new => reads.trans (Option.some.inj (new.symm.trans (List.getElem?_eq_getElem h)))

/-! ## Power-good (R156, R164) -/

theorem State.cutWrite_idle (h : s.lineTable.started = false ∨ s.lineTable.queue = []) : s.cutWrite = s := by
  unfold State.cutWrite
  split
  · next queue =>
    rcases h with idle | empty
    · simp [idle]
    · rw [queue] at empty
      cases empty
  · rfl

theorem State.cutWrite_started {w : Write} {rest : List Write} (started : s.lineTable.started = true)
    (queue : s.lineTable.queue = w :: rest) : s.cutWrite = s.interruptWrite w := by
  rw [State.cutWrite, queue]
  exact if_pos started

/-- What is left of the part when it is turned off is its memory, the level of the RESET input and what the model keeps. -/
theorem State.coldValues_cutWrite (s : State) (state : ConfigState) : s.cutWrite.coldValues state = { State.reset with
    pending := s.pending, now := s.now, memory := s.cutWrite.memory, interruptedWrites := s.cutWrite.interruptedWrites
    config := { Configuration.reset with state := state, resetPin := s.config.resetPin } } := by
  unfold State.coldValues State.cutWrite
  split
  · split <;> rfl
  · rfl

/-- Settles O16: the fall cuts the write in progress short, and both rows leave the rest at its cold-reset values. -/
theorem powerGoodGovernsThePart : Obligations.PowerGoodGovernsThePart := by
  refine ⟨fun s => ⟨fun off => ?_, fun on => ?_⟩, fun s => ⟨s.cutWrite.memory, s.cutWrite.interruptedWrites, ?_, ?_, ?_⟩⟩
  · exact congrArg Host.Outcome.next (State.whenCan_true (decide_eq_true off) _)
  · exact congrArg Host.Outcome.next (if_neg (by simp [on]))
  · exact congrArg Host.Outcome.next (s.coldValues_cutWrite .off)
  · exact fun idle => by rw [State.cutWrite_idle idle]
  · intro w rest started queue
    rw [State.cutWrite_started started queue]
    exact ⟨fun a => State.readByte_interruptWrite_outside, fun i => State.readByte_interruptWrite_inside⟩

/-! ## The release (R157 to R159, R175) -/

/-- A release puts the part in RUN, starts the listen timer and posts events, of either reset kind; nothing else. -/
theorem State.release_eq (s : State) : s.release = { s with
    config := { s.config with state := .run }
    roster := { s.roster with listenDeadline := some (s.now + 6000000) }
    attention := { s.attention with events := s.release.attention.events, thawDoneAtRelease := [] } } := by
  cases h : s.config.pendingReset
  · exact s.release_cold h
  · exact s.release_warm h

theorem State.postAll_thawDoneAtRelease (s : State) (k : EventKind) (l : List Nat) :
    (s.postAll k l).attention.thawDoneAtRelease = s.attention.thawDoneAtRelease := by
  rw [State.postAll_eq]

/-- The CONFIG_FAULTs of a reset, which a cold one alone has (R161, R175). -/
def State.postFaults (s : State) : State :=
  if s.config.pendingReset = .cold then s.postAll .configFault (s.config.causes.map FaultCause.code) else s

theorem State.postRelease_eq (s : State) : s.postRelease =
    let u := (s.post .restarted s.config.pendingReset.code).postFaults
    let v := u.postAll .thawDone u.attention.thawDoneAtRelease
    { v with attention := { v.attention with thawDoneAtRelease := [] } } := rfl

theorem State.mem_postFaults (s : State) (e : Event) : e ∈ s.postFaults.attention.events ↔
    e ∈ s.attention.events ∨ s.config.pendingReset = .cold ∧ ∃ c ∈ s.config.causes, e = ⟨.configFault, c.code⟩ := by
  unfold State.postFaults
  split
  · next cold => simp [State.mem_postAll, cold]
  · next warm => simp [warm]

theorem State.postFaults_thawDoneAtRelease (s : State) :
    s.postFaults.attention.thawDoneAtRelease = s.attention.thawDoneAtRelease := by
  unfold State.postFaults
  split
  · exact s.postAll_thawDoneAtRelease _ _
  · rfl

theorem ResetKind.code_eq (k : ResetKind) : k.code = if k = .cold then 0 else 1 := by cases k <;> rfl

/-- The events of a release: RESTARTED, the CONFIG_FAULTs of a cold reset, and the THAW_DONEs that are owed (R175). -/
theorem State.mem_release (s : State) (e : Event) : e ∈ s.release.attention.events ↔
    e ∈ s.attention.events ∨ e = ⟨.restarted, if s.config.pendingReset = .cold then 0 else 1⟩ ∨
      (s.config.pendingReset = .cold ∧ ∃ c ∈ s.config.causes, e = ⟨.configFault, c.code⟩) ∨
      ∃ c ∈ s.attention.thawDoneAtRelease, e = ⟨.thawDone, c⟩ := by
  rw [State.release, State.postRelease_eq]
  dsimp only
  rw [State.mem_postAll, State.mem_postFaults, State.mem_post, State.postFaults_thawDoneAtRelease, ResetKind.code_eq,
    or_comm (a := e = _), or_assoc, or_assoc]
  rfl

/-- Settles O20: in HOLDING the release, and its events are those of `State.mem_release`. -/
theorem resetDeassertedReleases : Obligations.ResetDeassertedReleases := by
  refine fun s => ⟨fun holding => ⟨_, ?_, State.mem_release { s with config := { s.config with resetPin := false } }⟩,
    fun other => ?_⟩
  · refine congrArg Host.Outcome.next ((if_pos holding).trans ?_)
    rw [State.release_eq]
  · exact congrArg Host.Outcome.next (if_neg other)

/-! ## RESTART (R159) -/

/-- Settles O21: RESTART is the warm reset of RESET_ASSERTED with the release of RESET_DEASSERTED. -/
theorem restartReleasesAtOnce : Obligations.RestartReleasesAtOnce := by
  intro s ready
  have run := State.run_of_portReady ready
  have reset : execResetAsserted s = .next { s.warmReset with
      config := { s.warmReset.config with resetPin := true, state := .holding } } := by
    simp [execResetAsserted, s.running_eq_true_iff.2 run]
  have restarted : exec .restart s = .next (s.warmReset.release.clockOut [0x01, 0x00]) :=
    congrArg Host.Outcome.next (State.request_ready ready 1 _)
  refine ⟨_, _, reset, restarted, ?_, fun e => ?_⟩
  · have config : { s.warmReset.config with state := .run } = { s.config with pendingReset := .warm } := by
      rw [s.warmReset_eq, ← run]
    have now : s.warmReset.now = s.now := by rw [s.warmReset_eq]
    rw [State.release_eq, config, now]
    rfl
  · have warm : s.warmReset.config.pendingReset = .warm := rfl
    have emptied : s.warmReset.attention.events = [] := rfl
    refine (s.warmReset.mem_release e).trans ?_
    simp [warm, emptied]

/-! ## The strap stream (R157, R160 to R162) -/

/-- The part once its straps are read. -/
def State.latched (s : State) (stream : BitVec 64) : State := { s with config := s.config.latch stream }

theorem State.exec_strapStreamRead (stream : BitVec 64) (h : s.config.state = .reading) :
    exec (.strapStreamRead stream) s = .next (if s.config.resetPin then
      { s.latched stream with config := { s.config.latch stream with state := .holding } } else (s.latched stream).release) :=
  congrArg Host.Outcome.next (State.whenCan_true (decide_eq_true h) _)

/-- Settles O17: with RESET deasserted, the release of the latched part; where nothing is owed no THAW_DONE is posted. -/
theorem strapStreamStartsThePart : Obligations.StrapStreamStartsThePart := by
  refine fun s stream => ⟨fun reading held => ?_, fun reading free cold owed =>
    ⟨(s.latched stream).release.attention.events, ?_, fun e => ?_⟩, fun other => ?_⟩
  · rw [State.exec_strapStreamRead stream reading, held]
    rfl
  · rw [State.exec_strapStreamRead stream reading, free, State.release_eq, ← owed]
    rfl
  · have cold' : (s.latched stream).config.pendingReset = .cold := cold
    have owed' : (s.latched stream).attention.thawDoneAtRelease = [] := owed
    rw [State.mem_release, cold', owed']
    simp only [List.not_mem_nil, false_and, exists_false, or_false, true_and, if_true]
    rfl
  · exact congrArg Host.Outcome.next (if_neg (by simp [other]))

end Sys2Proof.Machine
end

section
/-!
PROOF. What a part outside RUN does with the commands of its blocks and with transfers (HeldPartTakesNothing).
-/
namespace Sys2Proof.Machine

variable {s : State}

/-! ## A part that does not run (R156, R158) -/

section
variable (held : s.config.state ≠ .run)
include held

theorem State.running_held : s.running = false := by simp [State.running, held]

/-- A command that is neither the configuration block's own nor a transfer acts in RUN alone. -/
theorem exec_held {c : Instr} (other : configures c = false) (block : isTransfer c = false) : exec c s = .next s := by
  have idle := State.running_held held
  cases c
  case powerGoodRising | powerGoodFalling | strapStreamRead | resetAsserted | resetDeasserted => cases other
  case readLines | readDirectory | freeze | thaw | discard | take | poll | setMask | promote | status | readStraps | restart
      | badRequest | readTransfer => cases block
  all_goals exact congrArg Host.Outcome.next (if_neg (by simp [idle]))

theorem State.portReady_held : s.portReady = false := by simp [State.portReady, State.running_held held]

theorem State.portStatus_held : s.portStatus = 0x02 := by simp [State.portStatus, State.portReady_held held]

theorem State.headResponse_held : s.headResponse = none := by simp [State.headResponse, State.running_held held]

end

/-! ## What a transfer clocks out (R177) -/

theorem padTo_nil (n : Nat) : padTo n [] = List.replicate n 0 := by simp [padTo]

/-- From `s` to `t` a transfer clocks out FULL and zeros, and in OFF not even that; nothing else changes. -/
def State.ClocksZeros (s t : State) : Prop :=
  ∃ out, t = { s with port := { s.port with clockedOut := out } } ∧
    (s.config.state = .off → out = s.port.clockedOut) ∧ (s.config.state ≠ .off → ∃ n, out = 0x02 :: List.replicate n 0)

/-- The port runs in every state but OFF. -/
theorem State.clocksZeros_whenCan (n : Nat) {f : State → State} (h : f s = s.clockOut (0x02 :: List.replicate n 0)) :
    s.ClocksZeros (s.whenCan (s.config.state != .off) f) := by
  by_cases off : s.config.state = .off
  · exact ⟨s.port.clockedOut, if_neg (by simp [off]), fun _ => rfl, fun on => absurd off on⟩
  · exact ⟨_, (State.whenCan_true (by simp [off]) f).trans h, fun h => absurd h off, fun _ => ⟨n, rfl⟩⟩

section
variable (held : s.config.state ≠ .run)
include held

theorem State.request_clocksZeros (n : Nat) (f : State → State) : s.ClocksZeros (s.request n f) := by
  refine State.clocksZeros_whenCan n ?_
  simp only [State.portStatus_held held, State.portReady_held held, Bool.false_eq_true, if_false]

/-- A READ transfer finds no response. -/
theorem State.readOut_held (clocks : Nat) : s.readOut clocks = s.clockOut (0x02 :: List.replicate clocks 0) := by
  simp [State.readOut, clocked, State.headResponse_held held, State.portStatus_held held, padTo_nil]

theorem State.badRequest_clocksZeros {message : List Byte} (good : (Instr.badRequest message).wellFormed = true) :
    ∃ t, exec (.badRequest message) s = .next t ∧ s.ClocksZeros t := by
  simp only [Instr.wellFormed, Bool.and_eq_true] at good
  obtain ⟨some_bytes, bad_form⟩ := good
  cases message with
  | nil => cases some_bytes
  | cons kind rest =>
    exact ⟨_, congrArg Host.Outcome.next (State.whenCan_true bad_form _), State.request_clocksZeros held _ _⟩

theorem State.readTransfer_clocksZeros {clocking : Clocking} (good : (Instr.readTransfer clocking).wellFormed = true) :
    ∃ t, exec (.readTransfer clocking) s = .next t ∧ s.ClocksZeros t := by
  refine ⟨_, rfl, State.clocksZeros_whenCan clocking.clocks ?_⟩
  have other : clocking.first ≠ 0x01 := by simpa [Instr.wellFormed] using good
  have named : transferOf clocking.first = if clocking.first = 0x02 then .read else .ignored := if_neg other
  by_cases read : clocking.first = 0x02
  · simp only [named, if_pos read]
    exact State.readOut_held held _
  · simp only [named, if_neg read, State.portStatus_held held]

end

/-- A transfer finds the port FULL. -/
theorem exec_transfer_held (held : s.config.state ≠ .run) {c : Instr} (transfer : isTransfer c = true)
    (good : c.wellFormed = true) : ∃ t, exec c s = .next t ∧ s.ClocksZeros t := by
  cases c
  case badRequest => exact State.badRequest_clocksZeros held good
  case readTransfer => exact State.readTransfer_clocksZeros held good
  case readLines | readDirectory | freeze | thaw | discard | take | poll | setMask | promote | status | readStraps | restart =>
    exact ⟨_, rfl, State.request_clocksZeros held _ _⟩
  all_goals cases transfer

/-! ## The statement -/

/-- Settles O22: a transfer finds the port FULL or not running, and every other command is one of a block that is held. -/
theorem heldPartTakesNothing : Obligations.HeldPartTakesNothing := by
  intro c s held other good
  cases transfer : isTransfer c
  · exact ⟨s.port.clockedOut, exec_held held other transfer, fun _ => rfl, fun h => by cases h⟩
  · obtain ⟨_, done, out, rfl, off, on⟩ := exec_transfer_held held transfer good
    exact ⟨out, done, fun h => off (h.resolve_left (by decide)), fun _ => on⟩

end Sys2Proof.Machine
end

section
/-!
PROOF. The ATTENTION unit's requests: which pending entry is taken, and what the mask and the promotions become
(EventsAreTakenByRank, MaskAndPromotionsAreSet).
-/
namespace Sys2Proof.Machine

variable {s : State}

/-! ## Levels and ranks (R168) -/

theorem EventKind.level_mem (k : EventKind) : 1 ≤ k.level ∧ k.level ≤ 7 := by cases k <;> decide

theorem effectiveLevel_mem (promotions : List EventKind) (k : EventKind) :
    1 ≤ effectiveLevel promotions k ∧ effectiveLevel promotions k ≤ 7 := by
  unfold effectiveLevel
  split
  · decide
  · exact k.level_mem

theorem promotionPlace_le (promotions : List EventKind) (k : EventKind) : promotionPlace promotions k ≤ 2 := by
  unfold promotionPlace
  split
  · exact le_rfl
  · split
    · decide
    · split <;> decide

/-- With two promotions at most, a promoted kind's place is its place in the list. -/
theorem promotionPlace_eq {promotions : List EventKind} (two : promotions.length ≤ 2) (k : EventKind) :
    promotionPlace promotions k = if promotions.idxOf k < promotions.length then promotions.idxOf k else 2 := by
  match promotions, two with
  | [], _ => rfl
  | [p], _ =>
    by_cases first : p = k
    · simp [promotionPlace, first]
    · simp [promotionPlace, Ne.symm first]
  | [p, q], _ =>
    by_cases first : p = k
    · simp [promotionPlace, first]
    · by_cases second : q = k
      · simp [promotionPlace, first, second, Ne.symm first]
      · simp [promotionPlace, Ne.symm first, Ne.symm second]

/-- The places order kinds as the promotions list them. -/
theorem promotionPlace_compare {promotions : List EventKind} (two : promotions.length ≤ 2) (a b : EventKind) :
    (promotions.idxOf a < promotions.idxOf b → promotionPlace promotions a < promotionPlace promotions b) ∧
    (promotions.idxOf a = promotions.idxOf b → promotionPlace promotions a = promotionPlace promotions b) := by
  have within : promotions.idxOf b ≤ promotions.length := List.idxOf_le_length
  rw [promotionPlace_eq two, promotionPlace_eq two]
  split <;> split <;> omega

/-- An entry that ranks above another has the lower rank number, or the same one and an earlier place in the set. -/
theorem eventRank_of_ranksAbove {promotions : List EventKind} (two : promotions.length ≤ 2) {a b : Event}
    (above : ranksAbove promotions a b) : eventRank promotions a < eventRank promotions b ∨
      eventRank promotions a = eventRank promotions b ∧ a.before b = true := by
  change effectiveLevel promotions b.kind < effectiveLevel promotions a.kind ∨
    effectiveLevel promotions a.kind = effectiveLevel promotions b.kind ∧ _ at above
  obtain ⟨earlier, same⟩ := promotionPlace_compare two a.kind b.kind
  unfold eventRank
  rcases above with higher | ⟨level, place | ⟨place, first⟩⟩
  · have := effectiveLevel_mem promotions a.kind
    have := promotionPlace_le promotions a.kind
    omega
  · have := earlier place
    omega
  · exact .inr ⟨by rw [level, same place], a.before_iff b |>.2 first⟩

/-! ## The entry that is taken (R168, R172, R173) -/

/-- In a list kept in an order, the least element that comes before its equals is the first of the least. -/
theorem firstLeast_eq_some_of_pairwise {α : Type} {f : α → Nat} {r : α → α → Prop} (asymm : ∀ a b, r a b → ¬r b a)
    {l : List α} (ordered : l.Pairwise r) {x : α} (hx : x ∈ l)
    (least : ∀ y ∈ l, y = x ∨ f x < f y ∨ f x = f y ∧ r x y) : firstLeast f l = some x := by
  induction l with
  | nil => cases hx
  | cons y t ih =>
    obtain ⟨before, ordered⟩ := List.pairwise_cons.1 ordered
    obtain ⟨hy, ht⟩ := List.forall_mem_cons.1 least
    by_cases head : y = x
    · subst head
      cases found : firstLeast f t with
      | none => simp [firstLeast, found]
      | some z =>
        have le : f y ≤ f z := by
          rcases ht z (mem_of_firstLeast found) with rfl | lt | ⟨eq, -⟩
          exacts [le_rfl, lt.le, eq.le]
        simp [firstLeast, found, le]
    · have tail : x ∈ t := (List.mem_cons.1 hx).resolve_left (Ne.symm head)
      have lt : f x < f y := by
        rcases hy with eq | lt | ⟨-, after⟩
        exacts [absurd eq head, lt, absurd after (asymm _ _ (before x tail))]
      simp [firstLeast, ih ordered tail ht, lt]

theorem Event.before_asymm (a b : Event) (h : a.before b = true) : ¬b.before a = true := by
  rw [Event.before_iff] at *
  omega

/-- Of entries in the set's order, the one that ranks above all others is the highest. -/
theorem highestEvent_eq_some {promotions : List EventKind} (two : promotions.length ≤ 2) {l : List Event}
    (ordered : l.Pairwise (fun a b => a.before b = true)) {e : Event} (he : e ∈ l)
    (top : ∀ x ∈ l, x = e ∨ ranksAbove promotions e x) : highestEvent promotions l = some e :=
  firstLeast_eq_some_of_pairwise Event.before_asymm ordered he fun x hx => (top x hx).imp_right (eventRank_of_ranksAbove two)

theorem Attention.mem_atLevel (a : Attention) (level : Nat) (e : Event) :
    e ∈ a.atLevel level ↔ e ∈ a.events ∧ effectiveLevel a.promotions e.kind = level := by
  simp [Attention.atLevel]

theorem Attention.atLevel_eq_nil {a : Attention} {level : Nat}
    (h : ∀ e ∈ a.events, effectiveLevel a.promotions e.kind ≠ level) : a.atLevel level = [] :=
  List.filter_eq_nil_iff.2 fun e he => by simpa using h e he

/-- No entry has a level outside 1 to 7, so a TAKE is answered by its level alone. -/
theorem State.askTake_eq (s : State) (level : Byte) : s.askTake level =
    s.answerEvent 0x06 (highestEvent s.attention.promotions (s.attention.atLevel level.toNat)) .spurious := by
  unfold State.askTake
  by_cases named : 1 ≤ level.toNat ∧ level.toNat ≤ 7
  · simp [named]
  · have none_there : s.attention.atLevel level.toNat = [] := Attention.atLevel_eq_nil fun e _ there =>
      named (there ▸ effectiveLevel_mem s.attention.promotions e.kind)
    simp [none_there, highestEvent, firstLeast]

theorem exec_take_ready (ready : s.portReady = true) (level : Byte) : exec (.take level) s = .next
    ((s.answerEvent 0x06 (highestEvent s.attention.promotions (s.attention.atLevel level.toNat)) .spurious).clockOut
      [0x01, 0, 0]) := by
  rw [← s.askTake_eq]
  exact congrArg Host.Outcome.next (s.request_ready ready 2 _)

theorem exec_poll_ready (ready : s.portReady = true) : exec .poll s = .next
    ((s.answerEvent 0x07 (highestEvent s.attention.promotions s.attention.events) .none).clockOut [0x01, 0]) :=
  congrArg Host.Outcome.next (s.request_ready ready 1 _)

/-- The output follows the mask while the part runs (R169). -/
theorem State.attentionOutput_iff (run : s.config.state = .run) : s.attentionOutput = true ↔
    ∃ e ∈ s.attention.events, s.attention.mask < effectiveLevel s.attention.promotions e.kind := by
  simp [State.attentionOutput, s.running_eq_true_iff.2 run]

/-- Settles O56: the set stands in the order that breaks ties, so the first entry of the least rank is the highest. -/
theorem eventsAreTakenByRank : Obligations.EventsAreTakenByRank := by
  intro s ready distinct two
  refine ⟨State.attentionOutput_iff (State.run_of_portReady ready), fun n absent => ?_, fun n e he level top => ?_,
    fun empty => ?_, fun e he top => ?_⟩
  · rw [exec_take_ready ready, Attention.atLevel_eq_nil absent]
    rfl
  · have highest : highestEvent s.attention.promotions (s.attention.atLevel n.toNat) = some e :=
      highestEvent_eq_some two (distinct.filter _) ((s.attention.mem_atLevel _ e).2 ⟨he, level⟩) fun x hx =>
        have ⟨pending, same⟩ := (s.attention.mem_atLevel _ x).1 hx
        top x pending same
    rw [exec_take_ready ready, highest]
    rfl
  · have nothing : highestEvent s.attention.promotions s.attention.events = none := by rw [empty]; rfl
    rw [exec_poll_ready ready, nothing, ← empty]
    rfl
  · rw [exec_poll_ready ready, highestEvent_eq_some two distinct he top]
    rfl

/-! ## The mask and the promotions (R170, R171) -/

theorem exec_setMask_ready (ready : s.portReady = true) (mask : Byte) :
    exec (.setMask mask) s = .next ((s.askMask mask).clockOut [0x01, 0, 0]) :=
  congrArg Host.Outcome.next (s.request_ready ready 2 _)

theorem exec_promote_ready (ready : s.portReady = true) (first second : Byte) :
    exec (.promote first second) s = .next ((s.askPromote first second).clockOut [0x01, 0, 0, 0]) :=
  congrArg Host.Outcome.next (s.request_ready ready 3 _)

theorem State.askMask_refused {mask : Byte} (above : 7 < mask.toNat) :
    s.askMask mask = s.respond (.ack 0x08 .badRequest (BitVec.ofNat 8 s.attention.mask)) := if_pos above

theorem State.askMask_taken {mask : Byte} (good : mask.toNat ≤ 7) :
    s.askMask mask = ({ s with attention := { s.attention with mask := min mask.toNat 6 } }).respond
      (.ack 0x08 .ok (BitVec.ofNat 8 (min mask.toNat 6))) := if_neg (Nat.not_lt.2 good)

/-- The codes number the kinds of the table from 1 (R182). -/
theorem eventKindOf_succ (i : Nat) : eventKindOf (i + 1) = eventKinds[i]? := by
  by_cases last : i < 15
  · interval_cases i <;> rfl
  · have beyond : ∀ k ∈ eventKinds, ¬(k.code == i + 1) = true := by
      have bounded : ∀ k ∈ eventKinds, k.code ≤ 15 := by decide
      intro k hk
      have := bounded k hk
      simp only [beq_iff_eq]
      omega
    rw [eventKindOf, List.find?_eq_none.2 beyond, List.getElem?_eq_none (Nat.not_lt.1 last)]

theorem eventKindOf_zero : eventKindOf 0 = none := rfl

/-- A code that PROMOTE takes: 00, or that of a kind whose native level is not 7 (R171). -/
def promotable (code : Nat) : Bool :=
  code = 0 || (match eventKindOf code with
    | some k => k.level != 7
    | none => false)

theorem promotable_eq_false_iff (code : Nat) : promotable code = false ↔ code = 1 ∨ code = 2 ∨ 15 < code := by
  by_cases known : code ≤ 15
  · interval_cases code <;> decide
  · obtain ⟨i, rfl⟩ : ∃ i, code = i + 1 := ⟨code - 1, by omega⟩
    have unnamed : eventKinds[i]? = none := List.getElem?_eq_none (show 15 ≤ i by omega)
    simp [promotable, eventKindOf_succ, unnamed]
    omega

/-- The kinds given by the two codes, each once (R171). -/
def kindsGiven : Option EventKind → Option EventKind → List EventKind
  | some a, some b => if a = b then [a] else [a, b]
  | some a, none => [a]
  | none, some b => [b]
  | none, none => []

theorem promotionList_eq (first second : Nat) : promotionList first second =
    if promotable first && promotable second then some (kindsGiven (eventKindOf first) (eventKindOf second)) else none := by
  cases named : eventKindOf first <;> cases named' : eventKindOf second <;>
    simp only [promotionList, promotable, kindsGiven, named, named']

theorem State.askPromote_refused {first second : Byte}
    (bad : promotable first.toNat = false ∨ promotable second.toNat = false) :
    s.askPromote first second = s.ack 0x09 .badKind := by
  have none_made : promotionList first.toNat second.toNat = none := by
    rw [promotionList_eq, if_neg (by rcases bad with h | h <;> simp [h])]
  rw [State.askPromote, none_made]

theorem State.askPromote_taken {first second : Byte} (good : promotable first.toNat = true)
    (good' : promotable second.toNat = true) : s.askPromote first second =
    ({ s with attention := { s.attention with
        promotions := kindsGiven (eventKindOf first.toNat) (eventKindOf second.toNat) } }).ack 0x09 .ok := by
  have made : promotionList first.toNat second.toNat =
      some (kindsGiven (eventKindOf first.toNat) (eventKindOf second.toNat)) := by
    rw [promotionList_eq, if_pos (by simp [good, good'])]
  rw [State.askPromote, made]

/-- A code that PROMOTE takes is 00 or counts the kinds from the third of the table. -/
theorem eventKindOf_promotable {code : Byte} (good : ¬(code.toNat = 1 ∨ code.toNat = 2 ∨ 15 < code.toNat)) :
    eventKindOf code.toNat = if code = 0 then none else (eventKinds.drop 2)[code.toNat - 3]? := by
  by_cases absent : code = 0
  · rw [if_pos absent, absent]
    exact eventKindOf_zero
  · have given : code.toNat ≠ 0 := fun h => absent (BitVec.eq_of_toNat_eq h)
    obtain ⟨i, hi⟩ : ∃ i, code.toNat = i + 3 := ⟨code.toNat - 3, by omega⟩
    rw [if_neg absent, hi, eventKindOf_succ, List.getElem?_drop, Nat.add_sub_cancel, Nat.add_comm 2 i]

/-- Settles O57: the mask by its two cases, a PROMOTE by whether both its codes are promotable. -/
theorem maskAndPromotionsAreSet : Obligations.MaskAndPromotionsAreSet := by
  intro s ready
  refine ⟨fun mask good => ?_, fun mask above => ?_, fun first second bad => ?_, fun first second good good' => ?_⟩
  · rw [exec_setMask_ready ready, State.askMask_taken good]
    rfl
  · rw [exec_setMask_ready ready, State.askMask_refused above]
    rfl
  · rw [exec_promote_ready ready,
      State.askPromote_refused (bad.imp (promotable_eq_false_iff _).2 (promotable_eq_false_iff _).2)]
    rfl
  · have promotable_of {code : Byte} (h : ¬(code.toNat = 1 ∨ code.toNat = 2 ∨ 15 < code.toNat)) :
        promotable code.toNat = true := by simpa using mt (promotable_eq_false_iff _).1 h
    rw [exec_promote_ready ready, State.askPromote_taken (promotable_of good) (promotable_of good'),
      eventKindOf_promotable good, eventKindOf_promotable good']
    rfl

end Sys2Proof.Machine
end

section
/-!
PROOF. A request of bad form, and a request that finds the port FULL (BadAndLateRequestsChangeNothing).
-/
namespace Sys2Proof.Machine

variable {s : State}

/-! ## What the port reads in RUN (R177) -/

theorem State.portReady_run (run : s.config.state = .run) :
    s.portReady = decide (s.port.queue.length + s.placesHeld < 4) := by
  simp [State.portReady, s.running_eq_true_iff.2 run]

theorem State.portStatus_run (run : s.config.state = .run) :
    s.portStatus = if s.port.queue.length + s.placesHeld < 4 then 0x01 else 0x02 := by
  simp [State.portStatus, State.portReady_run run]

/-- The port runs in RUN. -/
theorem State.port_on (run : s.config.state = .run) : (s.config.state != .off) = true := by simp [run]

/-- A request that finds the port FULL is clocked in to no effect (R177). -/
theorem State.request_full (run : s.config.state = .run) (full : 4 ≤ s.port.queue.length + s.placesHeld) (n : Nat)
    (f : State → State) : s.request n f = s.clockOut (0x02 :: List.replicate n 0) := by
  have notReady : ¬s.portReady = true := by simpa [State.portReady_run run] using full
  rw [State.request, State.whenCan_true (State.port_on run), if_neg notReady, State.portStatus, if_neg notReady]

/-! ## Messages of bad form (R179) -/

theorem exec_badRequest {kind : Byte} {rest : List Byte} (bad : requestFormGood (kind :: rest) = false) :
    exec (.badRequest (kind :: rest)) s = .next (s.request (rest.length + 1) (fun s => s.refuseForm kind)) :=
  congrArg Host.Outcome.next (State.whenCan_true (by simp [bad]) _)

/-- A message that a sender may give as one of bad form has a kind byte. -/
theorem badRequest_of_wellFormed {message : List Byte} (good : (Instr.badRequest message).wellFormed = true) :
    ∃ kind rest, message = kind :: rest ∧ requestFormGood (kind :: rest) = false := by
  cases message with
  | nil => cases good
  | cons kind rest => exact ⟨kind, rest, rfl, by simpa [Instr.wellFormed] using good⟩

/-- Every transfer but a READ brings a request: some bytes clocked in, and what becomes of it where it is taken. -/
theorem exec_request {c : Instr} (transfer : isTransfer c = true) (brings : ∀ clocking, c ≠ .readTransfer clocking)
    (good : c.wellFormed = true) (s : State) : ∃ n f, exec c s = .next (s.request n f) := by
  cases c
  case badRequest message =>
    obtain ⟨kind, rest, rfl, bad⟩ := badRequest_of_wellFormed good
    exact ⟨_, _, exec_badRequest bad⟩
  case readTransfer clocking => exact absurd rfl (brings clocking)
  case readLines | readDirectory | freeze | thaw | discard | take | poll | setMask | promote | status | readStraps | restart =>
    exact ⟨_, _, rfl⟩
  all_goals cases transfer

/-- Settles O59: a bad form is refused where the port reads READY, and any request is ignored where it reads FULL. -/
theorem badAndLateRequestsChangeNothing : Obligations.BadAndLateRequestsChangeNothing := by
  intro s run
  refine ⟨fun kind rest ready bad => ?_, fun full c transfer brings good => ?_⟩
  · rw [exec_badRequest bad, State.request_ready ready]
    rfl
  · obtain ⟨n, f, done⟩ := exec_request transfer brings good s
    exact ⟨n, by rw [done, State.request_full run full]; rfl⟩

end Sys2Proof.Machine
end

section
/-!
PROOF. Octets, words and bit fields of a message, and what stands in it at an offset.
-/
namespace Sys2Proof.Machine

/-! ## Reading a message -/

/-- The byte at a place of a message; 00 past its end. -/
def octetAt (l : List Byte) (i : Nat) : Byte := l.getD i 0

/-- The two bytes from a place of a message as a number, the high one first. -/
def wordAt (l : List Byte) (i : Nat) : Nat := 256 * (octetAt l i).toNat + (octetAt l (i + 1)).toNat

/-- The `width` bits of a byte from bit `low` up, as a number. -/
def fieldOf (b : Byte) (low width : Nat) : Nat := b.toNat / 2 ^ low % 2 ^ width

theorem fieldOf_eq_extractLsb' (b : Byte) (low width : Nat) : fieldOf b low width = (b.extractLsb' low width).toNat := by
  simp [fieldOf, Nat.shiftRight_eq_div_pow]

theorem octetAt_append_left {a : List Byte} {i : Nat} (h : i < a.length) (b : List Byte) : octetAt (a ++ b) i = octetAt a i :=
  List.getD_append _ _ _ _ h

theorem octetAt_append_right (a b : List Byte) (i : Nat) : octetAt (a ++ b) (a.length + i) = octetAt b i := by
  simp [octetAt, List.getD_eq_getElem?_getD, List.getElem?_append_right]

theorem octetAt_of_getElem? {l : List Byte} {i : Nat} {x : Byte} (h : l[i]? = some x) : octetAt l i = x := by
  simp [octetAt, List.getD_eq_getElem?_getD, h]

/-! ## Numbers in two bytes -/

theorem bytes16_word (n : Nat) : 256 * (BitVec.ofNat 8 (n / 256)).toNat + (BitVec.ofNat 8 n).toNat = n % 65536 := by
  simp only [BitVec.toNat_ofNat]
  omega

theorem bytesInt16_word (n : Int) :
    ((256 * ((BitVec.ofInt 16 n).extractLsb' 8 8).toNat + ((BitVec.ofInt 16 n).extractLsb' 0 8).toNat : Nat) : Int) =
      n % 65536 := by
  have joined : 256 * ((BitVec.ofInt 16 n).extractLsb' 8 8).toNat + ((BitVec.ofInt 16 n).extractLsb' 0 8).toNat =
      (BitVec.ofInt 16 n).toNat := by
    have := (BitVec.ofInt 16 n).isLt
    simp only [BitVec.extractLsb'_toNat, Nat.shiftRight_eq_div_pow]
    omega
  rw [joined, BitVec.toNat_ofInt]
  exact Int.toNat_of_nonneg (Int.emod_nonneg _ (by decide))

/-! ## What stands at an offset -/

/-- The bytes `c` stand in `b` from the offset `o` on. -/
def BytesAt (b : List Byte) (o : Nat) (c : List Byte) : Prop := ∀ j, j < c.length → octetAt b (o + j) = octetAt c j

namespace BytesAt

variable {a b c d : List Byte} {o : Nat}

theorem self (b : List Byte) : BytesAt b 0 b := fun j _ => congrArg _ (Nat.zero_add j)

theorem word (h : BytesAt b o c) {j : Nat} (hj : j + 1 < c.length) : wordAt b (o + j) = wordAt c j := by
  rw [wordAt, wordAt, h j (by omega), Nat.add_assoc, h (j + 1) hj]

theorem before (h : BytesAt b o c) (a : List Byte) : BytesAt (a ++ b) (a.length + o) c := fun j hj => by
  rw [Nat.add_assoc, octetAt_append_right, h j hj]

theorem after (h : BytesAt b o c) (fits : o + c.length ≤ b.length) (d : List Byte) : BytesAt (b ++ d) o c := fun j hj => by
  rw [octetAt_append_left (by omega), h j hj]

/-- What stands within bytes that stand in a message. -/
theorem right (h : BytesAt b o (a ++ c)) : BytesAt b (o + a.length) c := fun j hj => by
  rw [Nat.add_assoc, h _ (by simpa using hj), octetAt_append_right]

/-- In a row of parts of one length each stands at a multiple of it. -/
theorem flatten {n : Nat} : ∀ {parts : List (List Byte)} {i : Nat}, (∀ p ∈ parts, p.length = n) → parts[i]? = some c →
    BytesAt parts.flatten (i * n) c
  | [], _, _, h => by cases h
  | p :: parts, 0, even, h => by
    obtain rfl : p = c := by simpa using h
    rw [Nat.zero_mul]
    exact (self p).after (by simp) _
  | p :: parts, i + 1, even, h => by
    obtain ⟨len, even⟩ := List.forall_mem_cons.1 even
    have next := (flatten even (by simpa using h)).before p
    rwa [len, Nat.add_comm, ← Nat.succ_mul] at next

end BytesAt

theorem length_flatten_of_even {n : Nat} {parts : List (List Byte)} (even : ∀ p ∈ parts, p.length = n) :
    parts.flatten.length = parts.length * n := by
  rw [List.length_flatten, List.map_congr_left even, List.map_const', List.sum_replicate, smul_eq_mul]

/-! ## Codes (R182): each is the place in its table -/

theorem Result.code_eq (r : Result) : r.code = BitVec.ofNat 8
    ([Result.ok, .badSlot, .held, .notHeld, .active, .busyRead, .badKind, .badRequest].idxOf r) := by
  cases r <;> rfl

theorem EventKind.code_eq (k : EventKind) : k.code = eventKinds.idxOf k + 1 := by cases k <;> rfl

theorem originCode_eq (o : Option Origin) : originCode o = [none, some Origin.own, some .peer, some .merged].idxOf o := by
  rcases o with _ | o
  · rfl
  · cases o <;> rfl

theorem originCode_lt (o : Option Origin) : originCode o < 4 := by
  rcases o with _ | o
  · decide
  · cases o <;> decide

theorem ChartState.code_eq (x : ChartState) : x.code = [ChartState.aligning, .opened, .closed].idxOf x := by cases x <;> rfl

theorem ChartState.code_lt (x : ChartState) : x.code < 3 := by cases x <;> decide

theorem Hold.code_eq (h : Hold) : h.code = [Hold.none, .frozen, .thawing].idxOf h := by cases h <;> rfl

theorem Hold.code_lt (h : Hold) : h.code < 3 := by cases h <;> decide

theorem CloseReason.code_eq (r : CloseReason) :
    r.code = [CloseReason.stop, .fade, .length, .newStart, .reset, .quiet, .splitAway].idxOf r := by cases r <;> rfl

theorem endCauseCode_eq (e : Option EndCause) :
    endCauseCode e = [none, some EndCause.close, some .loss, some .reset].idxOf e := by
  rcases e with _ | e
  · rfl
  · cases e <;> rfl

theorem endCauseCode_lt (e : Option EndCause) : endCauseCode e < 4 := by
  rcases e with _ | e
  · decide
  · cases e <;> decide

theorem Demodulator.code_eq (d : Demodulator) : d.code = [Demodulator.search, .startTone, .phasing, .image].idxOf d := by
  cases d <;> rfl

theorem Demodulator.code_lt (d : Demodulator) : d.code < 4 := by cases d <;> decide

theorem ReportedState.code_eq (x : ReportedState) : x.code = [ReportedState.listen, .joined, .mute].idxOf x := by
  cases x <;> rfl

theorem ReportedState.code_lt (x : ReportedState) : x.code < 3 := by cases x <;> decide

theorem PeerState.code_eq (x : PeerState) : x.code = [PeerState.absent, .live, .lost].idxOf x := by cases x <;> rfl

theorem PeerState.code_lt (x : PeerState) : x.code < 3 := by cases x <;> decide

/-! ## Bytes of several fields (R182) -/

theorem lineByte_fields : ∀ (last held named : Bool) (origin : Fin 4) (st : Station),
    let a := BitVec.ofNat 8 (boolNat last 128 + boolNat held 64 + boolNat named 32 + origin.val * 8 + st.val)
    a.getLsbD 7 = last ∧ a.getLsbD 6 = held ∧ a.getLsbD 5 = named ∧ fieldOf a 3 2 = origin.val ∧ fieldOf a 0 3 = st.val := by
  decide

theorem slotByte_fields : ∀ (bound late : Bool) (state hold : Fin 3),
    let a := BitVec.ofNat 8 (128 + boolNat bound 64 + boolNat late 32 + state.val * 8 + hold.val * 2)
    a.getLsbD 7 = true ∧ a.getLsbD 6 = bound ∧ a.getLsbD 5 = late ∧ fieldOf a 3 2 = state.val ∧
      fieldOf a 1 2 = hold.val := by decide

theorem slotKeyByte_fields : ∀ (rate : Code) (offset expected highest : Bool) (origin : Station),
    let a := BitVec.ofNat 8 (rate.val * 64 + boolNat offset 32 + boolNat expected 16 + boolNat highest 8 + origin.val)
    fieldOf a 6 2 = rate.val ∧ a.getLsbD 5 = offset ∧ a.getLsbD 4 = expected ∧ a.getLsbD 3 = highest ∧
      fieldOf a 0 3 = origin.val := by decide

theorem contributorByte_fields : ∀ (active : Bool) (cause : Fin 4) (st : Station),
    let a := BitVec.ofNat 8 (128 + boolNat active 64 + cause.val * 16 + st.val)
    a.getLsbD 7 = true ∧ a.getLsbD 6 = active ∧ fieldOf a 4 2 = cause.val ∧ fieldOf a 0 3 = st.val := by decide

theorem stationByte_fields : ∀ (state : Fin 3) (st : Station), let a := BitVec.ofNat 8 (state.val * 16 + st.val)
    fieldOf a 4 2 = state.val ∧ fieldOf a 0 3 = st.val := by decide

theorem receptionByte_fields : ∀ (bound unphased : Bool) (slot : Fin 16) (state : Fin 4),
    let a := BitVec.ofNat 8 (boolNat bound 128 + slot.val * 8 + boolNat unphased 4 + state.val)
    a.getLsbD 7 = bound ∧ fieldOf a 3 4 = slot.val ∧ a.getLsbD 2 = unphased ∧ fieldOf a 0 2 = state.val := by decide

theorem silentPeerByte_fields : ∀ state : Fin 3, let a := BitVec.ofNat 8 (state.val * 64)
    fieldOf a 6 2 = state.val ∧ a.getLsbD 5 = false := by decide

theorem heardPeerByte_fields : ∀ (state : Fin 3) (bound : Bool) (width rate : Code),
    let a := BitVec.ofNat 8 (state.val * 64 + 32 + boolNat bound 16 + width.val * 4 + rate.val)
    fieldOf a 6 2 = state.val ∧ a.getLsbD 5 = true ∧ a.getLsbD 4 = bound ∧ fieldOf a 2 2 = width.val ∧
      fieldOf a 0 2 = rate.val := by decide

theorem causesByte_bits : ∀ a b c d e : Bool,
    let x := BitVec.ofNat 8 (boolNat a 1 + boolNat b 2 + boolNat c 4 + boolNat d 8 + boolNat e 16)
    x.getLsbD 0 = a ∧ x.getLsbD 1 = b ∧ x.getLsbD 2 = c ∧ x.getLsbD 3 = d ∧ x.getLsbD 4 = e := by decide

end Sys2Proof.Machine
end

section
/-!
PROOF. The byte layouts of the responses (R180, R182, R184).
-/
namespace Sys2Proof.Machine

/-! ## The count (R182) -/

theorem Response.length_bytes (r : Response) : r.bytes.length = r.body.length + 3 := by
  simp [Response.bytes, bytes16]

theorem Response.count_word {r : Response} (fits : r.bytes.length < 65539) : wordAt r.bytes 1 + 3 = r.bytes.length := by
  have count : wordAt r.bytes 1 = r.body.length % 65536 := bytes16_word _
  rw [r.length_bytes] at fits ⊢
  omega

/-- The kind and the count come before the body. -/
theorem Response.bodyAt (r : Response) : BytesAt r.bytes 3 r.body :=
  (BytesAt.self r.body).before [r.kind, BitVec.ofNat 8 (r.body.length / 256), BitVec.ofNat 8 r.body.length]

/-! ## ACK and EVENT (R182) -/

theorem ack_bytes (request : Byte) (result : Result) (value : Byte) :
    (Response.ack request result value).bytes = [0x83, 0, 3, request, result.code, value] := by
  simp [Response.bytes, Response.kind, Response.body, bytes16]

theorem event_bytes (request : Byte) (answer : EventAnswer) :
    (Response.event request answer).bytes = 0x84 :: 0 :: 4 :: request :: answer.bytes := by
  cases answer <;> simp [Response.bytes, Response.kind, Response.body, EventAnswer.bytes, bytes16]

/-! ## LINES (R180, R182) -/

theorem packGrays_octet : ∀ {l : Pixels} {half j : Nat}, l.length = 2 * half → j < half →
    octetAt (packGrays l) j = l.getD (2 * j) 0 ++ l.getD (2 * j + 1) 0
  | [], half, _, h, hj => by simp at h; omega
  | [_], half, _, h, _ => by simp at h; omega
  | _ :: _ :: _, _, 0, _, _ => rfl
  | a :: b :: t, half, j + 1, h, hj => by
    simp only [List.length_cons] at h
    exact packGrays_octet (l := t) (half := half - 1) (by omega) (by omega)

/-- The two grays of a byte, the earlier one above (R182). -/
theorem grayFields (a b : Gray) : fieldOf (a ++ b) 4 4 = a.toNat ∧ fieldOf (a ++ b) 0 4 = b.toNat := by
  obtain ⟨high, low⟩ := grays_of_byte a b
  rw [fieldOf_eq_extractLsb', fieldOf_eq_extractLsb', high, low]
  exact ⟨rfl, rfl⟩

theorem LineItem.length_bytes {x : LineItem} {half : Nat} (whole : x.pixels.length = 2 * half) (last : Bool) :
    (x.bytes last).length = 4 + half := by
  simp [LineItem.bytes, bytes16, length_packGrays whole, Nat.add_comm 4]

/-- A LINES item of `half` bytes of grays as R182 lays it out, from the offset `o` on. -/
def LineItem.StandsAt (x : LineItem) (half : Nat) (last : Prop) (b : List Byte) (o : Nat) : Prop :=
  wordAt b o = x.line % 65536 ∧ octetAt b (o + 2) = BitVec.ofNat 8 x.grade ∧
    ((octetAt b (o + 3)).getLsbD 7 = true ↔ last) ∧ (octetAt b (o + 3)).getLsbD 6 = x.held ∧
    (octetAt b (o + 3)).getLsbD 5 = x.source.isSome ∧
    fieldOf (octetAt b (o + 3)) 3 2 = [none, some Origin.own, some .peer, some .merged].idxOf x.origin ∧
    (∀ st, x.source = some st → fieldOf (octetAt b (o + 3)) 0 3 = st.val) ∧
    ∀ j, j < half → fieldOf (octetAt b (o + 4 + j)) 4 4 = (x.pixels.getD (2 * j) 0).toNat ∧
      fieldOf (octetAt b (o + 4 + j)) 0 4 = (x.pixels.getD (2 * j + 1) 0).toNat

/-- The byte of an item's flags, its origin kind and its source. -/
def LineItem.flagByte (x : LineItem) (last : Bool) : Byte :=
  BitVec.ofNat 8 (boolNat last 128 + boolNat x.held 64 + boolNat x.source.isSome 32 + originCode x.origin * 8 +
    (match x.source with
      | some st => st.val
      | none => 0))

theorem LineItem.flagByte_fields (x : LineItem) (last : Bool) : (x.flagByte last).getLsbD 7 = last ∧
    (x.flagByte last).getLsbD 6 = x.held ∧ (x.flagByte last).getLsbD 5 = x.source.isSome ∧
    fieldOf (x.flagByte last) 3 2 = originCode x.origin ∧
    ∀ st, x.source = some st → fieldOf (x.flagByte last) 0 3 = st.val := by
  obtain ⟨line, grade, held, source, origin, pixels⟩ := x
  have fields := lineByte_fields last held source.isSome ⟨originCode origin, originCode_lt _⟩
  cases source with
  | none =>
    obtain ⟨ends, held, named, origin, -⟩ := fields 0
    exact ⟨ends, held, named, origin, nofun⟩
  | some st =>
    obtain ⟨ends, held, named, origin, source⟩ := fields st
    exact ⟨ends, held, named, origin, fun _ h => Option.some.inj h ▸ source⟩

theorem LineItem.standsAt {x : LineItem} {half : Nat} (whole : x.pixels.length = 2 * half) {last : Bool} {b : List Byte} {o : Nat}
    (here : BytesAt b o (x.bytes last)) : x.StandsAt half (last = true) b o := by
  have len := x.length_bytes whole last
  have flags : octetAt b (o + 3) = x.flagByte last := here 3 (by omega)
  have grays : BytesAt b (o + 4) (packGrays x.pixels) :=
    here.right (a := bytes16 x.line ++ [BitVec.ofNat 8 x.grade, x.flagByte last])
  obtain ⟨ends, held, named, origin, source⟩ := x.flagByte_fields last
  refine ⟨(here.word (j := 0) (by omega)).trans (bytes16_word _), here 2 (by omega), ?_⟩
  rw [flags, ← originCode_eq, ends]
  refine ⟨Iff.rfl, held, named, origin, source, fun j hj => ?_⟩
  rw [grays j (by rwa [length_packGrays whole]), packGrays_octet whole hj]
  exact grayFields _ _

/-- The items in order, each with whether it is the last. -/
theorem itemsBytes_eq : ∀ l : List LineItem,
    itemsBytes l = (l.mapIdx (fun i x => x.bytes (decide (i + 1 = l.length)))).flatten
  | [] => rfl
  | [x] => by simp [itemsBytes]
  | x :: y :: t => by
    rw [show itemsBytes (x :: y :: t) = x.bytes false ++ itemsBytes (y :: t) from rfl, itemsBytes_eq (y :: t)]
    simp [List.mapIdx_cons]

theorem lines_layout (result : Result) (slot : Byte) (first : Nat) {items : List LineItem} {half : Nat}
    (whole : ∀ x ∈ items, x.pixels.length = 2 * half) :
    (Response.lines result slot first items).bytes.length = 8 + items.length * (4 + half) ∧
    ∀ (i : Nat) (x : LineItem), items[i]? = some x →
      x.StandsAt half (i + 1 = items.length) (Response.lines result slot first items).bytes (8 + i * (4 + half)) := by
  have even : ∀ p ∈ items.mapIdx (fun i x => x.bytes (decide (i + 1 = items.length))), p.length = 4 + half := by
    intro p hp
    obtain ⟨i, hi, rfl⟩ := List.mem_mapIdx.1 hp
    exact LineItem.length_bytes (whole _ (List.getElem_mem hi)) _
  refine ⟨?_, fun i x hx => ?_⟩
  · rw [Response.length_bytes]
    simp only [Response.body, bytes16, List.length_append, List.length_cons, List.length_nil]
    rw [itemsBytes_eq, length_flatten_of_even even, List.length_mapIdx]
    omega
  · have part : BytesAt (itemsBytes items) (i * (4 + half)) (x.bytes (decide (i + 1 = items.length))) := by
      rw [itemsBytes_eq]
      exact BytesAt.flatten even (by simp [hx])
    rw [← decide_eq_true_iff (p := i + 1 = items.length)]
    exact LineItem.standsAt (whole x (List.mem_of_getElem? hx))
      (part.before ((Response.lines result slot first items).bytes.take 8))

/-! ## DIRECTORY (R97, R182) -/

theorem length_padTo (n : Nat) (l : List Byte) : (padTo n l).length = n := by simp [padTo]

theorem padTo_octet {n i : Nat} (h : i < n) (l : List Byte) : octetAt (padTo n l) i = octetAt l i := by
  simp only [padTo, octetAt, List.getD_eq_getElem?_getD, List.getElem?_take, h, if_true, List.getElem?_append]
  split
  · rfl
  · next beyond =>
    have past : l[i]? = none := List.getElem?_eq_none (Nat.not_lt.1 beyond)
    rw [past]
    exact List.getElem?_getD_replicate_default_eq _ _ _

theorem SlotReport.length_bytes (p : SlotReport) : p.bytes.length = 23 := by
  simp [SlotReport.bytes, bytesInt16, bytes16, length_padTo]

/-- A slot report as R182 lays it out, from the offset `o` on. -/
def SlotReport.StandsAt (p : SlotReport) (b : List Byte) (o : Nat) : Prop :=
  let r := p.record
  ((octetAt b o).getLsbD 7 = true ∧ (octetAt b o).getLsbD 6 = r.bound ∧ (octetAt b o).getLsbD 5 = r.late ∧
    fieldOf (octetAt b o) 3 2 = [ChartState.aligning, .opened, .closed].idxOf r.state ∧
    fieldOf (octetAt b o) 1 2 = [Hold.none, .frozen, .thawing].idxOf r.hold) ∧
  (fieldOf (octetAt b (o + 1)) 6 2 = r.rate.val ∧ (octetAt b (o + 1)).getLsbD 5 = r.offset.isSome ∧
    (octetAt b (o + 1)).getLsbD 4 = r.expected.isSome ∧ (octetAt b (o + 1)).getLsbD 3 = r.highest.isSome ∧
    fieldOf (octetAt b (o + 1)) 0 3 = r.key.origin.val ∧ octetAt b (o + 2) = r.key.sequence) ∧
  ((wordAt b (o + 3) : Int) = r.offset.getD 0 % 65536 ∧ wordAt b (o + 5) = r.expected.getD 0 % 65536 ∧
    wordAt b (o + 7) = r.highest.getD 0 % 65536) ∧
  (octetAt b (o + 9) = (match r.closeReason with
      | some x => BitVec.ofNat 8 ([CloseReason.stop, .fade, .length, .newStart, .reset, .quiet, .splitAway].idxOf x)
      | none => 7) ∧
    octetAt b (o + 10) = BitVec.ofNat 8 (r.closeOrder.getD 0)) ∧
  (wordAt b (o + 11) = p.filled % 65536 ∧ wordAt b (o + 13) = p.pool % 65536) ∧
  (∀ j x, j < 8 → r.contributors[j]? = some x →
    (octetAt b (o + 15 + j)).getLsbD 7 = true ∧ (octetAt b (o + 15 + j)).getLsbD 6 = x.ended.isNone ∧
      fieldOf (octetAt b (o + 15 + j)) 4 2 = [none, some EndCause.close, some .loss, some .reset].idxOf x.ended ∧
      fieldOf (octetAt b (o + 15 + j)) 0 3 = x.station.val) ∧
  ∀ j, j < 8 → r.contributors.length ≤ j → octetAt b (o + 15 + j) = 0

theorem Contributor.byte_fields (x : Contributor) : x.byte.getLsbD 7 = true ∧ x.byte.getLsbD 6 = x.ended.isNone ∧
    fieldOf x.byte 4 2 = [none, some EndCause.close, some .loss, some .reset].idxOf x.ended ∧
    fieldOf x.byte 0 3 = x.station.val := by
  rw [← endCauseCode_eq]
  exact contributorByte_fields x.ended.isNone ⟨endCauseCode x.ended, endCauseCode_lt _⟩ x.station

theorem SlotReport.standsAt {p : SlotReport} {b : List Byte} {o : Nat} (here : BytesAt b o p.bytes) : p.StandsAt b o := by
  have len := p.length_bytes
  obtain ⟨r, filled, pool⟩ := p
  have flags : octetAt b o = _ := here 0 (by omega)
  have keyed : octetAt b (o + 1) = _ := here 1 (by omega)
  have contributors : BytesAt b (o + 15) (padTo 8 (r.contributors.map Contributor.byte)) :=
    here.right (a := (SlotReport.bytes ⟨r, filled, pool⟩).take 15)
  have contributor {j : Nat} (hj : j < 8) : octetAt b (o + 15 + j) = octetAt (r.contributors.map Contributor.byte) j := by
    rw [contributors j (by rwa [length_padTo]), padTo_octet hj]
  refine ⟨?_, ?_, ⟨?_, ?_, ?_⟩, ⟨?_, here 10 (by omega)⟩, ⟨?_, ?_⟩, fun j x hj hx => ?_, fun j hj beyond => ?_⟩
  · rw [flags, ← ChartState.code_eq, ← Hold.code_eq]
    exact slotByte_fields r.bound r.late ⟨_, r.state.code_lt⟩ ⟨_, r.hold.code_lt⟩
  · rw [keyed]
    obtain ⟨rate, offset, expected, highest, origin⟩ :=
      slotKeyByte_fields r.rate r.offset.isSome r.expected.isSome r.highest.isSome r.key.origin
    exact ⟨rate, offset, expected, highest, origin, here 2 (by omega)⟩
  · rw [here.word (by omega)]
    exact bytesInt16_word _
  · rw [here.word (by omega)]
    exact bytes16_word _
  · rw [here.word (by omega)]
    exact bytes16_word _
  · refine (here 9 (by omega)).trans ?_
    cases why : r.closeReason <;> simp [SlotReport.bytes, octetAt, bytesInt16, bytes16, why, CloseReason.code_eq]
  · rw [here.word (by omega)]
    exact bytes16_word _
  · rw [here.word (by omega)]
    exact bytes16_word _
  · have byte : octetAt b (o + 15 + j) = x.byte := (contributor hj).trans (octetAt_of_getElem? (by simp [hx]))
    rw [byte]
    exact x.byte_fields
  · rw [contributor hj]
    simp [octetAt, beyond]

/-- The 23 bytes of a place of the directory. -/
def slotPlaceBytes : Option SlotReport → List Byte
  | some p => p.bytes
  | none => List.replicate 23 0

theorem length_slotPlaceBytes (p : Option SlotReport) : (slotPlaceBytes p).length = 23 := by
  cases p with
  | none => rfl
  | some p => exact p.length_bytes

theorem directory_body (slots : List (Option SlotReport)) :
    (Response.directory slots).body = BitVec.ofNat 8 slots.length :: (slots.map slotPlaceBytes).flatten := by
  rw [← List.flatMap_def]
  refine congrArg _ (congrArg (List.flatMap · slots) (funext fun p => ?_))
  cases p <;> rfl

theorem directory_layout (slots : List (Option SlotReport)) :
    (Response.directory slots).bytes.length = 4 + 23 * slots.length ∧
    (∀ i, slots[i]? = some none → ∀ j, j < 23 → octetAt (Response.directory slots).bytes (4 + 23 * i + j) = 0) ∧
    ∀ (i : Nat) (p : SlotReport), slots[i]? = some (some p) → p.StandsAt (Response.directory slots).bytes (4 + 23 * i) := by
  have even : ∀ c ∈ slots.map slotPlaceBytes, c.length = 23 := by simp [length_slotPlaceBytes]
  have place {i : Nat} {p : Option SlotReport} (hp : slots[i]? = some p) :
      BytesAt (Response.directory slots).bytes (4 + 23 * i) (slotPlaceBytes p) := by
    have part : BytesAt (slots.map slotPlaceBytes).flatten (i * 23) (slotPlaceBytes p) :=
      BytesAt.flatten even (by simp [hp])
    rw [Response.bytes, directory_body, Nat.mul_comm]
    exact part.before ((Response.directory slots).bytes.take 4)
  refine ⟨?_, fun i unused j hj => ?_, fun i p used => SlotReport.standsAt (place used)⟩
  · rw [Response.length_bytes, directory_body, List.length_cons, length_flatten_of_even even, List.length_map]
    omega
  · rw [place unused j (by rwa [length_slotPlaceBytes])]
    exact List.getD_replicate _ hj

/-! ## STATUS (R166, R182) -/

theorem causes_sum (l : List FaultCause) : (l.map (fun c => 2 ^ c.code)).sum =
    l.count .widthCode * 1 + l.count .rateCode * 2 + l.count .depthCode * 4 + l.count .reservedBits * 8 +
      l.count .widthReduced * 16 := by
  induction l with
  | nil => rfl
  | cons c l ih =>
    rw [List.map_cons, List.sum_cons, ih]
    cases c <;> simp [FaultCause.code] <;> omega

theorem causes_sum_of_nodup {l : List FaultCause} (once : l.Nodup) : (l.map (fun c => 2 ^ c.code)).sum =
    boolNat (decide (.widthCode ∈ l)) 1 + boolNat (decide (.rateCode ∈ l)) 2 + boolNat (decide (.depthCode ∈ l)) 4 +
      boolNat (decide (.reservedBits ∈ l)) 8 + boolNat (decide (.widthReduced ∈ l)) 16 := by
  have counted (c : FaultCause) (weight : Nat) : l.count c * weight = boolNat (decide (c ∈ l)) weight := by
    simp [once.count, boolNat]
  simp only [causes_sum, counted]

/-- The causes by their codes. -/
def faultCauses : List FaultCause := [.widthCode, .rateCode, .depthCode, .reservedBits, .widthReduced]

theorem faultCauses_get {k : Nat} {c : FaultCause} (h : faultCauses[k]? = some c) : k = c.code := by
  match k, h with
  | 0, h | 1, h | 2, h | 3, h | 4, h => cases h; rfl

theorem causesByte_iff {l : List FaultCause} (once : l.Nodup) (c : FaultCause) :
    (BitVec.ofNat 8 (l.map (fun c => 2 ^ c.code)).sum).getLsbD c.code = true ↔ c ∈ l := by
  rw [causes_sum_of_nodup once]
  obtain ⟨width, rate, depth, reserved, reduced⟩ := causesByte_bits (decide (.widthCode ∈ l)) (decide (.rateCode ∈ l))
    (decide (.depthCode ∈ l)) (decide (.reservedBits ∈ l)) (decide (.widthReduced ∈ l))
  rw [← decide_eq_true_iff (p := c ∈ l)]
  cases c
  exacts [iff_of_eq (congrArg (· = true) width), iff_of_eq (congrArg (· = true) rate), iff_of_eq (congrArg (· = true) depth),
    iff_of_eq (congrArg (· = true) reserved), iff_of_eq (congrArg (· = true) reduced)]

theorem RosterPlace.length_bytes (p : RosterPlace) : p.bytes.length = 3 := by
  cases p with
  | self => rfl
  | peer e =>
    obtain ⟨state, deadline, lastHail⟩ := e
    cases lastHail with
    | none => rfl
    | some h =>
      obtain ⟨width, rate, boundKey⟩ := h
      cases boundKey <;> rfl

/-- A roster place as R182 lays it out, from the offset `o` on. -/
def RosterPlace.StandsAt (place : RosterPlace) (b : List Byte) (o : Nat) : Prop :=
  (place = .self → fieldOf (octetAt b o) 6 2 = 3) ∧
  ∀ e, place = .peer e → fieldOf (octetAt b o) 6 2 = [PeerState.absent, .live, .lost].idxOf e.state ∧
    (octetAt b o).getLsbD 5 = e.lastHail.isSome ∧
    ∀ h, e.lastHail = some h → (octetAt b o).getLsbD 4 = h.boundKey.isSome ∧ fieldOf (octetAt b o) 2 2 = h.width.val ∧
      fieldOf (octetAt b o) 0 2 = h.rate.val ∧
      ∀ k, h.boundKey = some k → octetAt b (o + 1) = BitVec.ofNat 8 k.origin.val ∧ octetAt b (o + 2) = k.sequence

theorem RosterPlace.standsAt {place : RosterPlace} {b : List Byte} {o : Nat} (here : BytesAt b o place.bytes) :
    place.StandsAt b o := by
  have len := place.length_bytes
  have head : octetAt b o = octetAt place.bytes 0 := here 0 (by omega)
  have second := here 1 (by omega)
  have third := here 2 (by omega)
  rw [RosterPlace.StandsAt, head, second, third]
  cases place with
  | self => exact ⟨fun _ => rfl, nofun⟩
  | peer e =>
    refine ⟨nofun, fun e' same => ?_⟩
    obtain rfl : e = e' := RosterPlace.peer.inj same
    obtain ⟨state, deadline, lastHail⟩ := e
    rw [← PeerState.code_eq]
    cases lastHail with
    | none =>
      obtain ⟨named, silent⟩ := silentPeerByte_fields ⟨_, state.code_lt⟩
      exact ⟨named, silent, nofun⟩
    | some h =>
      obtain ⟨width, rate, boundKey⟩ := h
      obtain ⟨named, heard, bound, wide, rated⟩ := heardPeerByte_fields ⟨_, state.code_lt⟩ boundKey.isSome width rate
      refine ⟨named, heard, fun h' same => ?_⟩
      cases same
      refine ⟨bound, wide, rated, fun k keyed => ?_⟩
      cases keyed
      exact ⟨rfl, rfl⟩

theorem status_stationByte (report : StatusReport) :
    fieldOf (octetAt (Response.status report).bytes 3) 4 2 = [ReportedState.listen, .joined, .mute].idxOf report.state ∧
    fieldOf (octetAt (Response.status report).bytes 3) 0 3 = report.station.val := by
  rw [← ReportedState.code_eq]
  exact stationByte_fields ⟨_, report.state.code_lt⟩ report.station

theorem status_receptionByte {report : StatusReport} (slot : report.binding.getD 0 < 16) :
    (octetAt (Response.status report).bytes 4).getLsbD 7 = report.binding.isSome ∧
    (∀ c, report.binding = some c → fieldOf (octetAt (Response.status report).bytes 4) 3 4 = c) ∧
    (octetAt (Response.status report).bytes 4).getLsbD 2 = report.unphased ∧
    fieldOf (octetAt (Response.status report).bytes 4) 0 2 =
      [Demodulator.search, .startTone, .phasing, .image].idxOf report.demodulator := by
  rw [← Demodulator.code_eq]
  obtain ⟨bound, place, unphased, state⟩ :=
    receptionByte_fields report.binding.isSome report.unphased ⟨_, slot⟩ ⟨_, report.demodulator.code_lt⟩
  refine ⟨bound, fun c binding => ?_, unphased, state⟩
  exact place.trans (by simp [binding])

theorem status_bytes_eq_roster (report : StatusReport) :
    (Response.status report).bytes = (Response.status report).bytes.take 12 ++ (report.roster.map RosterPlace.bytes).flatten :=
  rfl

theorem status_layout (report : StatusReport) :
    (Response.status report).bytes.length = 12 + 3 * report.roster.length ∧
    ∀ (i : Nat) (place : RosterPlace), report.roster[i]? = some place →
      place.StandsAt (Response.status report).bytes (12 + 3 * i) := by
  have even : ∀ c ∈ report.roster.map RosterPlace.bytes, c.length = 3 := by simp [RosterPlace.length_bytes]
  refine ⟨?_, fun i place hp => RosterPlace.standsAt ?_⟩
  · rw [status_bytes_eq_roster, List.length_append, length_flatten_of_even even, List.length_map, Nat.mul_comm]
    rfl
  · have part : BytesAt (report.roster.map RosterPlace.bytes).flatten (i * 3) place.bytes :=
      BytesAt.flatten even (by simp [hp])
    rw [status_bytes_eq_roster, Nat.mul_comm]
    exact part.before _

/-! ## READ_STRAPS (R184) -/

/-- Stream bit 0 is bit 7 of the first byte (R184). -/
theorem latchedBytes_bit (latched : BitVec 64) {k : Nat} (h : k < 64) :
    (octetAt (latchedBytes latched) (k / 8)).getLsbD (7 - k % 8) = latched.getLsbD (63 - k) := by
  have byte : octetAt (latchedBytes latched) (k / 8) = latched.extractLsb' (56 - 8 * (k / 8)) 8 :=
    octetAt_of_getElem? (by rw [latchedBytes, List.getElem?_map, List.getElem?_range (by omega)]; rfl)
  have bit : 56 - 8 * (k / 8) + (7 - k % 8) = 63 - k := by omega
  simp [byte, BitVec.getLsbD_extractLsb', bit]
  omega

theorem straps_bytes (latched : BitVec 64) (st : Settings) :
    (Response.straps latched st).bytes = 0x86 :: 0 :: 17 :: (latchedBytes latched ++ st.bytes) := by
  simp [Response.bytes, Response.kind, Response.body, bytes16, latchedBytes, Settings.bytes]

theorem straps_latched (latched : BitVec 64) (st : Settings) {k : Nat} (h : k < 64) :
    (octetAt (Response.straps latched st).bytes (3 + k / 8)).getLsbD (7 - k % 8) = latched.getLsbD (63 - k) := by
  have bits : BytesAt (latchedBytes latched ++ st.bytes) 0 (latchedBytes latched) :=
    (BytesAt.self _).after (by simp) _
  have place : BytesAt (Response.straps latched st).bytes 3 (latchedBytes latched) :=
    bits.before ((Response.straps latched st).bytes.take 3)
  rw [place _ (by simp [latchedBytes]; omega), latchedBytes_bit latched h]

end Sys2Proof.Machine
end

section
/-!
PROOF. What a READ transfer clocks out, and the statement ReadTransferTakesHead.
-/
namespace Sys2Proof.Machine

variable {s : State}

/-! ## READ transfers (R177) -/

theorem State.headResponse_run (run : s.config.state = .run) : s.headResponse = s.port.queue.head? :=
  if_pos (s.running_eq_true_iff.2 run)

/-- In RUN a transfer of the first byte 02 is a READ. -/
theorem exec_readTransfer_read (run : s.config.state = .run) (clocks : Nat) :
    exec (.readTransfer ⟨0x02, clocks⟩) s = .next (s.readOut clocks) :=
  congrArg Host.Outcome.next (State.whenCan_true (State.port_on run) _)

/-- In RUN a transfer whose first byte names neither WRITE nor READ clocks out zeros. -/
theorem exec_readTransfer_ignored (run : s.config.state = .run) {first : Byte} (notWrite : first ≠ 0x01)
    (notRead : first ≠ 0x02) (clocks : Nat) :
    exec (.readTransfer ⟨first, clocks⟩) s = .next (s.clockOut (s.portStatus :: List.replicate clocks 0)) := by
  have ignored : transferOf first = .ignored := (if_neg notWrite).trans (if_neg notRead)
  refine congrArg Host.Outcome.next ((State.whenCan_true (State.port_on run) _).trans ?_)
  simp only [ignored]

theorem State.readOut_empty (run : s.config.state = .run) (empty : s.port.queue = []) (clocks : Nat) :
    s.readOut clocks = s.clockOut (s.portStatus :: List.replicate clocks 0) := by
  have noHead : s.headResponse = none := by rw [State.headResponse_run run, empty]; rfl
  simp [State.readOut, noHead, clocked, padTo_nil]

/-- The head response leaves with its first byte (R177). -/
theorem State.readOut_head (run : s.config.state = .run) {r : Response} {rest : List Response} (queue : s.port.queue = r :: rest)
    (clocks : Nat) : s.readOut clocks = { s with port := { s.port with
      queue := if clocks = 0 then r :: rest else rest, clockedOut := s.portStatus :: padTo clocks r.bytes } } := by
  have head : s.headResponse = some r := by rw [State.headResponse_run run, queue]; rfl
  cases clocks with
  | zero =>
    rw [if_pos rfl, ← queue]
    simp [State.readOut, head, clocked, State.clockOut]
  | succ n => simp [State.readOut, head, clocked, State.clockOut, queue]

/-! ## The statement -/

/-- Settles O60: each response by the lemma of its layout, a READ transfer by whether a response waits. -/
theorem readTransferTakesHead : Obligations.ReadTransferTakesHead := by
  unfold Obligations.ReadTransferTakesHead
  intro octet field word code
  refine ⟨fun r fits => Response.count_word fits, fun request result value => ?_,
    fun request => ?_, fun result slot first items half whole => ?_, fun slots => ?_,
    fun report slot once => ?_, fun latched st => ?_, fun s clocks run => ?_⟩
  · rw [show code result = result.code from result.code_eq.symm]
    exact ack_bytes request result value
  · refine ⟨fun e => ?_, event_bytes _ _, event_bytes _ _⟩
    rw [event_bytes, EventAnswer.bytes, e.kind.code_eq]
    rfl
  · obtain ⟨len, stands⟩ := lines_layout result slot first whole
    exact ⟨len, rfl, result.code_eq, rfl, bytes16_word _, rfl, stands⟩
  · obtain ⟨len, unused, used⟩ := directory_layout slots
    exact ⟨len, rfl, rfl, unused, used⟩
  · obtain ⟨len, places⟩ := status_layout report
    obtain ⟨state, station⟩ := status_stationByte report
    obtain ⟨bound, place, unphased, demodulator⟩ := status_receptionByte slot
    refine ⟨len, rfl, state, station, bound, place, unphased, demodulator, bytes16_word _, rfl, rfl, rfl, rfl,
      fun k cause named => ?_, places⟩
    rw [faultCauses_get named]
    exact causesByte_iff once cause
  · exact ⟨by simp [straps_bytes, latchedBytes, Settings.bytes], rfl, fun k => straps_latched latched st, rfl⟩
  · intro status
    have reads : s.portStatus = status := State.portStatus_run run
    refine ⟨fun empty => ?_, fun r rest queue => ⟨padTo clocks r.bytes, ?_, length_padTo _ _, fun i hi => padTo_octet hi _⟩,
      fun first notWrite notRead => ?_⟩
    · rw [exec_readTransfer_read run, State.readOut_empty run empty, reads]
      rfl
    · rw [exec_readTransfer_read run, State.readOut_head run queue, reads]
    · rw [exec_readTransfer_ignored run notWrite notRead, reads]
      rfl

end Sys2Proof.Machine
end

section
/-!
PROOF. What a step takes from the queue of commands (StepRunsFrontCommand).
-/
namespace Sys2Proof.Machine

/-- Settles O1: the queue is not empty, so the step runs its front and does not idle. -/
theorem stepRunsFrontCommand : Obligations.StepRunsFrontCommand := by
  intro s c rest front
  rw [step, front]

end Sys2Proof.Machine
end
